-- ==== Sys2Proof/Word.lean ====
section
/-!
DEFINITION. Sys2Proof/Word.lean: bytes and the plainest numbers of the FKW-740, a single-chip cassette deck controller.
The part is a block, not a processor: it has no instruction word. The only things the manual treats as bits are the bytes
of the message link (section 11.1) and the three cam lines (R1).
-/

namespace Sys2Proof

/-- One byte of the message link (section 11.1). -/
abbrev Byte := BitVec 8

/-- A reading of the three cam lines CAM0..CAM2 (R1). -/
abbrev CamCode := BitVec 3

end Sys2Proof
end

