-- ==== Sys2Proof/Syntax.lean ====
section
/-!
DEFINITION. Sys2Proof/Syntax.lean: the commands the part takes, one constructor of Instr per row of the table of operations and
events, with the operands each row carries. A request row carries the arguments of the request (section 11.9); an event row
carries what the part sees of the event: a level, a code, or the measured quantity its rule judges (log 8).
-/

namespace Sys2Proof

/-- The two line standards (introduction, "Line standards"). -/
inductive Standard | a | b
  deriving DecidableEq, Repr

/-- The three tape speeds (introduction, "Tape speeds"). -/
inductive Speed | s | h | t
  deriving DecidableEq, Repr

/-- The speed of a programme entry (section 8.1). -/
inductive SpeedChoice | fixed (v : Speed) | auto
  deriving DecidableEq, Repr

/-- The two video sources (R109). -/
inductive Source | tuner | line
  deriving DecidableEq, Repr

/-- The two reels (R61). -/
inductive Reel | supply | takeUp
  deriving DecidableEq, Repr

/-- The mode argument of a TRACKING request (R47). -/
inductive TrackingArg | auto | manual | unchanged
  deriving DecidableEq, Repr

/-- AFT window of the module's STATUS register (section 5.1). -/
inductive AftWindow | low | inside | high
  deriving DecidableEq, Repr

/-- What a successful READ of STATUS returns (section 5.1): the AFT window, the level 0..63 and the lock bit. -/
structure ModuleStatus where
  window : AftWindow
  level  : Nat
  lock   : Bool
  deriving DecidableEq, Repr

/-- A calendar date (section 7.1). -/
structure Date where
  year  : Nat
  month : Nat
  day   : Nat
  deriving DecidableEq, Repr

/-- A date-time to the second (section 7.1). -/
structure DateTime where
  date   : Date
  hour   : Nat
  minute : Nat
  second : Nat
  deriving DecidableEq, Repr

/-- The preset record of a PRESET_WRITE, as section 11.9 lays it out and before the checks of R107. -/
structure PresetRecord where
  used        : Bool
  aftOff      : Bool
  skip        : Bool
  sourceBox   : Bool
  codePresent : Bool
  plan        : Nat
  channel     : Nat
  fine        : Int
  nameLength  : Nat
  name        : List Byte
  boxChannel  : Nat
  networkCode : Nat
  deriving DecidableEq, Repr

/-- The programme entry record of an ENTRY_WRITE, as section 11.9 lays it out and before the checks of R140. -/
structure EntryRecord where
  enabled       : Bool
  allowSlower   : Bool
  labelFollow   : Bool
  markFlag      : Bool
  powerOffAfter : Bool
  markGiven     : Bool
  repeatCode    : Nat
  date          : Option Date
  weekday       : Option Nat
  startHour     : Nat
  startMinute   : Nat
  stopHour      : Nat
  stopMinute    : Nat
  preset        : Nat
  speedCode     : Nat
  policyCode    : Nat
  deriving DecidableEq, Repr

/-- The box profile as section 11.9 lays it out (60 bytes), before the checks of R175. -/
structure BoxProfile where
  carrier     : Nat
  inverted    : Bool
  biphase     : Bool
  minimal     : Bool
  enter       : Bool
  topBit      : Bool
  bitField    : Nat
  repeatField : Nat
  unit        : Nat
  headerMark  : Nat
  headerSpace : Nat
  bitMark     : Nat
  space0      : Nat
  space1      : Nat
  halfBit     : Nat
  stopMark    : Nat
  gap         : Nat
  codes       : List Nat
  deriving DecidableEq, Repr

/-- The five bytes of a SETTINGS_WRITE (section 11.9). -/
structure SettingsBytes where
  mask     : Byte
  standard : Byte
  speed    : Byte
  switches : Byte
  feed     : Byte
  deriving DecidableEq, Repr

/-- The fields of a LABEL packet (R117), unjudged. -/
structure LabelFields where
  network : Nat
  day     : Nat
  month   : Nat
  hour    : Nat
  minute  : Nat
  status  : Nat
  toggle  : Nat
  deriving DecidableEq, Repr

/-- The fields of a TIME packet (R117), unjudged: two-digit year, UTC date and time, local offset in half-hours. -/
structure TimeFields where
  year   : Nat
  month  : Nat
  day    : Nat
  hour   : Nat
  minute : Nat
  second : Nat
  offset : Int
  deriving DecidableEq, Repr

/-- One line-data packet as sliced (R117): its 14 bytes, and the fields that its payload spells when it is read as a LABEL and as a
TIME. The layout of the payload is outside the manual (section 11.9), so the fields stand beside the bytes (log 24). -/
structure Packet where
  kind    : Byte
  payload : List Byte
  check   : Byte
  label   : LabelFields
  time    : TimeFields
  deriving DecidableEq, Repr

/-- Why a frame is abandoned by a received byte (R198). -/
inductive FrameFault
  | badLength (b : Byte)
  | missingStop
  deriving DecidableEq, Repr

/-- The commands: one constructor per row of spec/opcode_table.json, in the table's order. -/
inductive Instr
  -- Mechanism commands of the host (requests of kind MECH, section 1.4)
  | play
  | record (startPaused : Bool)
  | pause
  | stop (cancelTimer : Bool)
  | cue
  | review
  | fwind
  | rwind
  | eject
  -- Events of the mechanism (chapter 1)
  | camTargetReached (code : CamCode)
  | camTimeout
  | cassetteInClose (tab : Bool)
  | cassetteInOpen
  | endLeaderCovered (covered : Bool)
  | startLeaderCovered (covered : Bool)
  | stillTimerExpiry
  | haltTimerExpiry
  | reelStall
  -- Servo and tracking (chapter 2)
  | drumFgPulse (period : Nat)
  | drumPgPulse (phase : Int)
  | drumFgOverdue
  | drumPgOverdue
  | capstanFgPulse (period : Nat)
  | drumLockTimeout
  | capstanLockTimeout
  | recordGateTimeout
  | recordGuardTimeout
  | vsyncPulse (src : Source) (interval : Nat) (envelope : Nat)
  | syncAbsentTimeout (src : Source)
  | internalFrameEdge (envelope : Nat)
  | controlPulseReplayed (duty : Nat) (phase : Int) (interval : Nat) (envelope : Nat)
  | phaseModeGapTimeout
  | playSpeedGapTimeout
  | tracking (mode : TrackingArg) (value : Option Int)
  -- Position (chapter 3)
  | posGapTimeout
  | zero
  | setMemory (target : Int)
  | clearMemory
  | position
  | reelPulse (reel : Reel) (interval : Nat)
  | counterNoticeTimer
  | remainingNoticeTimer
  -- Marks and searches (chapter 4)
  | markGapTimeout
  | markList (first : Nat)
  | markWrite (type : Nat) (value : Nat)
  | markErase
  | indexSearch (n : Int) (playAfter : Bool)
  | counterSearch (target : Int) (playAfter : Bool)
  | blankSearch
  | indexScan
  | blankTimerExpiry
  | scanPlayTimerExpiry
  -- Tuner (chapter 5)
  | tunerTransactionEnd (answer : Option ModuleStatus)
  | initWaitExpiry
  | settleTimerExpiry
  | watchTimerExpiry
  | tunePreset (n : Nat)
  | tuneChannel (plan : Nat) (channel : Nat)
  | tuneDirect (steps : Nat)
  | tuneUp
  | tuneDown
  | source (src : Source)
  | presetWrite (n : Nat) (entry : PresetRecord)
  | presetRead (n : Nat)
  | scanStart (plan : Nat)
  | scanStop
  | scanConfirmExpiry
  -- Line data (chapter 6)
  | lineDataPacket (packet : Packet)
  | labelTimerExpiry
  -- Clock (chapter 7)
  | secondBoundary
  | clockSet (time : Option DateTime) (trim : Option Int)
  | clockRead
  -- Timed recordings (chapter 8)
  | entryWrite (slot : Nat) (entry : EntryRecord)
  | entryRead (slot : Nat)
  | cancel (slot : Nat)
  | delete (slot : Nat)
  | disable (slot : Nat)
  | enable (slot : Nat)
  | extend (slot : Nat) (newStop : DateTime)
  | dueTimerExpiry
  | stopTimerExpiry
  | scheduledStopExpiry
  | windowTimerExpiry
  | heldTimerExpiry
  | labelLossTimerExpiry
  | postHoldTimerExpiry
  -- Set-top box and outlet (chapter 9)
  | boxProfileLoad (profile : BoxProfile)
  | boxProfileClear
  | boxProfileRead (part : Nat)
  | boxKey (key : Nat)
  | irFrameSent
  | irRetryTimerExpiry
  | outletConfig (onPoint : Nat) (offPoint : Nat)
  | outletOn
  | outletOff
  | outletRead
  | minimumOnTimerExpiry
  -- Power (chapter 10)
  | supGoodRise
  | supplyTimerExpiry
  | supplyFailure
  | powerKeyPress
  | powerRequestOn
  | powerRequestStandby
  | powerRequestRead
  | powerOnReset
  | pinReset
  | restart
  -- Link (chapter 11)
  | frameComplete (check : Byte)
  | frameAbandoned (why : FrameFault)
  | receiveGapTimeout
  | badFrame (kind : Byte)
  | unknownFrame (kind : Byte)
  | txFrameEnd
  | status
  | settingsWrite (bytes : SettingsBytes)
  | settingsRead
  | recordedSecondsCheck
  | byteReceived (b : Byte)
  | resetLineLow
  deriving DecidableEq, Repr

end Sys2Proof
end

