-- ==== Sys2Proof/Decode.lean ====
section
/-!
DEFINITION. Sys2Proof/Decode.lean: the table of operations and events gives its rows no fields and no bits, so no word spells a command.
The byte formats of the message link (section 11.9) stand in Machine/Requests.lean and Machine/Formats.lean.
-/

namespace Sys2Proof

/-- The command a word of the table spells: none, since no row of the table has bits. -/
def decodeTableWord (_nbits _w : Nat) : Option Instr := none

end Sys2Proof
end

