-- ==== Sys2Proof/Config.lean ====
section
/-!
DEFINITION. Sys2Proof/Config.lean: the fixed numbers of the part (each with its rule) and the one value the manual leaves open.
Times are in milliseconds unless a name says otherwise; crystal cycles are cycles of the 32,768 Hz crystal (R129).
-/

namespace Sys2Proof.Config

/-- R129: cycles of the crystal in an untrimmed second. -/
def cyclesPerSecond : Nat := 32768
/-- R129: crystal cycles per tick of the time base. -/
def cyclesPerTick : Nat := 32
/-- R129: ticks of the time base in a second. -/
def ticksPerSecond : Nat := 1024
/-- R129: the time base is a 48-bit count. -/
def timeBaseModulus : Nat := 2 ^ 48

/-- R4: insert timeout. -/
def insertTimeout : Nat := 3000
/-- R4: thread timeout. -/
def threadTimeout : Nat := 4000
/-- R4: unthread timeout. -/
def unthreadTimeout : Nat := 4000
/-- R4: eject timeout. -/
def ejectTimeout : Nat := 3000
/-- R4: cam shift timeout. -/
def shiftTimeout : Nat := 1500
/-- R19: the still timer. -/
def stillTime : Nat := 300000
/-- R20: the halt timer. -/
def haltTime : Nat := 180000
/-- R23: the least stall threshold. -/
def stallLeast : Nat := 1000
/-- R23: the greatest stall threshold. -/
def stallMost : Nat := 12000
/-- R16, R17: frames of a backspace and of a pre-roll. -/
def junctionFrames : Int := 30
/-- R35: the drum lock timer. -/
def drumLockTime : Nat := 3000
/-- R37: the capstan lock timer. -/
def capstanLockTime : Nat := 1000
/-- R41: the record gate. -/
def gateTime : Nat := 3000
/-- R42: the record guard. -/
def guardTime : Nat := 2000
/-- R36, R40, R54, R56, R75: the control-pulse gap. -/
def pulseGap : Nat := 600
/-- R44: the play-speed gap. -/
def playSpeedGap : Nat := 1000
/-- R90: the NO_SIGNAL timer of a blank search. -/
def blankTime : Nat := 2000
/-- R91: the play time of an index scan. -/
def scanPlayTime : Nat := 8000
/-- R98: the INIT wait. -/
def initWait : Nat := 50
/-- R101: the settle time. -/
def settleTime : Nat := 40
/-- R104: the watch period. -/
def watchTime : Nat := 1000
/-- R112: the further wait after a lock within a scan. -/
def confirmWait : Nat := 60
/-- R121: the label timer. -/
def labelTime : Nat := 10000
/-- R159: the held timer. -/
def heldTime : Nat := 1800000
/-- R161: the label-loss timer. -/
def labelLossTime : Nat := 60000
/-- R168: the post-hold timer. -/
def postHoldTime : Nat := 10000
/-- R157: the least watch before a fallback test. -/
def fallbackWatch : Nat := 10000
/-- R182: the retry timer. -/
def retryTime : Nat := 1000
/-- R185: the minimum-on timer. -/
def minimumOnTime : Nat := 200
/-- R188: the supply timer. -/
def supplyTime : Nat := 2000
/-- R198: the receive gap. -/
def receiveGap : Nat := 10
/-- R61: the part of a measurement window whose pulses are not used. -/
def reelWindow : Nat := 1000

/-- R65: the hub term H. -/
def hubTerm : Nat := 6169
/-- R204: places of the notice queue. -/
def noticePlaces : Nat := 12
/-- R200: places of the receive holding. -/
def holdingPlaces : Nat := 2
/-- R178: places of the IR frame queue. -/
def irPlaces : Nat := 8
/-- R76: entries of the mark list. -/
def markPlaces : Nat := 32
/-- R74: pulses of a mark. -/
def markPulses : Nat := 48
/-- R86: frames by which the record guard goes before a span. -/
def guardFrames : Int := 24
/-- R176: microseconds of a unit of a WIRED profile's unit field. -/
def wiredUnit : Nat := 26
/-- Section 5.5: presets of the table. -/
def presetCount : Nat := 80
/-- Section 8.1: programme slots. -/
def slotCount : Nat := 16

/-- The FREE VALUE of R1: the manual says forward for a higher target code and reverse for a lower one, and gives no direction
for a target equal to the code last reported (log 7). True is forward. No body: nothing can be proved of it. -/
opaque forwardAtEqualCode : CamCode → Bool

/-! ## The tuner module's bus (R95): codes and words the manual leaves to the module (section 11.9) -/

/-- The two bits of the operation: a WRITE where set, else a READ. -/
opaque moduleOperation : Bool → BitVec 2

/-- The level TUNER drives in the turnaround bit of a WRITE. -/
opaque writeTurnaround : Bool

/-- The data word of a divider. -/
opaque dividerWord : Nat → BitVec 16

/-- The data word of a band, by its code, and the standby setting. -/
opaque bandWord : Nat → Bool → BitVec 16

end Sys2Proof.Config
end

