-- ==== Sys2Proof/Machine/State.lean ====
section
/-!
DEFINITION. Sys2Proof/Machine/State.lean: everything the manual gives the part to hold, block by block (chapters 1 to 11), as plain
data; the notices it sends; the reports its blocks hand each other within one step; the reset state (POWER_ON).
Times kept by a timer are counts of the 32,768 Hz crystal since the last reset (field crystal of the clock, R129).
-/

namespace Sys2Proof.Machine

/-! ## Common -/

/-- A timer: stopped, or running since the given crystal count (log 3). -/
abbrev Timer := Option Nat

/-- The owner of the recorder (R11, R12). -/
inductive Owner | none | panel | timer (slot : Nat)
  deriving DecidableEq, Repr

/-- The origin of a command (section 1.4). -/
inductive Origin | panel | search | timer (slot : Nat)
  deriving DecidableEq, Repr

/-- Results of a reply (R202). -/
inductive Result | done | accepted | refused
  deriving DecidableEq, Repr

/-- Reasons of a reply (R202). -/
inductive Reason
  | none | busy | noCassette | noTab | spanProtected | timerActive | recording | invalidArg | clockInvalid | tableFull
  | notFound | mechFault | badState | atEnd | atStart | noControl | tunerFault | badFrame | unknown
  deriving DecidableEq, Repr

/-! ## The lines the part reads -/

/-- Levels of the input lines (introduction, "Pins"), as the last events left them (log 4, log 5). -/
structure Pins where
  cam        : CamCode   -- CAM0..CAM2 (R1)
  cassetteIn : Bool      -- CAS_IN closed (R2)
  tabSwitch  : Bool      -- TAB_SW: tab present (R2)
  leaderEnd  : Bool      -- LDR_END covered (R2)
  leaderStart : Bool     -- LDR_START covered (R2)
  supGood    : Bool      -- SUP_GOOD high (R188)
  resetLow   : Bool      -- RESET_N held low (R196)
  deriving DecidableEq, Repr

/-! ## MECH (chapter 1) -/

/-- The mechanism states (R3). -/
inductive MState
  | empty | inserting | idle | threading | halt | play | still | record | recPause | cue | review | fwind | rwind
  | shifting | unthreading | ejecting | jammed
  deriving DecidableEq, Repr

/-- The junction operations of REC_PAUSE (section 1.7). -/
inductive Junction | backspace | lockWait | preRoll
  deriving DecidableEq, Repr

/-- The mechanism commands (section 1.4). -/
inductive MechCmd | play | record | pause | stop | cue | review | fwind | rwind | eject
  deriving DecidableEq, Repr

/-- A command as MECH holds it: its flags and origin (R14). The tag tells the searches and the occurrences of the two inner
origins apart (log 16); silent marks the auto-rewind of R21, which has no reply and no closing notice. -/
structure Cmd where
  what   : MechCmd
  paused : Bool := false
  cancel : Bool := false
  origin : Origin
  tag    : Nat := 0
  silent : Bool := false
  deriving DecidableEq, Repr

/-- The fault code (R5). -/
inductive FaultCode | none | camTimeout | reelStall | drum | capstan | servo
  deriving DecidableEq, Repr

/-- The causes of MECH_DISCARDED (R10). -/
inductive DiscardCause | camTimeout | reelStall | drum | capstan | servo | endLeader | supply | standby
  deriving DecidableEq, Repr

/-- The causes of MECH_STATE (section 1.13). -/
inductive StateCause | rest | endLeader | startLeader | memoryStop | protectStop | inserted | recovery
  deriving DecidableEq, Repr

/-- How a command is closed (R10). -/
inductive CloseResult
  | done (state : MState)
  | refused (reason : Reason)
  | superseded
  | discarded (cause : DiscardCause)
  deriving DecidableEq, Repr

/-- The mode motor's drive (R1). -/
inductive Motor | off | fwd | rev
  deriving DecidableEq, Repr

/-- The reel drive (R3). -/
inductive ReelDrive | off | takeUp | supply
  deriving DecidableEq, Repr

/-- The halt timer's count: elapsed crystal cycles, and since when it runs; none while suspended (R20). -/
structure HaltCount where
  elapsed : Nat
  since   : Option Nat
  deriving DecidableEq, Repr

/-- The stall watch of R23: the moment of the watched reel's last pulse (or of the motion's begin), the previous interval in
ticks, and the pulses it has given in this motion. -/
structure StallWatch where
  last     : Nat
  interval : Nat
  pulses   : Nat
  deriving DecidableEq, Repr

/-- MECH's state (chapter 1). -/
structure Mech where
  state     : MState
  target    : MState               -- the kept target of SHIFTING (R3)
  camTarget : Option CamCode       -- the code a movement under way is driven toward (R1)
  lastCode  : Option CamCode       -- the last code 0..6 reported since reset (R1)
  motor     : Motor
  reel      : ReelDrive
  windSlow  : Bool                 -- wind at 8 times standard speed (R26)
  recAmp    : Bool                 -- the record-amplifier enable (R3)
  camTimer  : Timer                -- the timeout of a movement (R4)
  ejectRead : Bool                 -- within EJECTING, the cam has read EJECT (R28)
  inFlight  : Option Cmd           -- the command in flight (R3)
  slot      : Option Cmd           -- the pending slot (R14)
  owner     : Owner
  fault     : FaultCode
  tab       : Bool                 -- the held tab reading: present (R2)
  still     : Timer                -- R19
  halt      : Option HaltCount     -- R20
  junction  : Option Junction
  junctionAt : Int                 -- the counter at the start of the junction operation (R16, R17)
  cause     : Option StateCause    -- the cause an event-driven transition will announce
  recoveryPending : Bool           -- R29, R30
  recoveryRun     : Bool           -- a recovery run is under way (R29)
  standbyStop     : Bool           -- a standby stop is under way (R31)
  stall     : StallWatch
  deriving DecidableEq, Repr

/-! ## SERVO (chapter 2) -/

/-- The drum loop's states (R34). -/
inductive DrumState | stopped | runup | speed | locked
  deriving DecidableEq, Repr

/-- The drum loop: its state, its four consecutive counts and its lock timer (R34, R35); heldOff after a DRUM fault (R33). -/
structure Drum where
  state   : DrumState
  fgGood  : Nat
  fgBad   : Nat
  pgGood  : Nat
  pgBad   : Nat
  timer   : Timer
  heldOff : Bool
  deriving DecidableEq, Repr

/-- The capstan loop's states (section 2.3). -/
inductive CapState | stopped | speed | locked
  deriving DecidableEq, Repr

/-- A capstan target: a tape speed, whether it is five times that (picture search), and the direction (R33). -/
structure CapTarget where
  speed   : Speed
  fast    : Bool
  reverse : Bool
  deriving DecidableEq, Repr

/-- The capstan loop (R36, R37). -/
structure Capstan where
  state     : CapState
  target    : Option CapTarget
  good      : Nat
  bad       : Nat
  speedMet  : Bool
  phaseMode : Bool
  phaseGood : Nat
  phaseBad  : Nat
  phaseMet  : Bool
  timer     : Timer
  deriving DecidableEq, Repr

/-- Presence of one source's sync (R38). -/
structure Sync where
  present : Bool
  good    : Nat
  bad     : Nat
  timer   : Timer
  deriving DecidableEq, Repr

/-- The reference source (R38). -/
inductive RefSource | internal | tuner | line
  deriving DecidableEq, Repr

/-- The envelope window (newest sample first), the two consecutive counts of E and the signal condition (R45). -/
structure Envelope where
  window   : List Nat
  lowRun   : Nat
  highRun  : Nat
  noSignal : Bool
  deriving DecidableEq, Repr

/-- The tracking modes (R46). -/
inductive TrackMode | auto | manual
  deriving DecidableEq, Repr

/-- The tracking search states (R48). -/
inductive TrackState | idle | searching | converged | suspended
  deriving DecidableEq, Repr

/-- Tracking: the offsets, the stored manual value and the search (R46 to R50). -/
structure Tracking where
  mode     : TrackMode
  held     : Int
  pending  : Option Int       -- a change of the held offset that takes effect at the next frame boundary (R46)
  applied  : Int
  manual   : Int
  state    : TrackState
  left     : TrackState       -- the state a suspension left (R48)
  bySignal : Bool             -- the suspension came from NO_SIGNAL (R48)
  step     : Nat
  up       : Bool             -- direction +
  reversal : Nat
  flat     : Nat
  eOld     : Option Nat
  eConv    : Nat
  samples  : List Nat         -- samples of the measurement in progress
  low      : Nat              -- consecutive low blocks (R50)
  deriving DecidableEq, Repr

/-- SERVO's state (chapter 2). -/
structure Servo where
  drum         : Drum
  capstan      : Capstan
  syncTuner    : Sync
  syncLine     : Sync
  reference    : RefSource
  refCount     : Nat              -- sync pulses since the external reference was taken up (R38)
  recSpeed     : Option Speed     -- the recording session's speed (R43)
  pendingSpeed : Option Speed     -- an accepted automatic-speed request (R43)
  playSpeed    : Speed            -- R44
  pendingPlay  : Option Speed     -- a detected speed that takes effect at the next control pulse (R44)
  intervals    : List Nat         -- collected play-speed intervals (R44)
  avgSpeed     : Option Speed     -- the candidate of the latest completed average (R36, R44)
  pulseSeen    : Timer            -- since the last replayed control pulse, while within 0.6 s (R36, R40)
  speedGap     : Timer            -- the 1 s gap of R44
  tracking     : Tracking
  envelope     : Envelope
  slip         : Nat
  gate         : Timer            -- R41
  guard        : Timer            -- R42
  deriving DecidableEq, Repr

/-! ## POS (chapter 3) -/

/-- The counter source (R53). -/
inductive CounterSource | control | capstan | none
  deriving DecidableEq, Repr

/-- The cassette classes (R63). -/
inductive CassetteClass | c30 | c60 | c90 | c120 | c180 | c240
  deriving DecidableEq, Repr

/-- The estimate state (R66). -/
inductive EstState | none | live | held
  deriving DecidableEq, Repr

/-- One reel's record (R61): whether its last pulse arrived past the window's first second, its last four admitted intervals
(newest first) and the count of them. -/
structure ReelRecord where
  past   : Bool
  recent : List Nat
  count  : Nat
  deriving DecidableEq, Repr

/-- A motion in progress: its direction and the moment it began (R23). -/
structure Motion where
  forward : Bool
  start   : Nat
  deriving DecidableEq, Repr

/-- POS's state (chapter 3). The remaining values are functions of F16, the class and the line standard (R65). -/
structure Pos where
  counter     : Int
  source      : CounterSource
  acc         : Int                 -- the sub-frame accumulator (R55)
  gapSum      : Int                 -- R54
  approx      : Bool                -- R57
  target      : Option Int          -- the memory-stop target (R59)
  supply      : ReelRecord
  takeUp      : ReelRecord
  window      : Nat                 -- when the measurement window opened (R61, R62)
  cls         : Option CassetteClass
  candidate   : Option CassetteClass
  run         : Nat                 -- the identification run (R64)
  estState    : EstState
  f16         : Nat
  endApproach : Bool                -- R69
  motion      : Option Motion
  coast       : Option Bool         -- forward or not: the last motion's direction, while the tape stays on the drum (R40, R53; log 52)
  gap         : Timer               -- the gap watch of R53
  counterSent   : Nat               -- full seconds of the motion already announced (R68)
  remainingSent : Nat               -- full ten seconds already announced (R68)
  deriving DecidableEq, Repr

/-! ## MARK (chapter 4) -/

/-- Duty classes of a control pulse (R74). -/
inductive Duty | short | plain | long
  deriving DecidableEq, Repr

/-- Mark types (R76). -/
inductive MarkType | unreadable | index | protectBegin | protectEnd
  deriving DecidableEq, Repr

/-- One entry of the mark list (R76). -/
structure MarkEntry where
  pos     : Int
  type    : MarkType
  value   : Option Nat
  written : Bool
  deriving DecidableEq, Repr

/-- Where the reader stands (R75): no pulse yet in the motion, a bound just passed, or within a run. -/
inductive ReaderPhase | fresh | bounded | inRun
  deriving DecidableEq, Repr

/-- The reader (R75): pulses of the open run (newest first, position and class), whether the run has a bound before it,
the last pulse's class and the gap watch. -/
structure Reader where
  phase     : ReaderPhase
  pulses    : List (Int × Duty)
  sound     : Bool
  lastPlain : Bool
  heard     : Bool        -- a pulse has arrived in this motion, and the gap watch has not run out since (R80)
  gap       : Timer
  deriving DecidableEq, Repr

/-- The writer (R80 to R84). -/
inductive Writer
  | idle
  | writing (type : MarkType) (value : Nat) (origin : Origin) (count : Nat) (pos : Option Int) (inRecord : Bool)
  | erasing (count : Nat) (pos : Option Int)
  deriving DecidableEq, Repr

/-- The operation named in MARK_ABORTED. -/
inductive MarkOp | list | write | erase
  deriving DecidableEq, Repr

/-- Causes of MARK_ABORTED (R83). -/
inductive AbortCause | stopped | noControl | supply
  deriving DecidableEq, Repr

/-- Search kinds (R87). -/
inductive SearchKind | index | counter | blank | scan
  deriving DecidableEq, Repr

/-- Search states (section 4.5), with the three steps of settling (R89) told apart. -/
inductive SearchState | winding | stopFirst | moving | stopLast | playing | scanPlay
  deriving DecidableEq, Repr

/-- Results of a search (R93). -/
inductive SearchResult | found | notFound | failed | interrupted
  deriving DecidableEq, Repr

/-- What a FAILED or INTERRUPTED result carries (R93). -/
inductive SearchWhy
  | none
  | reason (r : Reason)
  | cause (c : DiscardCause)
  | fault (f : FaultCode)
  | memoryStop
  deriving DecidableEq, Repr

/-- The search record (section 4.5). -/
structure Search where
  kind      : SearchKind
  state     : SearchState
  n         : Int            -- index search: n
  count     : Nat            -- index search: marks met; scan: marks played
  start     : Int
  target    : Option Int
  playAfter : Bool
  lastPulse : Int
  timer     : Timer
  tag       : Nat
  waiting   : Option MechCmd -- the search command not yet closed
  deriving DecidableEq, Repr

/-- MARK's state (chapter 4). -/
structure Mark where
  reader    : Reader
  list      : List MarkEntry
  writer    : Writer
  headDuty  : Option Nat     -- R40, R74: the duty, in parts per thousand, put on the last pulse; none where it was left as it stood
  search    : Option Search
  guardDone : Bool           -- the record guard has acted in this entry to RECORD (R86)
  nextTag   : Nat
  deriving DecidableEq, Repr

/-! ## TUNER (chapter 5) -/

/-- Plans (R99). -/
inductive Plan | t | c | direct
  deriving DecidableEq, Repr

/-- Bands (R100). -/
inductive Band | low | mid | high
  deriving DecidableEq, Repr

/-- Tuner states (section 5.2). -/
inductive TunerState | off | init | tuning | aft | locked | noSignal | scanning | fault
  deriving DecidableEq, Repr

/-- A selection (section 5.3). -/
inductive Selection
  | preset (n : Nat)
  | channel (plan : Plan) (ch : Nat)
  | direct (steps : Nat)
  deriving DecidableEq, Repr

/-- A stored preset (section 5.5); channel is a channel of the plan or a frequency in steps. -/
structure Preset where
  plan        : Plan
  channel     : Nat
  fine        : Int
  aftOff      : Bool
  skip        : Bool
  name        : List Byte
  box         : Option Nat       -- the box channel of a preset of source BOX; none for source TUNER
  networkCode : Option Nat
  deriving DecidableEq, Repr

/-- The tuning target (R101). -/
structure TuneTarget where
  nominal : Nat
  fine    : Int
  aftOff  : Bool
  learn   : Option Nat
  deriving DecidableEq, Repr

/-- A transaction of the tuner-module bus (R95); judged tells whether a READ's result will be judged (R105). -/
inductive Transaction
  | writeDivider (d : Nat)
  | writeBand (b : Band) (standby : Bool)
  | readStatus (judged : Bool)
  deriving DecidableEq, Repr

/-- Answers of BOX to a PANEL sequence (R181). -/
inductive BoxAnswer | none | queued | refused | noProfile
  deriving DecidableEq, Repr

/-- The tune in flight (R108, R110). -/
structure TuneInFlight where
  timer : Bool
  box   : BoxAnswer
  deriving DecidableEq, Repr

/-- Results of a tune (R108). -/
inductive TuneResult | locked | noSignal | fault | superseded | supply
  deriving DecidableEq, Repr

/-- The stage a scan's present channel has reached (R112). -/
inductive ScanStage | running | waiting | confirming
  deriving DecidableEq, Repr

/-- The scan record (section 5.7). -/
structure Scan where
  plan   : Plan
  next   : Nat               -- the channel under examination, or the first
  stored : Nat
  saved  : Option Selection
  last   : Option Nat        -- the last channel examined
  stage  : ScanStage
  timer  : Timer             -- the 60 ms wait (R112)
  deriving DecidableEq, Repr

/-- Results of a scan channel (R112). -/
inductive ScanFound | none | already | stored
  deriving DecidableEq, Repr

/-- End results of a scan (R113). -/
inductive ScanEnd | complete | tableFull | stopped | preempted | fault | supply
  deriving DecidableEq, Repr

/-- Work that waits for the transaction in flight to end (R105, R111). -/
inductive TunerNext | none | tune | scanChannel
  deriving DecidableEq, Repr

/-- TUNER's state (chapter 5). Presets are numbered from 1; an unused preset is none. -/
structure Tuner where
  state       : TunerState
  selection   : Option Selection
  target      : Option TuneTarget
  divider     : Option Nat         -- last written; none is unknown
  band        : Option Band
  standby     : Option Bool
  aft         : Int
  steps       : Nat
  unsettled   : Nat
  level       : Option Nat         -- the level of the last read
  tune        : Option TuneInFlight
  presets     : List (Option Preset)
  scan        : Option Scan
  bus         : List Transaction   -- the transaction in flight, then those that wait for it (R95)
  failures    : Nat
  hostSource  : Source
  selected    : Source
  initTimer   : Timer
  settle      : Timer
  watch       : Timer
  next        : TunerNext
  boxSend     : Bool               -- the host tune of a BOX preset whose sequence is still to be handed to BOX (R106, R108)
  deriving DecidableEq, Repr

/-! ## LDD (chapter 6) -/

/-- Label states (R121). -/
inductive LabelState | none | valid | lost
  deriving DecidableEq, Repr

/-- Label status (R117). -/
inductive LabelStatus | run | pause | stopped
  deriving DecidableEq, Repr

/-- A judged label (R117). -/
structure Label where
  network : Nat
  day     : Nat
  month   : Nat
  hour    : Nat
  minute  : Nat
  status  : LabelStatus
  toggle  : Nat
  deriving DecidableEq, Repr

/-- The time candidate (R126): the arrival in ticks and the offset d in 1/1024 s. -/
structure TimeCandidate where
  arrival : Nat
  d       : Int
  deriving DecidableEq, Repr

/-- Learning results (R125). -/
inductive Learning | learned | unchanged | none
  deriving DecidableEq, Repr

/-- LDD's state (chapter 6). -/
structure Ldd where
  tuned     : Option Nat
  active    : Bool
  candidate : Option Label
  last      : Option Label
  state     : LabelState
  timer     : Timer
  time      : Option TimeCandidate
  good      : Nat
  bad       : Nat
  toggles   : Nat
  deriving DecidableEq, Repr

/-! ## CLOCK (chapter 7) -/

/-- Clock states (R132). -/
inductive ClockState | invalid | manual | broadcast
  deriving DecidableEq, Repr

/-- Causes of a step (R137). -/
inductive StepCause | manual | broadcast | wrap
  deriving DecidableEq, Repr

/-- The step event of R137: the date-times before and after the step, its cause and the clock state after it. -/
structure StepEvent where
  old   : DateTime
  new   : DateTime
  cause : StepCause
  state : ClockState
  deriving DecidableEq, Repr

/-- CLOCK's state (chapter 7). The day of week is derived from the date (R131); the time base is the crystal count over 32 (R129). -/
structure Clock where
  time      : DateTime
  fraction  : Nat
  length    : Nat            -- the length of the second in progress, in cycles (R136)
  state     : ClockState
  trim      : Int
  trimCount : Nat
  crystal   : Nat            -- crystal cycles counted since the last reset (R129, R139)
  deriving DecidableEq, Repr

/-! ## SCHED (chapter 8) -/

/-- Repeats (section 8.1). -/
inductive Repeat | once | daily | weekdays | weekly
  deriving DecidableEq, Repr

/-- Protect policies (section 8.1). -/
inductive Policy | stop | skip | refuse
  deriving DecidableEq, Repr

/-- Entry states (section 8.2). -/
inductive EntryState | empty | disabled | armed | blocked | watching | preparing | recording | held | done
  deriving DecidableEq, Repr

/-- Outcomes of an occurrence (section 11.9). -/
inductive EndCode
  | none | ok | late | short | missed | cancelled | noCassette | noTab | tapeEnd | mechFault | spanProtected | power | reset
  | noPreset
  deriving DecidableEq, Repr

/-- Occurrence modes (R141). -/
inductive Mode | label | fixed | fallback
  deriving DecidableEq, Repr

/-- A stored programme entry (section 8.1); start and stop are minutes of the day. -/
structure Entry where
  enabled     : Bool
  repeats     : Repeat
  date        : Option Date
  weekday     : Option Nat
  start       : Nat
  stop        : Nat
  preset      : Nat
  speed       : SpeedChoice
  allowSlower : Bool
  labelFollow : Bool
  policy      : Policy
  markFlag    : Bool
  powerOff    : Bool
  deriving DecidableEq, Repr

/-- The occurrence record (R144): the instants in seconds from 1990-01-01 00:00:00, the flags of the occurrence and what is
kept of its recording (R162, R169). -/
structure Occurrence where
  date        : Date
  start       : Int
  stop        : Int
  claim       : Int
  lead        : Int
  winOpen     : Int
  winClose    : Int
  endAt       : Int
  labelSeen   : Bool
  winSeen     : Bool         -- the window opening has been judged (R155)
  heldOut     : Bool         -- the held-timeout flag (R159)
  tested      : Bool         -- the fallback test was made with the flag set (R157)
  mode        : Mode
  late        : Bool
  started     : Bool         -- RECORD_START was handed: RECORD has been entered (R154)
  recorded    : Nat          -- recorded time in ticks (R169)
  speed       : Speed        -- current speed (R162)
  checks      : Nat          -- the speed-check count (R162)
  deriving DecidableEq, Repr

/-- A slot of the programme table (section 8.1). -/
structure Slot where
  entry      : Option Entry
  state      : EntryState
  lastDate   : Option Date
  outcome    : EndCode
  recSeconds : Nat
  occ        : Option Occurrence
  deriving DecidableEq, Repr

/-- A command SCHED is to issue: the command and RECORD's start-paused flag. -/
structure Wanted where
  what   : MechCmd
  paused : Bool := false
  deriving DecidableEq, Repr

/-- What SCHED keeps for the entry that holds the recorder (R146): the commands still to be issued, one when the one before is
closed (R153), and where its preparation, skip and recording stand. -/
structure Holder where
  slot      : Nat
  tag       : Nat
  want      : List Wanted
  waiting   : Bool           -- a command of the occurrence is not yet closed
  awaitDeck : Bool           -- waiting for supply-good and the recovery run (R151)
  moved     : Bool           -- SCHED has issued commands for the occurrence (R173)
  awaitReady : Bool          -- PREPARING: the commands lead to REC_PAUSE and the deck is not yet ready (R153)
  skip      : Option Int     -- the skip target while a skip is under way (R165)
  retest    : Bool           -- the protect test is to be applied again when the deck is ready (R165)
  awaitLive : Bool           -- the first LIVE estimate since the entry to RECORD is awaited (R162)
  watchSince : Nat           -- when the entry last entered WATCHING (R157)
  recSince  : Option Nat     -- ticks at the entry to RECORD, while in RECORD (R169)
  overrun   : Bool           -- the scheduled-stop timer has expired (R158)
  deriving DecidableEq, Repr

/-- The post-hold timer and the power-off-after of the entry that ended (R168). -/
structure PostHold where
  since    : Nat
  slot     : Nat
  powerOff : Bool
  deriving DecidableEq, Repr

/-- SCHED's state (chapter 8). The wait order is the order of R148 over the BLOCKED slots. -/
structure Sched where
  slots    : List Slot
  holder   : Option Holder
  due      : Option Nat      -- the due timer's instant, as a crystal count (R145)
  stopAt   : Option Nat      -- the stop timer (R154)
  schedAt  : Option Nat      -- the scheduled-stop timer (R158)
  windowAt : Option Nat      -- the window timer (R158)
  held     : Timer           -- R159
  loss     : Timer           -- R161
  post     : Option PostHold -- R168
  nextTag  : Nat
  deriving DecidableEq, Repr

/-! ## BOX (chapter 9) -/

/-- A queued IR frame (R178). -/
structure IrFrame where
  key    : Nat
  code   : Nat
  origin : Origin
  deriving DecidableEq, Repr

/-- The deferred sequence (R182); the deadline in seconds from 1990-01-01 00:00:00. -/
structure Deferred where
  slot     : Nat
  channel  : Nat
  deadline : Int
  deriving DecidableEq, Repr

/-- Causes of IR_DROPPED (R182, R183). -/
inductive DropCause | deadline | replaced | ended | standby
  deriving DecidableEq, Repr

/-- Outlet timepoints and the two configuration values that are none (R184). -/
inductive Timepoint | none | lead | recordStart | recordEnd | occurrenceEnd | same
  deriving DecidableEq, Repr

/-- The outlet plan (R185). -/
structure OutletPlan where
  slot     : Nat
  onPoint  : Timepoint
  offPoint : Timepoint
  acted    : Bool
  deriving DecidableEq, Repr

/-- BOX's state (chapter 9). -/
structure Box where
  profile  : Option BoxProfile
  queue    : List IrFrame
  sending  : Bool              -- the transmitter is SENDING the first frame of the queue (R177)
  deferred : Option Deferred
  retry    : Timer
  onPoint  : Timepoint
  offPoint : Timepoint
  output   : Bool
  hold     : Option Nat
  plan     : Option OutletPlan
  minimum  : Timer             -- R185
  offDue   : Option Timepoint  -- the OFF (or pulse end) that waits for the minimum-on timer, with its timepoint
  deriving DecidableEq, Repr

/-! ## PWR (chapter 10) -/

/-- Power states (chapter 10). -/
inductive Power | on | standby | timerOn
  deriving DecidableEq, Repr

/-- Supply phases (section 10.1). -/
inductive Phase | off | raising | up | stopping
  deriving DecidableEq, Repr

/-- Causes of POWER_STATE (section 10.7). -/
inductive PowerCause | key | cassette | link | claim | request | sched | reset
  deriving DecidableEq, Repr

/-- Stop results of POWER_STATE (R193). -/
inductive StopResult | none | done | jammed
  deriving DecidableEq, Repr

/-- Reset kinds (R196). -/
inductive ResetKind | powerOn | pin | restart
  deriving DecidableEq, Repr

/-- The reset-cause record (R196). -/
structure ResetRecord where
  cause      : ResetKind
  wasStandby : Bool
  clockValid : Bool
  deriving DecidableEq, Repr

/-- PWR's state (chapter 10). -/
structure Pwr where
  power      : Power
  phase      : Phase
  timer      : Timer
  onMark     : Bool
  onCause    : PowerCause      -- the cause of the wake that set the ON mark (R191)
  resetMark  : Bool            -- the post-reset standby mark (R197)
  record     : ResetRecord
  stopCause  : PowerCause      -- the cause of the standby stop under way
  onOpen     : Bool            -- a POWER ON request answered ACCEPTED is not closed (R195)
  stopOpen   : Bool            -- a POWER STANDBY request answered ACCEPTED is not closed (R195)
  resetFrom  : Option Bool     -- while RESET_N is low: whether the state was STANDBY when it went low (R196)
  deriving DecidableEq, Repr

/-! ## Notices -/

/-- The label kinds of R125. -/
inductive LabelKind | new | back
  deriving DecidableEq, Repr

/-- The estimate's values in a REMAINING notice (R68). -/
structure Remaining where
  f16 : Nat
  s   : Nat
  h   : Nat
  t   : Option Nat
  deriving DecidableEq, Repr

/-- The notices, with the content their chapters' tables give them. -/
inductive Notice
  | mechDone (cmd : MechCmd) (origin : Origin) (state : MState)
  | mechRefused (cmd : MechCmd) (origin : Origin) (reason : Reason)
  | mechSuperseded (cmd : MechCmd) (origin : Origin)
  | mechDiscarded (cmd : MechCmd) (origin : Origin) (cause : DiscardCause)
  | mechFault (fault : FaultCode) (state : MState)
  | mechState (state : MState) (cause : StateCause)
  | tapeEnd (state : MState)
  | reference (old new : RefSource)
  | playSpeed (speed : Speed)
  | counter (value : Int) (approx : Bool) (source : CounterSource)
  | remaining (state : EstState) (values : Option Remaining)
  | classSet (new : CassetteClass) (old : Option CassetteClass)
  | markWritten (type : MarkType) (value : Nat) (pos : Int) (origin : Origin)
  | markAborted (op : MarkOp) (type : Option MarkType) (value : Option Nat) (count : Nat) (cause : AbortCause)
  | markErased (pos : Int) (removed : Option MarkEntry)
  | counterCorrected (before after : Int) (entry : MarkEntry)
  | protectStop (counter spanBegin : Int) (spanEnd : Option Int)
  | searchEnd (kind : SearchKind) (result : SearchResult) (why : SearchWhy) (counter : Int) (approx : Bool)
      (count : Option Nat)
  | searchCancelled (kind : SearchKind) (preempted : Bool)
  | tuneEnd (result : TuneResult) (selection : Option Selection) (divider : Option Nat) (band : Option Band) (aft : Int)
      (level : Option Nat) (box : BoxAnswer)
  | tunerFault (state : TunerState)
  | scanProgress (channel : Nat) (result : ScanFound) (preset : Option Nat) (level : Nat)
  | scanDone (result : ScanEnd) (stored : Nat) (last : Option Nat)
  | label (kind : LabelKind) (l : Label) (tuned : Option Nat) (learning : Learning)
  | clockStepped (old : DateTime) (oldFraction : Nat) (new : DateTime) (newFraction : Nat) (cause : StepCause)
      (state : ClockState)
  | entryState (slot : Nat) (old new : EntryState) (date : Option Date) (ended : Option (EndCode × Nat))
  | entrySpeed (slot : Nat) (old new : Speed)
  | boxNoProfile (origin : Origin) (channel : Nat)
  | irDropped (slot channel : Nat) (cause : DropCause)
  | irFlushed (frames : Nat)
  | outletState (output : Bool) (slot : Nat) (point : Timepoint)
  | powerState (new old : Power) (cause : PowerCause) (stop : StopResult) (fault : FaultCode)
  | supplyFault (old : Power) (onMark claim : Bool)
  | supplyFail (old : Power) (owner : Owner) (stopping : Bool)
  deriving DecidableEq, Repr

/-! ## LINK (chapter 11) -/

/-- The receiver (R198): what it has of the frame being assembled; payload bytes newest first. -/
inductive Receiver
  | hunt
  | length
  | kind (len : Nat)
  | payload (len : Nat) (kind : Byte) (bytes : List Byte)
  | check (len : Nat) (kind : Byte) (bytes : List Byte)
  deriving DecidableEq, Repr

/-- A held frame with its judgement (R199, R201): bad, unknown, a request whose payload is too short or wrongly coded, or a
request. The kind is kept as received. A malformed frame says whether it is a MECH request with its whole layout, whose taking is an
arrival of a MECH request (R92, R201). -/
inductive HeldFrame
  | bad (kind : Byte)
  | unknown (kind : Byte)
  | malformed (kind : Byte) (arrives : Bool)
  | request (i : Instr)
  deriving DecidableEq, Repr

/-- A formed reply (section 11.3). -/
structure Reply where
  kind   : Byte
  result : Result
  reason : Reason
  data   : List Byte
  deriving DecidableEq, Repr

/-- The frame being sent (R203). -/
inductive Sending | boot | reply | notice
  deriving DecidableEq, Repr

/-- The settings record (R208). -/
structure Settings where
  pendingStd : Standard
  currentStd : Standard
  recordSpeed : Speed
  autoRewind : Bool
  autoplay   : Bool
  indexStart : Bool
  autoClock  : Bool
  boxFeed    : Option Nat
  keyWake    : Bool
  casWake    : Bool
  counterNotices   : Bool
  remainingNotices : Bool
  deriving DecidableEq, Repr

/-- LINK's state (chapter 11). -/
structure Link where
  receiver    : Receiver
  gap         : Timer
  holding     : List HeldFrame
  reply       : Option Reply
  bootPending : Bool
  notices     : List Notice
  sending     : Option Sending
  framing     : Nat
  drop        : Nat
  overflow    : Nat
  signalOk    : Bool
  tapeEnd     : Bool
  servoSlip   : Bool
  labelLost   : Bool
  settings    : Settings
  deriving DecidableEq, Repr

/-! ## Reports between the blocks -/

/-- What one block hands another within a step and the other acts on when the first has finished its own rule (log 9). -/
inductive Report
  | closedSearch (tag : Nat) (cmd : MechCmd) (res : CloseResult)   -- MECH to MARK (R10)
  | closedTimer (tag : Nat) (cmd : MechCmd) (res : CloseResult)    -- MECH to SCHED (R10)
  | cancelStop (c : Cmd)                                           -- a stored cancel-timer STOP comes to its execution (R13)
  | evaluate                                                       -- R145: a change of the owner, or a release
  | leaderSearch                                                   -- R93: either leader, to MARK
  | interrupted (why : SearchWhy)                                  -- R93: MECH_FAULT, memory stop or supply loss, to MARK
  | leaderSched                                                    -- R21: the end leader, to SCHED
  | faultSched                                                     -- R4, R23, R24: a fault, to SCHED
  | spanReached (spanEnd : Option Int)                             -- R86, to SCHED
  | recordEntered                                                  -- the entry to RECORD, to SCHED (R154, R162)
  | liveEstimate                                                   -- R68: the first LIVE estimates, to SCHED
  | speedInForce (v : Speed)                                       -- R43, to SCHED
  | recoveryEnded                                                  -- R29, to PWR and SCHED (R151, R197)
  | stopEnded (ok : Bool)                                          -- R31, to PWR (R193)
  | supplyUp                                                       -- R188, to SCHED
  | supplyHigh                                                     -- LINK to PWR: SUP_GOOD found high by a frame's wake (R191)
  | supplyLost (tag : Option Nat)                                  -- R174, R188: supply lost or raise failed, to SCHED's holder
  | labelState (st : LabelState)                                   -- R123, to SCHED
  | newLabel (l : Label) (prior : Option Nat)                      -- R123, to SCHED
  | minute                                                         -- R138, to SCHED
  | stepped (e : StepEvent)                                        -- R137, to SCHED
  | skipReached                                                    -- R165: the counter has come to the skip target
  deriving DecidableEq, Repr

/-! ## The whole -/

/-- The state of the part. pending is the queue of commands that wait (the model's own, as are reports). -/
structure State where
  pins    : Pins
  mech    : Mech
  servo   : Servo
  pos     : Pos
  mark    : Mark
  tuner   : Tuner
  ldd     : Ldd
  clock   : Clock
  sched   : Sched
  box     : Box
  pwr     : Pwr
  link    : Link
  reports : List Report
  pending : List Instr
  deriving DecidableEq, Repr

/-- Why a step stops with a fault. No rule of the manual stops the part, and no meaning of this model raises a fault: the one
constructor is there because the interface asks for a type. Safe. -/
inductive Fault
  /-- Raised by nothing: kept so that the type has a name for a part that has stopped. Safe. -/
  | stopped
  deriving DecidableEq, Repr

/-- Why a step is refused. -/
inductive Refusal
  /-- Raised by exec alone, for a command that has no meaning yet (none is left). Safe: the model stops. -/
  | notModelled (mnemonic : String)
  deriving DecidableEq, Repr

/-! ## Values after a POWER_ON reset -/

/-- The input lines before any event (log 4: DESIGN CHOICE; the manual gives lines no reset value). -/
def Pins.reset : Pins :=
  { cam := 0, cassetteIn := false, tabSwitch := false, leaderEnd := false, leaderStart := false, supGood := false,
    resetLow := false }

/-- R32, with the mechanism EMPTY or IDLE by the cassette-in switch. -/
def Mech.reset (cassetteIn : Bool) : Mech :=
  { state := if cassetteIn then .idle else .empty, target := if cassetteIn then .idle else .empty,
    camTarget := none, lastCode := none, motor := .off, reel := .off,
    windSlow := false, recAmp := false, camTimer := none, ejectRead := false, inFlight := none, slot := none, owner := .none,
    fault := .none, tab := false, still := none, halt := none, junction := none, junctionAt := 0, cause := none,
    recoveryPending := true, recoveryRun := false, standbyStop := false, stall := { last := 0, interval := 0, pulses := 0 } }

/-- R51, drum STOPPED. -/
def Drum.reset : Drum :=
  { state := .stopped, fgGood := 0, fgBad := 0, pgGood := 0, pgBad := 0, timer := none, heldOff := false }

/-- R51, capstan STOPPED. -/
def Capstan.reset : Capstan :=
  { state := .stopped, target := none, good := 0, bad := 0, speedMet := false, phaseMode := false, phaseGood := 0,
    phaseBad := 0, phaseMet := false, timer := none }

/-- A source's sync before any pulse (log 4). -/
def Sync.reset : Sync := { present := false, good := 0, bad := 0, timer := none }

/-- R51, empty window and SIGNAL. -/
def Envelope.reset : Envelope := { window := [], lowRun := 0, highRun := 0, noSignal := false }

/-- R51, with the kept mode and manual value. -/
def Tracking.reset (mode : TrackMode) (manual : Int) : Tracking :=
  { mode := mode, held := 0, pending := none, applied := 0, manual := manual, state := .idle, left := .idle,
    bySignal := false, step := 8, up := true, reversal := 0, flat := 0, eOld := none, eConv := 0, samples := [], low := 0 }

/-- R51. -/
def Servo.reset (playSpeed : Speed) (mode : TrackMode) (manual : Int) : Servo :=
  { drum := Drum.reset, capstan := Capstan.reset, syncTuner := Sync.reset, syncLine := Sync.reset, reference := .internal,
    refCount := 0, recSpeed := none, pendingSpeed := none, playSpeed := playSpeed, pendingPlay := none, intervals := [],
    avgSpeed := none, pulseSeen := none, speedGap := none, tracking := Tracking.reset mode manual,
    envelope := Envelope.reset, slip := 0, gate := none, guard := none }

/-- A reel with no intervals (R73). -/
def ReelRecord.reset : ReelRecord := { past := false, recent := [], count := 0 }

/-- R73. -/
def Pos.reset : Pos :=
  { counter := 0, source := .control, acc := 0, gapSum := 0, approx := false, target := none, supply := ReelRecord.reset,
    takeUp := ReelRecord.reset, window := 0, cls := none, candidate := none, run := 0, estState := .none, f16 := 0,
    endApproach := false, motion := none, coast := none, gap := none, counterSent := 0, remainingSent := 0 }

/-- The reader at the start of a motion (R75, R94). -/
def Reader.reset : Reader :=
  { phase := .fresh, pulses := [], sound := false, lastPlain := false, heard := false, gap := none }

/-- R94. -/
def Mark.reset : Mark :=
  { reader := Reader.reset, list := [], writer := .idle, headDuty := none, search := none, guardDone := false,
    nextTag := 1 }

/-- R115 for POWER_ON. -/
def Tuner.reset : Tuner :=
  { state := .off, selection := none, target := none, divider := none, band := none, standby := none, aft := 0, steps := 0,
    unsettled := 0, level := none, tune := none, presets := List.replicate 80 none, scan := none, bus := [], failures := 0,
    hostSource := .tuner, selected := .tuner, initTimer := none, settle := none, watch := none, next := .none,
    boxSend := false }

/-- R128. -/
def Ldd.reset : Ldd :=
  { tuned := none, active := false, candidate := none, last := none, state := .none, timer := none, time := none, good := 0,
    bad := 0, toggles := 0 }

/-- R139 for POWER_ON. -/
def Clock.reset : Clock :=
  { time := { date := { year := 1990, month := 1, day := 1 }, hour := 0, minute := 0, second := 0 }, fraction := 0,
    length := 32768, state := .invalid, trim := 0, trimCount := 0, crystal := 0 }

/-- An EMPTY slot (section 8.2). -/
def Slot.reset : Slot :=
  { entry := none, state := .empty, lastDate := none, outcome := .none, recSeconds := 0, occ := none }

/-- R174 for POWER_ON. -/
def Sched.reset : Sched :=
  { slots := List.replicate 16 Slot.reset, holder := none, due := none, stopAt := none, schedAt := none, windowAt := none,
    held := none, loss := none, post := none, nextTag := 1 }

/-- R187 for POWER_ON. -/
def Box.reset : Box :=
  { profile := none, queue := [], sending := false, deferred := none, retry := none, onPoint := .none,
    offPoint := .occurrenceEnd, output := false, hold := none, plan := none, minimum := none, offDue := none }

/-- R197 for POWER_ON; was-standby is always set for POWER_ON (R196). The causes kept for later notices start as KEY (log 4). -/
def Pwr.reset : Pwr :=
  { power := .standby, phase := .off, timer := none, onMark := false, onCause := .key, resetMark := false,
    record := { cause := .powerOn, wasStandby := true, clockValid := false }, stopCause := .key, onOpen := false,
    stopOpen := false, resetFrom := none }

/-- R208: the defaults. -/
def Settings.reset : Settings :=
  { pendingStd := .a, currentStd := .a, recordSpeed := .s, autoRewind := true, autoplay := true, indexStart := true,
    autoClock := true, boxFeed := none, keyWake := true, casWake := true, counterNotices := false,
    remainingNotices := false }

/-- R210, with the settings kept or at their defaults. -/
def Link.reset (settings : Settings) : Link :=
  { receiver := .hunt, gap := none, holding := [], reply := none, bootPending := true, notices := [], sending := none,
    framing := 0, drop := 0, overflow := 0, signalOk := true, tapeEnd := false, servoSlip := false, labelLost := false,
    settings := settings }

/-- The part right after a POWER_ON reset (R32, R51, R73, R94, R115, R128, R139, R174, R187, R197, R210), nothing waiting. -/
def State.reset : State :=
  { pins := Pins.reset, mech := Mech.reset false, servo := Servo.reset .s .auto 0, pos := Pos.reset, mark := Mark.reset,
    tuner := Tuner.reset, ldd := Ldd.reset, clock := Clock.reset, sched := Sched.reset, box := Box.reset, pwr := Pwr.reset,
    link := Link.reset Settings.reset, reports := [], pending := [] }

end Sys2Proof.Machine
end

