-- ==== Sys2Proof/Machine/Ops.lean ====
section
/-!
DEFINITION. Sys2Proof/Machine/Ops.lean: the named operations every block shares: updating one block, timers on the crystal
count, saturating counts, clamping, queueing a notice (R204), handing a report (log 9), and the readings other blocks take.
-/

namespace Sys2Proof.Machine

/-! ## Updating one block -/

/-- Update the input lines. -/
def State.onPins (f : Pins → Pins) (s : State) : State := { s with pins := f s.pins }
/-- Update MECH. -/
def State.onMech (f : Mech → Mech) (s : State) : State := { s with mech := f s.mech }
/-- Update SERVO. -/
def State.onServo (f : Servo → Servo) (s : State) : State := { s with servo := f s.servo }
/-- Update POS. -/
def State.onPos (f : Pos → Pos) (s : State) : State := { s with pos := f s.pos }
/-- Update MARK. -/
def State.onMark (f : Mark → Mark) (s : State) : State := { s with mark := f s.mark }
/-- Update TUNER. -/
def State.onTuner (f : Tuner → Tuner) (s : State) : State := { s with tuner := f s.tuner }
/-- Update LDD. -/
def State.onLdd (f : Ldd → Ldd) (s : State) : State := { s with ldd := f s.ldd }
/-- Update CLOCK. -/
def State.onClock (f : Clock → Clock) (s : State) : State := { s with clock := f s.clock }
/-- Update SCHED. -/
def State.onSched (f : Sched → Sched) (s : State) : State := { s with sched := f s.sched }
/-- Update BOX. -/
def State.onBox (f : Box → Box) (s : State) : State := { s with box := f s.box }
/-- Update PWR. -/
def State.onPwr (f : Pwr → Pwr) (s : State) : State := { s with pwr := f s.pwr }
/-- Update LINK. -/
def State.onLink (f : Link → Link) (s : State) : State := { s with link := f s.link }

/-- Hand a report to another block, which acts on it after the reports handed before it (log 9). -/
def report (r : Report) (s : State) : State := { s with reports := s.reports ++ [r] }

/-! ## Numbers -/

/-- A count that saturates at its upper limit (introduction, "Numbers"). -/
def satInc (limit n : Nat) : Nat := if n < limit then n + 1 else limit

/-- Clamped to lo..hi (introduction, "Numbers"). -/
def clampInt (lo hi v : Int) : Int := if v < lo then lo else if hi < v then hi else v

/-- Clamped to lo..hi (introduction, "Numbers"). -/
def clampNat (lo hi v : Nat) : Nat := if v < lo then lo else if hi < v then hi else v

/-- Quotient rounded half up (introduction, "Numbers"). -/
def roundHalfUp (a b : Nat) : Nat := (2 * a + b) / (2 * b)

/-! ## Time -/

/-- The crystal count now. -/
def State.now (s : State) : Nat := s.clock.crystal

/-- R129: the time base, in ticks of 1/1024 s. -/
def Clock.ticks (c : Clock) : Nat := c.crystal / Config.cyclesPerTick % Config.timeBaseModulus

/-- Crystal cycles that have passed since a timer's start are at least ms milliseconds, exactly. -/
def passed (ms now since : Nat) : Bool := decide (ms * Config.cyclesPerSecond ≤ (now - since) * 1000)

/-- The timer is running and its length has passed (log 3). -/
def Timer.due (ms now : Nat) (t : Timer) : Bool :=
  match t with
  | none => false
  | some since => passed ms now since

/-- The timer is running and more than its length has passed (R198's "more than 10 ms"). -/
def Timer.over (ms now : Nat) (t : Timer) : Bool :=
  match t with
  | none => false
  | some since => decide (ms * Config.cyclesPerSecond < (now - since) * 1000)

/-- An instant kept as a crystal count has been reached. -/
def reached (instant : Option Nat) (now : Nat) : Bool :=
  match instant with
  | none => false
  | some t => decide (t ≤ now)

end Sys2Proof.Machine

namespace Sys2Proof

/-! ## Line standard and speeds -/

/-- Frames per second of a line standard. -/
def Standard.frames : Standard → Nat
  | .a => 25
  | .b => 30

/-- The speed factor m. -/
def Speed.factor : Speed → Nat
  | .s => 1
  | .h => 2
  | .t => 3

/-- A speed not legal under the standard is corrected to the next slower legal speed; T under A has none slower and becomes H
(introduction, "Tape speeds"). -/
def Speed.legal (std : Standard) : Speed → Speed
  | .s => .s
  | .h => .h
  | .t => match std with | .a => .h | .b => .t

/-- The speed is legal under the standard. -/
def Speed.isLegal (std : Standard) (v : Speed) : Bool := decide (v.legal std = v)

end Sys2Proof

namespace Sys2Proof.Machine

/-- The current line standard. -/
def State.std (s : State) : Standard := s.link.settings.currentStd

/-- The counter's limit under a standard (R52). -/
def counterLimit : Standard → Int
  | .a => 899999
  | .b => 1079999

/-- Clamped to the counter range of the current standard (R52). -/
def State.clampCounter (s : State) (v : Int) : Int := clampInt (- counterLimit s.std) (counterLimit s.std) v

/-! ## Supply and owner -/

/-- R188: supply-good as the blocks see it. -/
def State.supplyGood (s : State) : Bool :=
  match s.pwr.phase with
  | .up => true
  | .stopping => true
  | _ => false

/-- The owner is TIMER. -/
def Owner.isTimer : Owner → Bool
  | .timer _ => true
  | _ => false

/-! ## Notices -/

/-- R204: queue a notice; one that finds 12 is dropped and the overflow count rises. -/
def notify (n : Notice) (s : State) : State :=
  s.onLink fun l =>
    if l.notices.length < Config.noticePlaces then { l with notices := l.notices ++ [n] }
    else { l with overflow := satInc 255 l.overflow }

/-! ## Answers to requests -/

/-- The result a block gives a request (R201, R202). -/
structure Answer where
  result : Result
  reason : Reason
  data   : List Byte
  deriving DecidableEq, Repr

/-- A request answered DONE with data. -/
def done (s : State) (data : List Byte := []) : State × Answer := (s, { result := .done, reason := .none, data := data })
/-- A request answered ACCEPTED with data. -/
def accepted (s : State) (data : List Byte := []) : State × Answer := (s, { result := .accepted, reason := .none, data := data })
/-- A request answered REFUSED: the state stays as it was (R202). -/
def refuse (s : State) (r : Reason) (data : List Byte := []) : State × Answer := (s, { result := .refused, reason := r, data := data })

end Sys2Proof.Machine
end

