-- ==== Sys2Proof/Machine/Calendar.lean ====
section
/-!
DEFINITION. Sys2Proof/Machine/Calendar.lean: the calendar of R130, the day of week of R131, and instants as seconds from
1990-01-01 00:00:00.
-/

namespace Sys2Proof.Machine

/-- R130: within 1990..2089 a year is a leap year when it is divisible by 4. -/
def isLeap (year : Nat) : Bool := year % 4 = 0

/-- R130: the lengths of the months. -/
def monthLengths (leap : Bool) : List Nat := [31, if leap then 29 else 28, 31, 30, 31, 30, 31, 31, 30, 31, 30, 31]

/-- The length of a month; 0 for a number that is no month. -/
def monthLength (leap : Bool) (month : Nat) : Nat :=
  if month = 0 then 0 else (monthLengths leap).getD (month - 1) 0

/-- A date of the calendar, 1990-01-01 to 2089-12-31 (R130). -/
def dateLegal (d : Date) : Bool :=
  decide (1990 ≤ d.year) && decide (d.year ≤ 2089) && decide (1 ≤ d.day) && decide (d.day ≤ monthLength (isLeap d.year) d.month)

/-- A date-time of the calendar (R133). -/
def timeLegal (t : DateTime) : Bool :=
  dateLegal t.date && decide (t.hour ≤ 23) && decide (t.minute ≤ 59) && decide (t.second ≤ 59)

/-- Days from 1990-01-01 to a date (R131). -/
def dayNumber (d : Date) : Nat :=
  365 * (d.year - 1990) + ((d.year - 1) / 4 - 497) + ((monthLengths (isLeap d.year)).take (d.month - 1)).sum + (d.day - 1)

/-- The month and day of a day of the year, counted from 0. -/
def monthAndDay : List Nat → Nat → Nat → Nat × Nat
  | [], m, d => (m, d + 1)
  | l :: ls, m, d => if d < l then (m, d + 1) else monthAndDay ls (m + 1) (d - l)

/-- The date of a count of days from 1990-01-01, by the four-year cycles that begin with 1988. -/
def dateOfDay (n : Nat) : Date :=
  let n4 := n + 731
  let r := n4 % 1461
  let y := if r < 366 then 0 else (r - 366) / 365 + 1
  let doy := if r < 366 then r else (r - 366) % 365
  let md := monthAndDay (monthLengths (y = 0)) 1 doy
  { year := 1988 + 4 * (n4 / 1461) + y, month := md.1, day := md.2 }

/-- R131: 0 is Monday; 1990-01-01 is a Monday. -/
def dayOfWeek (d : Date) : Nat := dayNumber d % 7

/-- Seconds from 1990-01-01 00:00:00 to a date-time. -/
def secondsOf (t : DateTime) : Nat := dayNumber t.date * 86400 + t.hour * 3600 + t.minute * 60 + t.second

/-- The date-time of a count of seconds from 1990-01-01 00:00:00. -/
def timeOfSeconds (n : Nat) : DateTime :=
  { date := dateOfDay (n / 86400), hour := n % 86400 / 3600, minute := n % 3600 / 60, second := n % 60 }

/-- The last second of the calendar, 2089-12-31 23:59:59 (R130). -/
def lastTime : DateTime := { date := { year := 2089, month := 12, day := 31 }, hour := 23, minute := 59, second := 59 }

/-- The first second of the calendar (R130). -/
def firstTime : DateTime := { date := { year := 1990, month := 1, day := 1 }, hour := 0, minute := 0, second := 0 }

/-- R130: the date after a date. -/
def nextDate (d : Date) : Date :=
  if d.day < monthLength (isLeap d.year) d.month then { d with day := d.day + 1 }
  else if d.month < 12 then { d with month := d.month + 1, day := 1 }
  else { year := d.year + 1, month := 1, day := 1 }

/-- R130: the date-time one second later, by running. -/
def nextSecond (t : DateTime) : DateTime :=
  if t.second < 59 then { t with second := t.second + 1 }
  else if t.minute < 59 then { t with second := 0, minute := t.minute + 1 }
  else if t.hour < 23 then { t with second := 0, minute := 0, hour := t.hour + 1 }
  else { date := nextDate t.date, hour := 0, minute := 0, second := 0 }

/-- R129: the fraction of the reading in 1/1024 s, limited to 1,023. -/
def Clock.fraction1024 (c : Clock) : Nat := min (c.fraction / Config.cyclesPerTick) 1023

/-- The clock's reading in 1/1024 s from 1990-01-01 00:00:00. -/
def Clock.reading (c : Clock) : Nat := secondsOf c.time * Config.ticksPerSecond + c.fraction1024

/-- The clock is valid (R132). -/
def Clock.valid (c : Clock) : Bool :=
  match c.state with
  | .invalid => false
  | _ => true

/-- An instant (in seconds) is at or before the clock's reading. -/
def State.reachedInstant (s : State) (instant : Int) : Bool := decide (instant * 1024 ≤ (s.clock.reading : Int))

/-- The crystal count at which the clock, running, comes to an instant given in 1/1024 s of reading: the method of R154. -/
def State.crystalAt (s : State) (instant1024 : Int) : Nat :=
  s.now + ((instant1024 - (s.clock.reading : Int)) * (Config.cyclesPerTick : Int)).toNat

end Sys2Proof.Machine
end

