-- ==== Sys2Proof/Machine/Formats.lean ====
section
/-!
DEFINITION. Sys2Proof/Machine/Formats.lean: the byte layouts of section 11.9 that the part sends: numbers (R211), the enumeration
codes, the notice payloads, and the frame of section 11.1.
-/

namespace Sys2Proof.Machine

/-! ## Numbers (R211) -/

/-- One byte of a number, modulo 256. -/
def byte (n : Nat) : Byte := BitVec.ofNat 8 n
/-- A signed number in one byte, two's complement. -/
def sbyte (v : Int) : Byte := BitVec.ofInt 8 v
/-- Two bytes, most significant first. -/
def be16 (n : Nat) : List Byte := [byte (n / 256), byte n]
/-- Three bytes, most significant first. -/
def be24 (n : Nat) : List Byte := [byte (n / 65536), byte (n / 256), byte n]
/-- Four bytes, most significant first. -/
def be32 (n : Nat) : List Byte := [byte (n / 16777216), byte (n / 65536), byte (n / 256), byte n]
/-- A signed number in three bytes, two's complement, most significant first. -/
def sbe24 (v : Int) : List Byte := be24 (BitVec.ofInt 24 v).toNat
/-- A set/clear value. -/
def flag (b : Bool) : Byte := if b then 1 else 0
/-- A field that may be absent, its presence byte first; n bytes of 0 when absent. -/
def optional (n : Nat) (v : Option (List Byte)) : List Byte :=
  match v with
  | some bs => 1 :: bs
  | none => List.replicate (n + 1) 0
/-- A date: year − 1990, month, day. -/
def dateBytes (d : Date) : List Byte := [byte (d.year - 1990), byte d.month, byte d.day]
/-- A date that may be absent: year byte 0xFF and 0. -/
def optDateBytes (d : Option Date) : List Byte :=
  match d with
  | some d => dateBytes d
  | none => [0xFF, 0, 0]
/-- A date-time to the minute. -/
def minuteBytes (t : DateTime) : List Byte := dateBytes t.date ++ [byte t.hour, byte t.minute]
/-- A date-time to the minute that may be absent. -/
def optMinuteBytes (t : Option DateTime) : List Byte :=
  match t with
  | some t => minuteBytes t
  | none => [0xFF, 0, 0, 0, 0]
/-- A date-time to the second. -/
def secondBytes (t : DateTime) : List Byte := minuteBytes t ++ [byte t.second]
/-- A reading to 1/1024 s. -/
def readingBytes (t : DateTime) (fraction : Nat) : List Byte := secondBytes t ++ be16 fraction

/-! ## Enumeration codes (section 11.9) -/

/-- Mechanism state codes. -/
def MState.code : MState → Nat
  | .empty => 0 | .inserting => 1 | .idle => 2 | .threading => 3 | .halt => 4 | .play => 5 | .still => 6 | .record => 7
  | .recPause => 8 | .cue => 9 | .review => 10 | .fwind => 11 | .rwind => 12 | .shifting => 13 | .unthreading => 14
  | .ejecting => 15 | .jammed => 16
/-- Owner codes. -/
def Owner.code : Owner → Nat
  | .none => 0 | .panel => 1 | .timer _ => 2
/-- The owner's slot, 0 unless TIMER. -/
def Owner.slotOf : Owner → Nat
  | .timer k => k | _ => 0
/-- Fault codes. -/
def FaultCode.code : FaultCode → Nat
  | .none => 0 | .camTimeout => 1 | .reelStall => 2 | .drum => 3 | .capstan => 4 | .servo => 5
/-- Power state codes. -/
def Power.code : Power → Nat
  | .on => 0 | .standby => 1 | .timerOn => 2
/-- Supply phase codes. -/
def Phase.code : Phase → Nat
  | .off => 0 | .raising => 1 | .up => 2 | .stopping => 3
/-- Tuner state codes. -/
def TunerState.code : TunerState → Nat
  | .off => 0 | .init => 1 | .tuning => 2 | .aft => 3 | .locked => 4 | .noSignal => 5 | .scanning => 6 | .fault => 7
/-- Label state codes. -/
def LabelState.code : LabelState → Nat
  | .none => 0 | .valid => 1 | .lost => 2
/-- Clock state codes. -/
def ClockState.code : ClockState → Nat
  | .invalid => 0 | .manual => 1 | .broadcast => 2
/-- Counter source codes. -/
def CounterSource.code : CounterSource → Nat
  | .control => 0 | .capstan => 1 | .none => 2
/-- Estimate state codes. -/
def EstState.code : EstState → Nat
  | .none => 0 | .live => 1 | .held => 2
/-- Class codes; unknown is 0. -/
def classCode : Option CassetteClass → Nat
  | none => 0 | some .c30 => 1 | some .c60 => 2 | some .c90 => 3 | some .c120 => 4 | some .c180 => 5 | some .c240 => 6
/-- Speed codes. -/
def speedCode : Speed → Nat
  | .s => 0 | .h => 1 | .t => 2
/-- Speed codes of an entry, AUTO 3. -/
def SpeedChoice.code : SpeedChoice → Nat
  | .fixed v => speedCode v | .auto => 3
/-- Plan codes. -/
def Plan.code : Plan → Nat
  | .t => 0 | .c => 1 | .direct => 2
/-- Entry state codes. -/
def EntryState.code : EntryState → Nat
  | .empty => 0 | .disabled => 1 | .armed => 2 | .blocked => 3 | .watching => 4 | .preparing => 5 | .recording => 6
  | .held => 7 | .done => 8
/-- Outcome codes. -/
def EndCode.code : EndCode → Nat
  | .none => 0 | .ok => 1 | .late => 2 | .short => 3 | .missed => 4 | .cancelled => 5 | .noCassette => 6 | .noTab => 7
  | .tapeEnd => 8 | .mechFault => 9 | .spanProtected => 10 | .power => 11 | .reset => 12 | .noPreset => 13
/-- Repeat codes. -/
def Repeat.code : Repeat → Nat
  | .once => 0 | .daily => 1 | .weekdays => 2 | .weekly => 3
/-- Protect policy codes. -/
def Policy.code : Policy → Nat
  | .stop => 0 | .skip => 1 | .refuse => 2
/-- Mechanism command codes. -/
def MechCmd.code : MechCmd → Nat
  | .play => 0 | .record => 1 | .pause => 2 | .stop => 3 | .cue => 4 | .review => 5 | .fwind => 6 | .rwind => 7 | .eject => 8
/-- An origin takes two bytes: its code and its slot (R211). -/
def originBytes : Origin → List Byte
  | .panel => [0, 0] | .search => [1, 0] | .timer k => [2, byte k]
/-- MECH_DISCARDED cause codes. -/
def DiscardCause.code : DiscardCause → Nat
  | .camTimeout => 1 | .reelStall => 2 | .drum => 3 | .capstan => 4 | .servo => 5 | .endLeader => 6 | .supply => 7
  | .standby => 8
/-- MECH_STATE cause codes. -/
def StateCause.code : StateCause → Nat
  | .rest => 0 | .endLeader => 1 | .startLeader => 2 | .memoryStop => 3 | .protectStop => 4 | .inserted => 5 | .recovery => 6
/-- Video source codes. -/
def sourceCode : Source → Nat
  | .tuner => 0 | .line => 1
/-- Reference source codes. -/
def RefSource.code : RefSource → Nat
  | .internal => 0 | .tuner => 1 | .line => 2
/-- Tracking mode codes. -/
def TrackMode.code : TrackMode → Nat
  | .auto => 0 | .manual => 1
/-- Mark type codes. -/
def MarkType.code : MarkType → Nat
  | .unreadable => 0 | .index => 1 | .protectBegin => 2 | .protectEnd => 3
/-- Mark operation codes. -/
def MarkOp.code : MarkOp → Nat
  | .list => 0 | .write => 1 | .erase => 2
/-- MARK_ABORTED cause codes. -/
def AbortCause.code : AbortCause → Nat
  | .stopped => 0 | .noControl => 1 | .supply => 2
/-- Search kind codes. -/
def SearchKind.code : SearchKind → Nat
  | .index => 0 | .counter => 1 | .blank => 2 | .scan => 3
/-- Search result codes. -/
def SearchResult.code : SearchResult → Nat
  | .found => 0 | .notFound => 1 | .failed => 2 | .interrupted => 3
/-- Tune result codes. -/
def TuneResult.code : TuneResult → Nat
  | .locked => 0 | .noSignal => 1 | .fault => 2 | .superseded => 3 | .supply => 4
/-- Box answer codes. -/
def BoxAnswer.code : BoxAnswer → Nat
  | .none => 0 | .queued => 1 | .refused => 2 | .noProfile => 3
/-- Band codes. -/
def Band.code : Band → Nat
  | .low => 0 | .mid => 1 | .high => 2
/-- Scan channel result codes. -/
def ScanFound.code : ScanFound → Nat
  | .none => 0 | .already => 1 | .stored => 2
/-- Scan end result codes. -/
def ScanEnd.code : ScanEnd → Nat
  | .complete => 0 | .tableFull => 1 | .stopped => 2 | .preempted => 3 | .fault => 4 | .supply => 5
/-- Label status codes. -/
def LabelStatus.code : LabelStatus → Nat
  | .run => 0 | .pause => 1 | .stopped => 2
/-- Label kind codes. -/
def LabelKind.code : LabelKind → Nat
  | .new => 0 | .back => 1
/-- Learning result codes. -/
def Learning.code : Learning → Nat
  | .learned => 0 | .unchanged => 1 | .none => 2
/-- Clock step cause codes. -/
def StepCause.code : StepCause → Nat
  | .manual => 0 | .broadcast => 1 | .wrap => 2
/-- Occurrence mode codes. -/
def Mode.code : Mode → Nat
  | .label => 1 | .fixed => 2 | .fallback => 3
/-- IR_DROPPED cause codes. -/
def DropCause.code : DropCause → Nat
  | .deadline => 0 | .replaced => 1 | .ended => 2 | .standby => 3
/-- Outlet timepoint codes. -/
def Timepoint.code : Timepoint → Nat
  | .none => 0 | .lead => 1 | .recordStart => 2 | .recordEnd => 3 | .occurrenceEnd => 4 | .same => 5
/-- Power cause codes. -/
def PowerCause.code : PowerCause → Nat
  | .key => 0 | .cassette => 1 | .link => 2 | .claim => 3 | .request => 4 | .sched => 5 | .reset => 6
/-- Stop result codes. -/
def StopResult.code : StopResult → Nat
  | .none => 0 | .done => 1 | .jammed => 2
/-- Reset cause codes (R196). -/
def ResetKind.code : ResetKind → Nat
  | .powerOn => 0 | .pin => 1 | .restart => 2
/-- Result codes (R202). -/
def Result.code : Result → Nat
  | .done => 0 | .accepted => 1 | .refused => 2
/-- Reason codes (R202). -/
def Reason.code : Reason → Nat
  | .none => 0 | .busy => 1 | .noCassette => 2 | .noTab => 3 | .spanProtected => 4 | .timerActive => 5 | .recording => 6
  | .invalidArg => 7 | .clockInvalid => 8 | .tableFull => 9 | .notFound => 10 | .mechFault => 11 | .badState => 12
  | .atEnd => 13 | .atStart => 14 | .noControl => 15 | .tunerFault => 16 | .badFrame => 17 | .unknown => 18

/-! ## Records and notice payloads -/

/-- A mark-list entry in six bytes (section 11.9). -/
def markEntryBytes (e : MarkEntry) : List Byte :=
  sbe24 e.pos ++ [byte (e.type.code + if e.written then 4 else 0)] ++
    (match e.value with | some v => be16 v | none => [0xFF, 0xFF])

/-- A selection: its tune-selection code, then its arguments, as in a TUNE request. DESIGN CHOICE (log 26): so in the data of a TUNE
reply and in a TUNE_END too, whose selection no section lays out; 2 bytes for a preset, 3 for a channel or a direct frequency. -/
def selectionBytes : Selection → List Byte
  | .preset n => [0, byte n]
  | .channel p c => [1, byte p.code, byte c]
  | .direct f => 2 :: be16 f

/-- R93, R211: the reason, cause or fault a FAILED or INTERRUPTED search result carries, behind the fields of section 4.7, with its
presence byte. DESIGN CHOICE (log 45): before the code a byte says which enumeration it is of: 0 a reason, 1 a discard cause, 2 a
fault, 3 a MECH_STATE cause. -/
def SearchWhy.bytes (w : SearchWhy) : List Byte :=
  optional 2 (match w with
    | .none => Option.none
    | .reason r => some [0, byte r.code]
    | .cause c => some [1, byte c.code]
    | .fault f => some [2, byte f.code]
    | .memoryStop => some [3, byte StateCause.memoryStop.code])

/-- The slot of an origin, where it has one. -/
def originSlot : Origin → Option Nat
  | .timer k => some k | _ => none

/-- Kind codes of the notices (section 11.9). -/
def Notice.kind : Notice → Byte
  | .mechDone .. => 0x81 | .mechRefused .. => 0x82 | .mechSuperseded .. => 0x83 | .mechDiscarded .. => 0x84
  | .mechFault .. => 0x85 | .mechState .. => 0x86 | .tapeEnd .. => 0x87 | .reference .. => 0x88 | .playSpeed .. => 0x89
  | .counter .. => 0x8A | .remaining .. => 0x8B | .classSet .. => 0x8C | .markWritten .. => 0x8D | .markAborted .. => 0x8E
  | .markErased .. => 0x8F | .counterCorrected .. => 0x90 | .protectStop .. => 0x91 | .searchEnd .. => 0x92
  | .searchCancelled .. => 0x93 | .tuneEnd .. => 0x94 | .tunerFault .. => 0x95 | .scanProgress .. => 0x96
  | .scanDone .. => 0x97 | .label .. => 0x98 | .clockStepped .. => 0x99 | .entryState .. => 0x9A | .entrySpeed .. => 0x9B
  | .boxNoProfile .. => 0x9C | .irDropped .. => 0x9D | .irFlushed .. => 0x9E | .outletState .. => 0x9F
  | .powerState .. => 0xA0 | .supplyFault .. => 0xA1 | .supplyFail .. => 0xA2

/-- Notice payloads: the content fields in the order of each chapter's notice table (R211). A tune that ends has a selection, so
TUNE_END's has no presence byte. DESIGN CHOICE (log 26), of fields that no section lays out: the selection of TUNE_END stands as in a
TUNE request, 2 or 3 bytes long by its kind; the entry removed stands in MARK_ERASED, and the entry matched in COUNTER_CORRECTED, as
in the reply to MARK LIST; the owner of SUPPLY_FAIL is its code alone. DESIGN CHOICE (log 45): the reason of SEARCH_END (R93) and the fault code of POWER_STATE (R193), which the chapters' tables give no field,
stand last, each behind a presence byte. -/
def Notice.payload : Notice → List Byte
  | .mechDone c o st => [byte c.code] ++ originBytes o ++ [byte st.code]
  | .mechRefused c o r => [byte c.code] ++ originBytes o ++ [byte r.code]
  | .mechSuperseded c o => [byte c.code] ++ originBytes o
  | .mechDiscarded c o cause => [byte c.code] ++ originBytes o ++ [byte cause.code]
  | .mechFault f st => [byte f.code, byte st.code]
  | .mechState st c => [byte st.code, byte c.code]
  | .tapeEnd st => [byte st.code]
  | .reference old new => [byte old.code, byte new.code]
  | .playSpeed v => [byte (speedCode v)]
  | .counter v a src => sbe24 v ++ [flag a, byte src.code]
  | .remaining st v =>
      byte st.code :: (optional 3 (v.map fun r => be24 r.f16) ++ optional 2 (v.map fun r => be16 r.s) ++
        optional 2 (v.map fun r => be16 r.h) ++ optional 2 (v.bind fun r => r.t.map be16))
  | .classSet new old => [byte (classCode (some new)), byte (classCode old)]
  | .markWritten t v p o => [byte t.code] ++ be16 v ++ sbe24 p ++ originBytes o
  | .markAborted op t v n c =>
      [byte op.code] ++ optional 1 (t.map fun t => [byte t.code]) ++ optional 2 (v.map be16) ++ [byte n, byte c.code]
  | .markErased p e => sbe24 p ++ optional 6 (e.map markEntryBytes)
  | .counterCorrected a b e => sbe24 a ++ sbe24 b ++ markEntryBytes e
  | .protectStop c b e => sbe24 c ++ sbe24 b ++ optional 3 (e.map sbe24)
  | .searchEnd k r w c a n =>
      [byte k.code, byte r.code] ++ sbe24 c ++ [flag a] ++ optional 1 (n.map fun n => [byte n]) ++ w.bytes
  | .searchCancelled k p => [byte k.code, flag p]
  | .tuneEnd r sel d b a l box =>
      [byte r.code] ++ (match sel with | some x => selectionBytes x | none => []) ++ optional 2 (d.map be16) ++
        optional 1 (b.map fun b => [byte b.code]) ++ [sbyte a] ++ optional 1 (l.map fun l => [byte l]) ++ [byte box.code]
  | .tunerFault st => [byte st.code, 3]
  | .scanProgress c r p l => [byte c, byte r.code] ++ optional 1 (p.map fun p => [byte p]) ++ [byte l]
  | .scanDone r n l => [byte r.code, byte n] ++ optional 1 (l.map fun l => [byte l])
  | .label k l tuned learn =>
      [byte k.code] ++ be16 l.network ++ [byte l.day, byte l.month, byte l.hour, byte l.minute, byte l.status.code,
        byte l.toggle] ++ optional 1 (tuned.map fun n => [byte n]) ++ [byte learn.code]
  | .clockStepped o fo n fn c st => readingBytes o fo ++ readingBytes n fn ++ [byte c.code, byte st.code]
  | .entryState k o n d e =>
      [byte k, byte o.code, byte n.code] ++ optDateBytes d ++
        optional 1 (e.map fun e => [byte e.1.code]) ++ optional 3 (e.map fun e => be24 e.2)
  | .entrySpeed k o n => [byte k, byte (speedCode o), byte (speedCode n)]
  | .boxNoProfile o c => originBytes o ++ be16 c ++ optional 1 ((originSlot o).map fun k => [byte k])
  | .irDropped k c cause => [byte k] ++ be16 c ++ [byte cause.code]
  | .irFlushed n => [byte n]
  | .outletState o k p => [flag o, byte k, byte p.code]
  | .powerState n o c r f =>
      [byte n.code, byte o.code, byte c.code, byte r.code] ++
        optional 1 (match r with | .jammed => some [byte f.code] | _ => none)
  | .supplyFault o m c => [byte o.code, byte Power.standby.code, flag m, flag c]
  | .supplyFail o own st => [byte o.code, byte own.code, flag st]

/-- The payload of BOOT: the reset-cause record (R196). -/
def bootPayload (r : ResetRecord) : List Byte := [byte r.cause.code, flag r.wasStandby, flag r.clockValid]

/-- The payload of a reply: kind, result, reason, then the data (section 11.3). -/
def Reply.payload (r : Reply) : List Byte := [r.kind, byte r.result.code, byte r.reason.code] ++ r.data

/-- The check byte: LEN + KIND + payload + CHECK is a multiple of 256 (section 11.1). -/
def checkByte (kind : Byte) (payload : List Byte) : Byte := - (byte payload.length + kind + payload.sum)

/-- A frame: lead, LEN, KIND, payload, CHECK (section 11.1). -/
def frame (kind : Byte) (payload : List Byte) : List Byte :=
  [0xA6, byte payload.length, kind] ++ payload ++ [checkByte kind payload]

/-- The bytes of the frame being sent (R203). -/
def State.lineBytes (s : State) : List Byte :=
  match s.link.sending with
  | none => []
  | some .boot => frame 0x80 (bootPayload s.pwr.record)
  | some .reply => match s.link.reply with | some r => frame 0x40 r.payload | none => []
  | some .notice => match s.link.notices with | n :: _ => frame n.kind n.payload | [] => []

end Sys2Proof.Machine
end

