-- ==== Sys2Proof/Machine/Box.lean ====
section
/-!
DEFINITION. Sys2Proof/Machine/Box.lean: the Box Control Unit (chapter 9): the profile, the IR frames and their queue, channel
sequences, the deferred sequence, and the switched outlet.
-/

namespace Sys2Proof.Machine

/-! ## The profile (R175, R214) -/

/-- The bit count of a profile: its field plus 8 (section 11.9). -/
def BoxProfile.bitCount (p : BoxProfile) : Nat := p.bitField + 8

/-- Check 3 of R175 with R214: every field of the chosen encoding within its range, and the fields consistent. -/
def BoxProfile.ok (p : BoxProfile) : Bool :=
  !p.topBit && decide (p.carrier ≤ 4) && decide (p.bitField ≤ 24) && decide (1 ≤ p.repeatField) && decide (p.repeatField ≤ 3)
    && decide (1 ≤ p.unit) && decide (p.unit ≤ 255) && decide (p.headerMark ≤ 255) && decide (p.headerSpace ≤ 255)
    && decide (p.stopMark ≤ 255) && decide (1 ≤ p.gap) && decide (p.gap ≤ 65535)
    && (if p.biphase then decide (1 ≤ p.halfBit) && decide (p.halfBit ≤ 255)
        else decide (1 ≤ p.bitMark) && decide (p.bitMark ≤ 255) && decide (1 ≤ p.space0) && decide (p.space0 ≤ 255)
          && decide (1 ≤ p.space1) && decide (p.space1 ≤ 255) && decide (p.space0 ≠ p.space1))
    && decide ((p.headerMark = 0) = (p.headerSpace = 0))
    && decide (p.codes.length = 12) && p.codes.all fun c => decide (c < 2 ^ BoxProfile.bitCount p)

/-! ## What the emitter sends (R176, R177) -/

/-- The parts of a transmission (R176): a mark, a space within it, the inter-frame gap. -/
inductive IrKind | mark | space | gap
  deriving DecidableEq, Repr

/-- One part of a transmission and its length in units. -/
structure IrPart where
  kind  : IrKind
  units : Nat
  deriving DecidableEq, Repr

/-- R177: one bit of a code. -/
def irBit (p : BoxProfile) (one : Bool) : List IrPart :=
  if p.biphase then
    if one then [{ kind := .space, units := p.halfBit }, { kind := .mark, units := p.halfBit }]
    else [{ kind := .mark, units := p.halfBit }, { kind := .space, units := p.halfBit }]
  else [{ kind := .mark, units := p.bitMark }, { kind := .space, units := if one then p.space1 else p.space0 }]

/-- R177: the bits of a code, most significant first. -/
def irBits (p : BoxProfile) (code : Nat) : Nat → List IrPart
  | 0 => []
  | n + 1 => irBit p (code.testBit n) ++ irBits p code n

/-- R177: one transmission: header, bits, stop mark, inter-frame gap. -/
def irTransmission (p : BoxProfile) (code : Nat) : List IrPart :=
  (if p.headerMark = 0 ∧ p.headerSpace = 0 then []
   else [{ kind := .mark, units := p.headerMark }, { kind := .space, units := p.headerSpace }])
    ++ irBits p code (BoxProfile.bitCount p)
    ++ (if p.stopMark = 0 then [] else [{ kind := .mark, units := p.stopMark }])
    ++ [{ kind := .gap, units := p.gap }]

/-- R177: a frame is the transmission repeated repeat-count times. -/
def irFrame (p : BoxProfile) (code : Nat) : List IrPart :=
  (List.replicate p.repeatField (irTransmission p code)).flatten

/-- Units of a list of parts. -/
def irUnits (ps : List IrPart) : Nat := (ps.map IrPart.units).sum

/-- What the IR output carries (R176). -/
inductive IrLine | carrier | noCarrier | high | low
  deriving DecidableEq, Repr

/-- R176: the output during a part; a gap is a space, and outside WIRED it carries no carrier under either polarity. -/
def irDuring (p : BoxProfile) (k : IrKind) : IrLine :=
  if p.carrier = 4 then (if decide (k = .mark) = p.inverted then .low else .high)
  else match k with
    | .mark => if p.inverted then .noCarrier else .carrier
    | .space => if p.inverted then .carrier else .noCarrier
    | .gap => .noCarrier

/-- R176: the output when the transmitter is IDLE. -/
def irIdle (p : BoxProfile) : IrLine :=
  if p.carrier = 4 then (if p.inverted then .high else .low) else .noCarrier

/-- R176: carrier frequency in Hz; 0 for WIRED, which has none. -/
def BoxProfile.hertz (p : BoxProfile) : Nat :=
  match p.carrier with
  | 0 => 36000 | 1 => 38000 | 2 => 40000 | 3 => 56000 | _ => 0

/-- R176: the length of one unit in seconds, as a fraction (numerator, denominator): the unit field's count of carrier cycles, or of
26 µs with WIRED. -/
def BoxProfile.unitLength (p : BoxProfile) : Nat × Nat :=
  if p.carrier = 4 then (p.unit * Config.wiredUnit, 1000000) else (p.unit, BoxProfile.hertz p)

/-- R176: the length of some parts in seconds, as a fraction. -/
def irLength (p : BoxProfile) (ps : List IrPart) : Nat × Nat :=
  (irUnits ps * (BoxProfile.unitLength p).1, (BoxProfile.unitLength p).2)

/-- R176: the output's level at a point in time, in thirds of a carrier cycle from the cycle's start: the carrier is high for one
third of each cycle. DESIGN CHOICE (log 40): for the first, so that a mark starts high. -/
def IrLine.level (l : IrLine) (third : Nat) : Bool :=
  match l with
  | .carrier => decide (third % 3 = 0)
  | .noCarrier => false
  | .high => true
  | .low => false

/-! ## The queue (R178) -/

/-- R178: free places. -/
def Box.free (b : Box) : Nat := Config.irPlaces - b.queue.length

/-- R177, R178: an IDLE transmitter takes the oldest frame; the emitter sends in ON and TIMER_ON. -/
def boxTransmit (s : State) : State :=
  if s.pwr.power = .standby ∨ s.box.queue = [] then s else s.onBox fun b => { b with sending := true }

/-- R177: the parts of the frame being sent; none while the transmitter is IDLE. -/
def State.irParts (s : State) : List IrPart :=
  match s.box.sending, s.box.queue, s.box.profile with
  | true, f :: _, some p => irFrame p f.code
  | _, _, _ => []

/-- R176: the output of the emitter during the n-th part of the frame being sent; the idle level while the transmitter is IDLE. An
absent profile names no carrier, and the output is then without one (log 40). -/
def State.irOutput (s : State) (n : Nat) : IrLine :=
  match s.box.profile with
  | none => .noCarrier
  | some p =>
    match s.irParts[n]? with
    | none => irIdle p
    | some part => irDuring p part.kind

/-- The code of a key in the profile. -/
def keyCode (p : BoxProfile) (key : Nat) : Nat := p.codes.getD key 0

/-- Frames join the queue one behind another. -/
def boxEnqueue (p : BoxProfile) (keys : List Nat) (o : Origin) (s : State) : State :=
  boxTransmit (s.onBox fun b => { b with queue := b.queue ++ keys.map fun k => { key := k, code := keyCode p k, origin := o } })

/-- R177: the frame being sent leaves the queue, and the next is taken. -/
def boxFrameSent (s : State) : State :=
  if s.box.sending then boxTransmit (s.onBox fun b => { b with queue := b.queue.tail, sending := false }) else s

/-! ## Channel sequences (R180 to R182) -/

/-- The decimal digits of a box channel, three or as many as it has. -/
def channelDigits (minimal : Bool) (c : Nat) : List Nat :=
  if minimal ∧ c < 10 then [c]
  else if minimal ∧ c < 100 then [c / 10, c % 10]
  else [c / 100 % 10, c / 10 % 10, c % 10]

/-- R180: the keys of a channel sequence; ENTER is key 10. -/
def sequenceKeys (p : BoxProfile) (c : Nat) : List Nat := channelDigits p.minimal c ++ (if p.enter then [10] else [])

/-- R181: a PANEL sequence is queued whole, refused, or reported BOX_NO_PROFILE. -/
def panelSequence (channel : Nat) (s : State) : State × BoxAnswer :=
  match s.box.profile with
  | none => (notify (.boxNoProfile .panel channel) s, .noProfile)
  | some p =>
    let keys := sequenceKeys p channel
    if s.box.free < keys.length then (s, .refused) else (boxEnqueue p keys .panel s, .queued)

/-- R182: the deferred sequence is absent and its retry timer stopped. -/
def dropDeferred (s : State) : State := s.onBox fun b => { b with deferred := none, retry := none }

/-- R182: one attempt at a TIMER sequence. -/
def trySequence (d : Deferred) (s : State) : State :=
  match s.box.profile with
  | none => notify (.boxNoProfile (.timer d.slot) d.channel) (dropDeferred s)
  | some p =>
    let keys := sequenceKeys p d.channel
    if keys.length ≤ s.box.free then boxEnqueue p keys (.timer d.slot) (dropDeferred s)
    else if s.reachedInstant d.deadline then notify (.irDropped d.slot d.channel .deadline) (dropDeferred s)
    else s.onBox fun b => { b with deferred := some d, retry := some s.now }

/-- R182: SCHED hands a TIMER sequence; one deferred before is dropped as REPLACED. -/
def timerSequence (d : Deferred) (s : State) : State :=
  match s.box.deferred with
  | none => trySequence d s
  | some old => trySequence d (notify (.irDropped old.slot old.channel .replaced) (dropDeferred s))

/-- R182: an expiry of the retry timer makes one retry. -/
def boxRetry (s : State) : State :=
  if s.box.retry.due Config.retryTime s.now then
    match s.box.deferred with
    | none => s.onBox fun b => { b with retry := none }
    | some d => trySequence d s
  else s

/-- R183: the flush at an entry to STANDBY. -/
def boxFlush (s : State) : State :=
  let n := s.box.queue.length
  let s1 := s.onBox fun b => { b with queue := [], sending := false }
  let s2 := match s1.box.deferred with
    | none => s1
    | some d => notify (.irDropped d.slot d.channel .standby) (dropDeferred s1)
  notify (.irFlushed n) s2

/-! ## The switched outlet (R184 to R186) -/

/-- R185: the ON timepoint: output ON, hold set, the minimum-on timer started; with OFF SAME the timer's end is the pulse's. DESIGN
CHOICE (log 49): the notice of the pulse's end names the ON timepoint, the one that made it. -/
def outletSwitchOn (plan : OutletPlan) (s : State) : State :=
  let s1 := s.onBox fun b =>
    { b with output := true, hold := some plan.slot, minimum := some s.now,
             offDue := if plan.offPoint = .same then some plan.onPoint else none,
             plan := some { plan with acted := true } }
  if s.box.output then s1 else notify (.outletState true plan.slot plan.onPoint) s1

/-- R185: the output set OFF and the hold cleared by a timepoint. -/
def outletSwitchOff (slot : Nat) (point : Timepoint) (s : State) : State :=
  let s1 := s.onBox fun b => { b with output := false, hold := none, offDue := none }
  if s.box.output then notify (.outletState false slot point) s1 else s1

/-- R185: OFF now, or when the minimum-on timer expires. DESIGN CHOICE (log 49): where a second ending timepoint comes while the timer
holds an OFF back, or during a pulse of OFF SAME, the notice of the one OFF names the first: of a pulse its ON timepoint. -/
def outletOffPoint (slot : Nat) (point : Timepoint) (s : State) : State :=
  if s.box.minimum.isSome then
    s.onBox fun b => { b with offDue := match b.offDue with | none => some point | some q => some q }
  else outletSwitchOff slot point s

/-- R185: the plan's ON timepoint, acted on once per grant. -/
def outletOnPoint (slot : Nat) (point : Timepoint) (s : State) : State :=
  match s.box.plan with
  | none => s
  | some plan => if plan.slot = slot ∧ plan.onPoint = point ∧ plan.acted = false then outletSwitchOn plan s else s

/-- R185: whether a timepoint is the OFF timepoint of a slot that holds the outlet, or its OCCURRENCE_END. -/
def outletEnds (slot : Nat) (point : Timepoint) (b : Box) : Bool :=
  decide (b.hold = some slot) &&
    (decide (point = .occurrenceEnd) ||
      match b.plan with
      | none => false
      | some plan => decide (plan.slot = slot) && decide (plan.offPoint = point))

/-- R182, R185: SCHED hands BOX a timepoint of a slot. DESIGN CHOICE (log 49): where OCCURRENCE_END brings both, OUTLET_STATE is queued
before IR_DROPPED. -/
def timepoint (slot : Nat) (point : Timepoint) (s : State) : State :=
  let s1 := if point = .lead then
      s.onBox fun b => { b with plan := some { slot := slot, onPoint := b.onPoint, offPoint := b.offPoint, acted := false } }
    else s
  let s2 := outletOnPoint slot point s1
  let s3 := if outletEnds slot point s2.box then outletOffPoint slot point s2 else s2
  if point = .occurrenceEnd then
    let s4 := s3.onBox fun b =>
      { b with plan := match b.plan with | some p => if p.slot = slot then none else some p | none => none }
    match s4.box.deferred with
    | none => s4
    | some d => if d.slot = slot then notify (.irDropped d.slot d.channel .ended) (dropDeferred s4) else s4
  else s3

/-- R185: the minimum-on timer expires: a pending OFF or the pulse's end is applied. -/
def outletMinimum (s : State) : State :=
  if s.box.minimum.due Config.minimumOnTime s.now then
    let s1 := s.onBox fun b => { b with minimum := none }
    match s1.box.offDue, s1.box.hold with
    | some point, some slot => outletSwitchOff slot point s1
    | _, _ => s1
  else s

/-! ## Requests -/

/-- The profile's bytes as section 11.9 lays them out. -/
def profileBytes (p : BoxProfile) : List Byte :=
  let bit (b : Bool) (n : Nat) : Nat := if b then n else 0
  [byte (p.carrier + bit p.inverted 8 + bit p.biphase 16 + bit p.minimal 32 + bit p.enter 64 + bit p.topBit 128),
   byte (p.bitField * 4 + p.repeatField), byte p.unit, byte p.headerMark, byte p.headerSpace, byte p.bitMark, byte p.space0,
   byte p.space1, byte p.halfBit, byte p.stopMark] ++ be16 p.gap ++ (p.codes.map be32).flatten

/-- R175: LOAD. -/
def boxProfileLoad (p : BoxProfile) (s : State) : State × Answer :=
  if s.mech.owner.isTimer then refuse s .timerActive
  else if s.box.queue ≠ [] ∨ s.box.deferred.isSome then refuse s .busy
  else if !BoxProfile.ok p then refuse s .invalidArg
  else done (s.onBox fun b => { b with profile := some p })

/-- R175: CLEAR. -/
def boxProfileClear (s : State) : State × Answer :=
  if s.mech.owner.isTimer then refuse s .timerActive
  else if s.box.queue ≠ [] ∨ s.box.deferred.isSome then refuse s .busy
  else done (s.onBox fun b => { b with profile := none })

/-- R175, R214: READ of part 0 (bytes 0..51) or part 1 (bytes 52..59). -/
def boxProfileRead (part : Nat) (s : State) : State × Answer :=
  if 2 ≤ part then refuse s .invalidArg
  else match s.box.profile with
    | none => done s [0xFF]
    | some p => if part = 0 then done s ((profileBytes p).take 52) else done s ((profileBytes p).drop 52)

/-- R179: one host key. -/
def boxKey (key : Nat) (s : State) : State × Answer :=
  if 12 ≤ key then refuse s .invalidArg
  else if s.mech.owner.isTimer then refuse s .timerActive
  else if s.pwr.power = .standby then refuse s .badState
  else match s.box.profile with
    | none => refuse s .badState
    | some p =>
      if Config.irPlaces ≤ s.box.queue.length then refuse s .busy
      else
        let s1 := boxEnqueue p [key] .panel s
        done s1 [byte s1.box.queue.length]

/-- R184: the reply to every OUTLET request: output, hold, configuration. -/
def outletData (s : State) : List Byte :=
  flag s.box.output :: optional 1 (s.box.hold.map fun k => [byte k]) ++ [byte s.box.onPoint.code, byte s.box.offPoint.code]

/-- R184: an ON timepoint by its code. -/
def onPointOf (n : Nat) : Option Timepoint :=
  match n with
  | 0 => some .none | 1 => some .lead | 2 => some .recordStart | _ => none

/-- R184: an OFF timepoint by its code. -/
def offPointOf (n : Nat) : Option Timepoint :=
  match n with
  | 3 => some .recordEnd | 4 => some .occurrenceEnd | 5 => some .same | _ => none

/-- R184: CONFIG. -/
def outletConfig (onCode offCode : Nat) (s : State) : State × Answer :=
  match onPointOf onCode, offPointOf offCode with
  | some p, some q =>
    let s1 := s.onBox fun b => { b with onPoint := p, offPoint := q }
    done s1 (outletData s1)
  | _, _ => refuse s .invalidArg (outletData s)

/-- R184: ON and OFF by the host. -/
def outletSwitch (on : Bool) (s : State) : State × Answer :=
  if s.mech.owner.isTimer then refuse s .timerActive (outletData s)
  else
    let s1 := s.onBox fun b => { b with output := on, minimum := none, offDue := none, hold := none }
    done s1 (outletData s1)

/-- R184: READ. -/
def outletRead (s : State) : State × Answer := done s (outletData s)

/-- R187: BOX after a reset. -/
def boxReset (kept : Option Box) : Box :=
  match kept with
  | none => Box.reset
  | some b => { Box.reset with profile := b.profile, onPoint := b.onPoint, offPoint := b.offPoint }

end Sys2Proof.Machine
end

