-- ==== Sys2Proof/WellFormed.lean ====
section
/-!
DEFINITION. Sys2Proof/WellFormed.lean: which commands carry operands that section 11.9 can carry (requests) or that the part can
measure (events). exec does not ask for it: the blocks' own rules refuse what the manual refuses.
-/

namespace Sys2Proof

/-- A number fits one byte. -/
def fits8 (n : Nat) : Bool := decide (n < 256)
/-- A number fits two bytes. -/
def fits16 (n : Nat) : Bool := decide (n < 65536)
/-- A number fits four bytes. -/
def fits32 (n : Nat) : Bool := decide (n < 4294967296)
/-- A signed number fits one byte. -/
def fitsS8 (v : Int) : Bool := decide (-128 ≤ v) && decide (v ≤ 127)
/-- A signed number fits three bytes. -/
def fitsS24 (v : Int) : Bool := decide (-8388608 ≤ v) && decide (v ≤ 8388607)

/-- A date whose year byte is not the mark of absence, 0xFF (R211). -/
def Date.fits (d : Date) : Bool :=
  decide (1990 ≤ d.year) && decide (d.year < 2245) && fits8 d.month && fits8 d.day

/-- A date-time of six bytes (R211). -/
def DateTime.fits (t : DateTime) : Bool := t.date.fits && fits8 t.hour && fits8 t.minute && fits8 t.second

/-- A preset record of 15 bytes (section 11.9). -/
def PresetRecord.fits (r : PresetRecord) : Bool :=
  fits8 r.plan && fits16 r.channel && fitsS8 r.fine && fits8 r.nameLength && decide (r.name.length = 5) && fits16 r.boxChannel &&
    fits16 r.networkCode

/-- A programme entry record of 12 bytes (section 11.9). -/
def EntryRecord.fits (r : EntryRecord) : Bool :=
  fits8 r.repeatCode && (match r.date with | none => true | some d => d.fits) &&
    (match r.weekday with | none => true | some w => decide (w < 255)) &&
    fits8 r.startHour && fits8 r.startMinute && fits8 r.stopHour && fits8 r.stopMinute && fits8 r.preset &&
    decide (r.speedCode < 16) && decide (r.policyCode < 16)

/-- A box profile of 60 bytes (section 11.9). -/
def BoxProfile.fits (p : BoxProfile) : Bool :=
  decide (p.carrier < 8) && decide (p.bitField < 32) && decide (p.repeatField < 4) && fits8 p.unit && fits8 p.headerMark &&
    fits8 p.headerSpace && fits8 p.bitMark && fits8 p.space0 && fits8 p.space1 && fits8 p.halfBit && fits8 p.stopMark &&
    fits16 p.gap && decide (p.codes.length = 12) && p.codes.all fits32

/-- A kind is one of the 24 request kinds (section 11.9). -/
def requestKind (kind : Byte) : Bool := decide (1 ≤ kind.toNat) && decide (kind.toNat ≤ 24)

/-- The module's answer to a READ: a level of 0..63 (section 5.1). -/
def ModuleStatus.fits (st : ModuleStatus) : Bool := decide (st.level ≤ 63)

/-- A line-data packet has 12 payload bytes between its kind and its check (R117). -/
def Packet.fits (p : Packet) : Bool := decide (p.payload.length = 12)

/-- A command's operands are ones that can occur. -/
def Instr.wellFormed : Instr → Bool
  | .play | .pause | .cue | .review | .fwind | .rwind | .eject => true
  | .record _ | .stop _ => true
  | .camTargetReached _ | .camTimeout | .cassetteInClose _ | .cassetteInOpen | .endLeaderCovered _ | .startLeaderCovered _ => true
  | .stillTimerExpiry | .haltTimerExpiry | .reelStall => true
  | .drumFgPulse period => decide (0 < period)
  | .drumPgPulse _ | .drumFgOverdue | .drumPgOverdue => true
  | .capstanFgPulse period => decide (0 < period)
  | .drumLockTimeout | .capstanLockTimeout | .recordGateTimeout | .recordGuardTimeout => true
  | .vsyncPulse _ interval envelope => decide (0 < interval) && fits8 envelope
  | .syncAbsentTimeout _ => true
  | .internalFrameEdge envelope => fits8 envelope
  | .controlPulseReplayed duty _ interval envelope => decide (duty ≤ 1000) && decide (0 < interval) && fits8 envelope
  | .phaseModeGapTimeout | .playSpeedGapTimeout => true
  | .tracking _ value => (match value with | none => true | some v => fitsS8 v)
  | .posGapTimeout | .zero | .clearMemory | .position => true
  | .setMemory target => fitsS24 target
  | .reelPulse _ interval => decide (0 < interval)
  | .counterNoticeTimer | .remainingNoticeTimer | .markGapTimeout => true
  | .markList first => fits8 first
  | .markWrite type value => fits8 type && fits16 value
  | .markErase => true
  | .indexSearch n _ => fitsS8 n
  | .counterSearch target _ => fitsS24 target
  | .blankSearch | .indexScan | .blankTimerExpiry | .scanPlayTimerExpiry => true
  | .tunerTransactionEnd answer => (match answer with | none => true | some st => st.fits)
  | .initWaitExpiry | .settleTimerExpiry | .watchTimerExpiry => true
  | .tunePreset n => fits8 n
  | .tuneChannel plan channel => fits8 plan && fits8 channel
  | .tuneDirect steps => fits16 steps
  | .tuneUp | .tuneDown | .source _ => true
  | .presetWrite n entry => fits8 n && entry.fits
  | .presetRead n => fits8 n
  | .scanStart plan => fits8 plan
  | .scanStop | .scanConfirmExpiry | .labelTimerExpiry | .secondBoundary => true
  | .lineDataPacket p => p.fits
  | .clockSet time trim =>
    (match time with | none => true | some t => t.fits) && (match trim with | none => true | some v => fitsS8 v)
  | .clockRead => true
  | .entryWrite slot entry => fits8 slot && entry.fits
  | .entryRead slot | .cancel slot | .delete slot | .disable slot | .enable slot => fits8 slot
  | .extend slot t => fits8 slot && t.fits && decide (t.second = 0)
  | .dueTimerExpiry | .stopTimerExpiry | .scheduledStopExpiry | .windowTimerExpiry | .heldTimerExpiry => true
  | .labelLossTimerExpiry | .postHoldTimerExpiry => true
  | .boxProfileLoad profile => profile.fits
  | .boxProfileClear => true
  | .boxProfileRead part => decide (part < 2)
  | .boxKey key => fits8 key
  | .irFrameSent | .irRetryTimerExpiry => true
  | .outletConfig onPoint offPoint => fits8 onPoint && fits8 offPoint
  | .outletOn | .outletOff | .outletRead | .minimumOnTimerExpiry => true
  | .supGoodRise | .supplyTimerExpiry | .supplyFailure | .powerKeyPress => true
  | .powerRequestOn | .powerRequestStandby | .powerRequestRead | .powerOnReset | .pinReset | .restart => true
  | .frameComplete _ => true
  | .frameAbandoned why => (match why with | .badLength b => decide (60 < b.toNat) | .missingStop => true)
  | .receiveGapTimeout | .badFrame _ => true
  | .unknownFrame kind => !requestKind kind
  | .txFrameEnd | .status | .settingsWrite _ | .settingsRead | .recordedSecondsCheck | .byteReceived _ | .resetLineLow => true

end Sys2Proof
end

