-- ==== Sys2Proof/Machine/Requests.lean ====
section
/-!
DEFINITION. Sys2Proof/Machine/Requests.lean: the payloads of the 24 request kinds (section 11.9): reading a payload as a request, and
the payload a request is sent with. Bytes beyond a layout are ignored but for BOX_PROFILE (R201, R214); a payload that is too short,
or that holds a value coded outside the codes where no rule of the block checks it, is no request (R201).
-/

namespace Sys2Proof.Machine

/-! ## Numbers read back (R211) -/

/-- Two bytes, most significant first. -/
def nat16 (a b : Byte) : Nat := a.toNat * 256 + b.toNat
/-- Three bytes, most significant first. -/
def nat24 (a b c : Byte) : Nat := a.toNat * 65536 + b.toNat * 256 + c.toNat
/-- Four bytes, most significant first. -/
def nat32 (a b c d : Byte) : Nat := a.toNat * 16777216 + b.toNat * 65536 + c.toNat * 256 + d.toNat
/-- A signed number of three bytes. -/
def int24 (a b c : Byte) : Int := (BitVec.ofNat 24 (nat24 a b c)).toInt
/-- A set/clear value; other values are coded outside the codes. -/
def flagOf (b : Byte) : Option Bool := if b = 0 then some false else if b = 1 then some true else none
/-- A bit of a byte. -/
def bitOf (b : Byte) (n : Nat) : Bool := b.getLsbD n
/-- A date of three bytes. -/
def dateOf (y m d : Byte) : Date := { year := 1990 + y.toNat, month := m.toNat, day := d.toNat }
/-- A date of three bytes that may be absent. -/
def optDateOf (y m d : Byte) : Option Date := if y = 0xFF then none else some (dateOf y m d)

/-! ## Reading payloads -/

/-- MECH: the command code; RECORD and STOP carry their flag (section 1.4). -/
def parseMech (p : List Byte) : Option Instr :=
  match p with
  | [] => none
  | c :: rest =>
    match c.toNat, rest with
    | 0, _ => some .play
    | 1, f :: _ => (flagOf f).map .record
    | 2, _ => some .pause
    | 3, f :: _ => (flagOf f).map .stop
    | 4, _ => some .cue
    | 5, _ => some .review
    | 6, _ => some .fwind
    | 7, _ => some .rwind
    | 8, _ => some .eject
    | _, _ => none

/-- SEARCH (R87). -/
def parseSearch (p : List Byte) : Option Instr :=
  match p with
  | [] => none
  | c :: rest =>
    match c.toNat, rest with
    | 0, n :: f :: _ => (flagOf f).map (.indexSearch n.toInt)
    | 1, a :: b :: d :: f :: _ => (flagOf f).map (.counterSearch (int24 a b d))
    | 2, _ => some .blankSearch
    | 3, _ => some .indexScan
    | _, _ => none

/-- MARK (R79, R80, R84). -/
def parseMark (p : List Byte) : Option Instr :=
  match p with
  | [] => none
  | c :: rest =>
    match c.toNat, rest with
    | 0, n :: _ => some (.markList n.toNat)
    | 1, t :: a :: b :: _ => some (.markWrite t.toNat (nat16 a b))
    | 2, _ => some .markErase
    | _, _ => none

/-- The mode of a TRACKING request. -/
def trackingArgOf (b : Byte) : Option TrackingArg :=
  match b.toNat with
  | 0 => some .auto | 1 => some .manual | 2 => some .unchanged | _ => none

/-- TRACKING (R47). -/
def parseTracking (p : List Byte) : Option Instr :=
  match p with
  | m :: f :: v :: _ =>
    match trackingArgOf m, flagOf f with
    | some a, some g => some (.tracking a (if g then some v.toInt else none))
    | _, _ => none
  | _ => none

/-- COUNTER_OP (section 3.2). -/
def parseCounter (p : List Byte) : Option Instr :=
  match p with
  | [] => none
  | c :: rest =>
    match c.toNat, rest with
    | 0, _ => some .zero
    | 1, a :: b :: d :: _ => some (.setMemory (int24 a b d))
    | 2, _ => some .clearMemory
    | _, _ => none

/-- TUNE (R108). -/
def parseTune (p : List Byte) : Option Instr :=
  match p with
  | [] => none
  | c :: rest =>
    match c.toNat, rest with
    | 0, n :: _ => some (.tunePreset n.toNat)
    | 1, a :: b :: _ => some (.tuneChannel a.toNat b.toNat)
    | 2, a :: b :: _ => some (.tuneDirect (nat16 a b))
    | 3, _ => some .tuneUp
    | 4, _ => some .tuneDown
    | _, _ => none

/-- SOURCE (R109). -/
def parseSource (p : List Byte) : Option Instr :=
  match p with
  | [] => none
  | b :: _ => if b = 0 then some (.source .tuner) else if b = 1 then some (.source .line) else none

/-- The preset record of 15 bytes. -/
def presetRecordOf (p : List Byte) : Option PresetRecord :=
  match p with
  | f :: pl :: c1 :: c0 :: fine :: n :: a :: b :: c :: d :: e :: x1 :: x0 :: k1 :: k0 :: _ =>
    some { used := bitOf f 0, aftOff := bitOf f 1, skip := bitOf f 2, sourceBox := bitOf f 3, codePresent := bitOf f 4,
           plan := pl.toNat, channel := nat16 c1 c0, fine := fine.toInt, nameLength := n.toNat, name := [a, b, c, d, e],
           boxChannel := nat16 x1 x0, networkCode := nat16 k1 k0 }
  | _ => none

/-- PRESET_WRITE: the preset number, then the record. -/
def parsePresetWrite (p : List Byte) : Option Instr :=
  match p with
  | [] => none
  | n :: rest => (presetRecordOf rest).map (.presetWrite n.toNat)

/-- A kind whose payload is one number. -/
def parseNumber (f : Nat → Instr) (p : List Byte) : Option Instr :=
  match p with
  | [] => none
  | n :: _ => some (f n.toNat)

/-- SCAN (R111). -/
def parseScan (p : List Byte) : Option Instr :=
  match p with
  | [] => none
  | c :: rest =>
    match c.toNat, rest with
    | 0, n :: _ => some (.scanStart n.toNat)
    | 1, _ => some .scanStop
    | _, _ => none

/-- The entry record of 12 bytes (R213). -/
def entryRecordOf (p : List Byte) : Option EntryRecord :=
  match p with
  | f :: r :: y :: m :: d :: w :: h1 :: m1 :: h2 :: m2 :: n :: v :: _ =>
    some { enabled := bitOf f 0, allowSlower := bitOf f 1, labelFollow := bitOf f 2, markFlag := bitOf f 3,
           powerOffAfter := bitOf f 4, markGiven := bitOf f 5, repeatCode := r.toNat, date := optDateOf y m d,
           weekday := if w = 0xFF then none else some w.toNat, startHour := h1.toNat, startMinute := m1.toNat,
           stopHour := h2.toNat, stopMinute := m2.toNat, preset := n.toNat, speedCode := v.toNat % 16,
           policyCode := v.toNat / 16 }
  | _ => none

/-- ENTRY_WRITE: the slot, then the record. -/
def parseEntryWrite (p : List Byte) : Option Instr :=
  match p with
  | [] => none
  | n :: rest => (entryRecordOf rest).map (.entryWrite n.toNat)

/-- ENTRY_CONTROL (R170 to R172). -/
def parseEntryControl (p : List Byte) : Option Instr :=
  match p with
  | c :: k :: rest =>
    match c.toNat, rest with
    | 0, _ => some (.cancel k.toNat)
    | 1, _ => some (.delete k.toNat)
    | 2, _ => some (.disable k.toNat)
    | 3, _ => some (.enable k.toNat)
    | 4, y :: m :: d :: h :: n :: _ =>
      some (.extend k.toNat { date := dateOf y m d, hour := h.toNat, minute := n.toNat, second := 0 })
    | _, _ => none
  | _ => none

/-- CLOCK_SET: a date-time that may be absent, then a trim with its presence byte (R133). -/
def parseClockSet (p : List Byte) : Option Instr :=
  match p with
  | y :: m :: d :: h :: n :: x :: f :: v :: _ =>
    match flagOf f with
    | none => none
    | some g =>
      some (.clockSet
        ((optDateOf y m d).map fun day => { date := day, hour := h.toNat, minute := n.toNat, second := x.toNat })
        (if g then some v.toInt else none))
  | _ => none

/-- The key codes of a box profile: four bytes each. -/
def codesOf : List Byte → List Nat
  | a :: b :: c :: d :: rest => nat32 a b c d :: codesOf rest
  | _ => []

/-- The box profile of 60 bytes. -/
def boxProfileOf (p : List Byte) : Option BoxProfile :=
  match p with
  | a :: b :: u :: hm :: hs :: bm :: s0 :: s1 :: hb :: sm :: g1 :: g0 :: codes =>
    some { carrier := a.toNat % 8, inverted := bitOf a 3, biphase := bitOf a 4, minimal := bitOf a 5, enter := bitOf a 6,
           topBit := bitOf a 7, bitField := b.toNat / 4 % 32, repeatField := b.toNat % 4, unit := u.toNat,
           headerMark := hm.toNat, headerSpace := hs.toNat, bitMark := bm.toNat, space0 := s0.toNat, space1 := s1.toNat,
           halfBit := hb.toNat, stopMark := sm.toNat, gap := nat16 g1 g0, codes := codesOf codes }
  | _ => none

/-- R214: BOX_PROFILE takes its operation from its length. -/
def parseBoxProfile (p : List Byte) : Option Instr :=
  match p with
  | [b] => if b = 0 then some .boxProfileClear else if b = 1 then some (.boxProfileRead 0)
           else if b = 2 then some (.boxProfileRead 1) else none
  | _ => if p.length = 60 then (boxProfileOf p).map .boxProfileLoad else none

/-- OUTLET (R184). -/
def parseOutlet (p : List Byte) : Option Instr :=
  match p with
  | [] => none
  | c :: rest =>
    match c.toNat, rest with
    | 0, a :: b :: _ => some (.outletConfig a.toNat b.toNat)
    | 1, _ => some .outletOn
    | 2, _ => some .outletOff
    | 3, _ => some .outletRead
    | _, _ => none

/-- SETTINGS_WRITE: five bytes. -/
def parseSettings (p : List Byte) : Option Instr :=
  match p with
  | a :: b :: c :: d :: e :: _ => some (.settingsWrite { mask := a, standard := b, speed := c, switches := d, feed := e })
  | _ => none

/-- POWER (R195). -/
def parsePower (p : List Byte) : Option Instr :=
  match p with
  | [] => none
  | c :: _ => if c = 0 then some .powerRequestOn else if c = 1 then some .powerRequestStandby
              else if c = 2 then some .powerRequestRead else none

/-- The request that a payload of a kind carries. -/
def parseRequest (kind : Byte) (p : List Byte) : Option Instr :=
  match kind.toNat with
  | 0x01 => parseMech p
  | 0x02 => parseSearch p
  | 0x03 => parseMark p
  | 0x04 => parseTracking p
  | 0x05 => parseCounter p
  | 0x06 => parseTune p
  | 0x07 => parseSource p
  | 0x08 => parsePresetWrite p
  | 0x09 => parseNumber .presetRead p
  | 0x0A => parseScan p
  | 0x0B => parseEntryWrite p
  | 0x0C => parseNumber .entryRead p
  | 0x0D => parseEntryControl p
  | 0x0E => parseClockSet p
  | 0x0F => some .clockRead
  | 0x10 => parseBoxProfile p
  | 0x11 => parseNumber .boxKey p
  | 0x12 => parseOutlet p
  | 0x13 => parseSettings p
  | 0x14 => some .settingsRead
  | 0x15 => some .status
  | 0x16 => some .position
  | 0x17 => parsePower p
  | 0x18 => some .restart
  | _ => none

/-! ## Forming payloads -/

/-- A bit with a weight. -/
def weight (b : Bool) (n : Nat) : Nat := if b then n else 0

/-- The 15 bytes of a preset record as the host sends it. -/
def presetRecordBytes (r : PresetRecord) : List Byte :=
  [byte (weight r.used 1 + weight r.aftOff 2 + weight r.skip 4 + weight r.sourceBox 8 + weight r.codePresent 16), byte r.plan] ++
    be16 r.channel ++ [sbyte r.fine, byte r.nameLength] ++ r.name ++ be16 r.boxChannel ++ be16 r.networkCode

/-- The 12 bytes of an entry record as the host sends it. -/
def entryRecordBytes (r : EntryRecord) : List Byte :=
  [byte (weight r.enabled 1 + weight r.allowSlower 2 + weight r.labelFollow 4 + weight r.markFlag 8 + weight r.powerOffAfter 16 +
      weight r.markGiven 32), byte r.repeatCode] ++ optDateBytes r.date ++
    [(match r.weekday with | none => 0xFF | some w => byte w), byte r.startHour, byte r.startMinute, byte r.stopHour,
      byte r.stopMinute, byte r.preset, byte (r.speedCode + 16 * r.policyCode)]

/-- A date-time to the second that may be absent. -/
def optSecondBytes (t : Option DateTime) : List Byte :=
  match t with
  | none => [0xFF, 0, 0, 0, 0, 0]
  | some x => secondBytes x

/-- Codes of the TRACKING mode argument. -/
def trackingArgCode : TrackingArg → Byte
  | .auto => 0 | .manual => 1 | .unchanged => 2

/-- Section 11.9: the kind and payload a request is sent with; none for a command that is no request. -/
def requestFrame : Instr → Option (Byte × List Byte)
  | .play => some (0x01, [0])
  | .record f => some (0x01, [1, flag f])
  | .pause => some (0x01, [2])
  | .stop f => some (0x01, [3, flag f])
  | .cue => some (0x01, [4])
  | .review => some (0x01, [5])
  | .fwind => some (0x01, [6])
  | .rwind => some (0x01, [7])
  | .eject => some (0x01, [8])
  | .indexSearch n f => some (0x02, [0, sbyte n, flag f])
  | .counterSearch v f => some (0x02, 1 :: sbe24 v ++ [flag f])
  | .blankSearch => some (0x02, [2])
  | .indexScan => some (0x02, [3])
  | .markList n => some (0x03, [0, byte n])
  | .markWrite t v => some (0x03, 1 :: byte t :: be16 v)
  | .markErase => some (0x03, [2])
  | .tracking m v => some (0x04, trackingArgCode m :: optional 1 (v.map fun n => [sbyte n]))
  | .zero => some (0x05, [0])
  | .setMemory v => some (0x05, 1 :: sbe24 v)
  | .clearMemory => some (0x05, [2])
  | .tunePreset n => some (0x06, [0, byte n])
  | .tuneChannel p c => some (0x06, [1, byte p, byte c])
  | .tuneDirect f => some (0x06, 2 :: be16 f)
  | .tuneUp => some (0x06, [3])
  | .tuneDown => some (0x06, [4])
  | .source v => some (0x07, [byte (sourceCode v)])
  | .presetWrite n r => some (0x08, byte n :: presetRecordBytes r)
  | .presetRead n => some (0x09, [byte n])
  | .scanStart p => some (0x0A, [0, byte p])
  | .scanStop => some (0x0A, [1])
  | .entryWrite n r => some (0x0B, byte n :: entryRecordBytes r)
  | .entryRead n => some (0x0C, [byte n])
  | .cancel n => some (0x0D, [0, byte n])
  | .delete n => some (0x0D, [1, byte n])
  | .disable n => some (0x0D, [2, byte n])
  | .enable n => some (0x0D, [3, byte n])
  | .extend n t => some (0x0D, 4 :: byte n :: minuteBytes t)
  | .clockSet t v => some (0x0E, optSecondBytes t ++ optional 1 (v.map fun n => [sbyte n]))
  | .clockRead => some (0x0F, [])
  | .boxProfileLoad p => some (0x10, profileBytes p)
  | .boxProfileClear => some (0x10, [0])
  | .boxProfileRead n => some (0x10, [byte (n + 1)])
  | .boxKey n => some (0x11, [byte n])
  | .outletConfig a b => some (0x12, [0, byte a, byte b])
  | .outletOn => some (0x12, [1])
  | .outletOff => some (0x12, [2])
  | .outletRead => some (0x12, [3])
  | .settingsWrite r => some (0x13, [r.mask, r.standard, r.speed, r.switches, r.feed])
  | .settingsRead => some (0x14, [])
  | .status => some (0x15, [])
  | .position => some (0x16, [])
  | .powerRequestOn => some (0x17, [0])
  | .powerRequestStandby => some (0x17, [1])
  | .powerRequestRead => some (0x17, [2])
  | .restart => some (0x18, [])
  | _ => none

/-- The kind code of a request; 0 for a command that is no request. -/
def kindOf (i : Instr) : Byte := match requestFrame i with | none => 0 | some f => f.1

end Sys2Proof.Machine
end

