-- ==== Sys2Proof/Machine/Pos.lean ====
section
/-!
DEFINITION. Sys2Proof/Machine/Pos.lean: the Position Unit (chapter 3): the counter, the reel periods, identification, the
remaining-tape arithmetic, notices, and what insertion, EMPTY, supply loss and ZERO do to them.
-/

namespace Sys2Proof.Machine

/-! ## The counter (R52 to R57) -/

/-- R52: one frame counted, forward or back; a count beyond a limit is lost and sets the approximate flag. -/
def countFrame (forward : Bool) (s : State) : State :=
  let raw := if forward then s.pos.counter + 1 else s.pos.counter - 1
  let v := s.clampCounter raw
  s.onPos fun p => { p with counter := v, approx := p.approx || decide (v ≠ raw) }

/-- R57: the correction MARK asks for. -/
def correctCounter (delta : Int) (s : State) : State :=
  let v := s.clampCounter (s.pos.counter + delta)
  s.onPos fun p => { p with counter := v, approx := false }

/-- The states in which the capstan draws the tape and counting may fall to it (R54). -/
def capstanDrawn (m : MState) : Bool :=
  match m with
  | .play => true | .cue => true | .review => true | .recPause => true | _ => false

/-- The recording speed of the session (R43); outside one, the record-speed setting. -/
def State.recordingSpeed (s : State) : Speed :=
  match s.servo.recSpeed with
  | none => s.link.settings.recordSpeed
  | some v => v

/-- R54: the increment of one capstan pulse: the frame rate times m. -/
def capstanIncrement (s : State) : Int :=
  let v := if s.mech.state = .recPause then s.recordingSpeed else s.servo.playSpeed
  (s.std.frames : Int) * (v.factor : Int)

/-- R54, R55: a signed increment by the direction of the motion. -/
def signedIncrement (m : Motion) (v : Int) : Int := if m.forward then v else -v

/-- R54: a capstan pulse while the source is CONTROL adds to the gap sum. -/
def addGapSum (v : Int) (s : State) : State := s.onPos fun p => { p with gapSum := p.gapSum + v }

/-- R55: a capstan pulse while the source is CAPSTAN adds to the accumulator. -/
def addAccumulator (v : Int) (s : State) : State := s.onPos fun p => { p with acc := p.acc + v }

/-- R55: the frame the accumulator owes, if any: forward at 480 or more, back at −480 or less. -/
def owedFrame (p : Pos) : Option Bool := if 480 ≤ p.acc then some true else if p.acc ≤ -480 then some false else none

/-- R55: the accumulator pays for one frame and the counter moves. -/
def payFrame (forward : Bool) (s : State) : State :=
  countFrame forward (s.onPos fun p => { p with acc := if forward then p.acc - 480 else p.acc + 480 })

/-- R54: the source becomes CAPSTAN and the gap sum joins the accumulator. -/
def toCapstan (s : State) : State :=
  s.onPos fun p => { p with source := .capstan, acc := p.acc + p.gapSum, gapSum := 0, gap := none }

/-- R56: the source becomes NONE and the counter approximate. -/
def toNone (s : State) : State := s.onPos fun p => { p with source := .none, approx := true, gap := none }

/-- R53, R54: a control pulse returns the source to CONTROL, clears the gap sum, restarts the gap watch and is counted. -/
def countPulse (forward : Bool) (s : State) : State :=
  countFrame forward (s.onPos fun p => { p with source := .control, gapSum := 0, gap := some s.now })

/-- R60: the counted frame from one value to the next crosses the memory-stop target in a wind. -/
def crossesTarget (m : MState) (target : Option Int) (before after : Int) : Bool :=
  match target with
  | none => false
  | some t =>
    match m with
    | .fwind => decide (before < t) && decide (t ≤ after)
    | .rwind => decide (t < before) && decide (after ≤ t)
    | _ => false

/-! ## Motions -/

/-- R61, R62: both reels' intervals are discarded and the 1 s window opens. -/
def reelsRestart (s : State) : State :=
  s.onPos fun p => { p with supply := ReelRecord.reset, takeUp := ReelRecord.reset, window := s.now }

/-- R64: the identification run is cleared. -/
def runClear (s : State) : State := s.onPos fun p => { p with candidate := none, run := 0 }

/-- R62: a capstan restart within a motion. -/
def capstanRestarted (s : State) : State := runClear (reelsRestart s)

/-- R66, R72: a LIVE estimate becomes HELD. -/
def estimateHeld (e : EstState) : EstState :=
  match e with
  | .live => .held | .held => .held | .none => .none

/-- R205, R68: a COUNTER notice where enabled. -/
def counterNotice (s : State) : State :=
  if s.link.settings.counterNotices then notify (.counter s.pos.counter s.pos.approx s.pos.source) s else s

/-- R53, R62, R68, R23: a motion begins. -/
def motionBegin (forward : Bool) (s : State) : State :=
  let s1 := (reelsRestart s).onPos fun p =>
    { p with source := .control, gapSum := 0, gap := some s.now, motion := some { forward := forward, start := s.now },
             counterSent := 0, remainingSent := 0 }
  s1.onMech fun m => { m with stall := { last := s.now, interval := 0, pulses := 0 } }

/-- R66, R68, R69: a motion ends: the estimate is HELD, the end approach withdrawn, and the last COUNTER notice is sent. The motion's
direction is kept, in which the tape's overshoot passes the head (R40, R53). -/
def motionEnd (s : State) : State :=
  match s.pos.motion with
  | none => s
  | some m =>
    (counterNotice s).onPos fun p =>
      { p with motion := none, coast := some m.forward, gap := none, estState := estimateHeld p.estState, endApproach := false }

/-- R40: MECH enters a state, in which an overshoot may pass the head or not. DESIGN CHOICE (log 52): it may while the tape stays on
the drum, in the threaded states and in SHIFTING between them; in every other state no overshoot is counted any more. -/
def coastFollow (onDrum : Bool) (s : State) : State := if onDrum then s else s.onPos fun p => { p with coast := none }

/-! ## Remaining tape (R63 to R66) -/

/-- R63: Qc of a class. -/
def CassetteClass.qc : CassetteClass → Nat
  | .c30 => 26813 | .c60 => 41290 | .c90 => 55766 | .c120 => 70244 | .c180 => 99195 | .c240 => 128148

/-- R63: the standard duration D of a class, in seconds. -/
def CassetteClass.duration : CassetteClass → Nat
  | .c30 => 1800 | .c60 => 3600 | .c90 => 5400 | .c120 => 7200 | .c180 => 10800 | .c240 => 14400

/-- R63: Qn. -/
def qn (ps pt m : Nat) : Nat := min (roundHalfUp (ps * ps + pt * pt) (1024 * (m * m))) 16777215

/-- R63: Qn lies in the class's window. -/
def qnMatches (q : Nat) (c : CassetteClass) : Bool := decide ((((q : Int) - (c.qc : Int)).natAbs) * 100 ≤ 6 * c.qc)

/-- R63: the class an attempt identifies. -/
def identify (q : Nat) : Option CassetteClass :=
  [CassetteClass.c30, .c60, .c90, .c120, .c180, .c240].find? (qnMatches q)

/-- R65, stages 1 and 2: F16. -/
def fraction16 (c : CassetteClass) (ps pt : Nat) : Nat :=
  let s0 := roundHalfUp (c.qc * (ps * ps)) (ps * ps + pt * pt)
  let s1 := clampNat Config.hubTerm (c.qc - Config.hubTerm) s0
  (s1 - Config.hubTerm) * 65536 / (c.qc - 2 * Config.hubTerm)

/-- R65, stage 3: remaining seconds at a speed. -/
def remainingSeconds (c : CassetteClass) (f16 : Nat) (v : Speed) : Nat := f16 * c.duration * v.factor / 65536

/-- R65, R67: the remaining seconds, at the speeds legal under the current standard; none without an estimate. -/
def State.remainingAt (s : State) (v : Speed) : Option Nat :=
  if v.isLegal s.std then
    match s.pos.estState, s.pos.cls with
    | .none, _ => none
    | _, none => none
    | _, some c => some (remainingSeconds c s.pos.f16 v)
  else none

/-- R61: a reel's period. -/
def ReelRecord.period (r : ReelRecord) : Option Nat :=
  match r.recent with
  | [a, b, c, d] => some (clampNat 1 65535 (a + b + c + d))
  | _ => none

/-- R65, R66, R68, R69: the estimate is computed from the present periods, and in a wind tested for the end approach. -/
def estimate (s : State) : State :=
  match s.pos.cls, s.pos.supply.period, s.pos.takeUp.period with
  | some c, some ps, some pt =>
    let f := fraction16 c ps pt
    let near := match s.mech.state with
      | .fwind => decide (f < 1024)
      | .rwind => decide (65536 - f < 1024)
      | _ => false
    let s1 := s.onPos fun p => { p with f16 := f, estState := .live, endApproach := p.endApproach || near }
    let s2 := if s1.pos.endApproach then s1.onMech fun m => { m with windSlow := true } else s1
    report .liveEstimate s2
  | _, _, _ => s

/-- R64: the class is set or replaced. -/
def setClass (c : CassetteClass) (s : State) : State :=
  if s.pos.cls = some c then s
  else runClear (estimate (notify (.classSet c s.pos.cls) (s.onPos fun p => { p with cls := some c })))

/-- R64: the identification run after an attempt. -/
def identified (c : CassetteClass) (s : State) : State :=
  let run := if s.pos.candidate = some c then satInc 3 s.pos.run else 1
  let s1 := s.onPos fun p => { p with candidate := some c, run := run }
  if run = 3 then setClass c s1 else s1

/-- R63: an attempt is made in PLAY or RECORD with the capstan LOCKED. -/
def attempts (s : State) : Bool :=
  (decide (s.mech.state = .play) || decide (s.mech.state = .record)) && decide (s.servo.capstan.state = .locked)

/-- R63: an identification attempt. -/
def attempt (s : State) : State :=
  match s.pos.supply.period, s.pos.takeUp.period with
  | some ps, some pt =>
    if attempts s then
      let v := if s.mech.state = .record then s.recordingSpeed else s.servo.playSpeed
      match identify (qn ps pt v.factor) with
      | none => runClear s
      | some c => identified c s
    else s
  | _, _ => s

/-! ## Reel pulses (R61, R23) -/

/-- R61: one pulse of a reel's record; whether it completes a revolution. -/
def ReelRecord.pulse (past : Bool) (interval : Nat) (r : ReelRecord) : ReelRecord × Bool :=
  if r.past then
    let n := r.count + 1
    ({ past := past, recent := (max 1 interval :: r.recent).take 4, count := n }, decide (n % 4 = 0))
  else ({ r with past := past }, false)

/-- R23: the reel MECH watches. -/
def watchedReel (m : Motion) : Reel := if m.forward then .takeUp else .supply

/-- R23: the watch takes the interval of a pulse of the watched reel. -/
def watchPulse (m : Motion) (reel : Reel) (interval : Nat) (s : State) : State :=
  if watchedReel m = reel then
    s.onMech fun x => { x with stall := { last := s.now, interval := interval, pulses := satInc 2 x.stall.pulses } }
  else s

/-- R61: one pulse of a reel sensor during a motion. -/
def reelPulse (reel : Reel) (interval : Nat) (s : State) : State :=
  match s.pos.motion with
  | none => s
  | some m =>
    let past := passed Config.reelWindow s.now s.pos.window
    let r := ReelRecord.pulse past interval (match reel with | .supply => s.pos.supply | .takeUp => s.pos.takeUp)
    let s1 := (watchPulse m reel interval s).onPos fun p =>
      match reel with | .supply => { p with supply := r.1 } | .takeUp => { p with takeUp := r.1 }
    if r.2 then estimate (attempt s1) else s1

/-- R23: the stall threshold in ticks. -/
def stallThreshold (w : StallWatch) : Nat :=
  if w.pulses < 2 then 12288 else clampNat 1024 12288 (2 * w.interval)

/-- R23: a stall is found. -/
def stalled (s : State) : Bool :=
  s.pos.motion.isSome && decide (stallThreshold s.mech.stall * Config.cyclesPerTick < s.now - s.mech.stall.last)

/-! ## Periodic notices (R68) -/

/-- Whole seconds since the motion began. -/
def motionSeconds (m : Motion) (s : State) : Nat := (s.now - m.start) / Config.cyclesPerSecond

/-- R68: a full second since the motion began. -/
def counterTimer (s : State) : State :=
  match s.pos.motion with
  | none => s
  | some m =>
    if s.pos.counterSent < motionSeconds m s then
      counterNotice (s.onPos fun p => { p with counterSent := motionSeconds m s })
    else s

/-- R68: the values of a REMAINING notice. -/
def remainingValues (s : State) : Option Remaining :=
  match s.remainingAt .s, s.remainingAt .h with
  | some a, some b => some { f16 := s.pos.f16, s := a, h := b, t := s.remainingAt .t }
  | _, _ => none

/-- R68: a full ten seconds since the motion began. -/
def remainingTimer (s : State) : State :=
  match s.pos.motion with
  | none => s
  | some m =>
    if s.pos.remainingSent < motionSeconds m s / 10 then
      let s1 := s.onPos fun p => { p with remainingSent := motionSeconds m s / 10 }
      if s.link.settings.remainingNotices then notify (.remaining s.pos.estState (remainingValues s)) s1 else s1
    else s

/-! ## Insertion, EMPTY, supply loss (R70 to R72) -/

/-- R70, R72: POS clears at a seating through INSERTING. A memory-stop target can stand only at a recovery run, which clears it
with the rest (R72; log 43). -/
def posInserted (s : State) : State := s.onPos fun p => { Pos.reset with target := if s.mech.recoveryRun then none else p.target }

/-- R71: POS clears at EMPTY, the memory-stop target too. -/
def posEmptied (s : State) : State := s.onPos fun _ => Pos.reset

/-- R72: supply loss. -/
def posSupplyLost (s : State) : State :=
  if s.pos.motion.isSome then (motionEnd s).onPos fun p => { p with approx := true } else s

/-! ## Requests -/

/-- The data of every COUNTER_OP reply: counter, approximate flag, target (section 3.2). -/
def counterData (s : State) : List Byte :=
  sbe24 s.pos.counter ++ [flag s.pos.approx] ++ optional 3 (s.pos.target.map sbe24)

/-- R67: the POSITION data (section 11.9). -/
def positionData (s : State) : List Byte :=
  let two (v : Option Nat) : List Byte := match v with | none => [0xFF, 0xFF] | some n => be16 n
  sbe24 s.pos.counter ++
    [byte ((if s.pos.approx then 1 else 0) + (if s.pos.target.isSome then 2 else 0)), byte s.pos.source.code] ++
    sbe24 (s.pos.target.getD 0) ++ [byte (classCode s.pos.cls), byte s.pos.estState.code] ++
    (match s.pos.estState with | .none => [0xFF, 0xFF, 0xFF] | _ => be24 s.pos.f16) ++
    two (s.remainingAt .s) ++ two (s.remainingAt .h) ++ two (s.remainingAt .t)

/-- R67: POSITION. -/
def positionRequest (s : State) : State × Answer := done s (positionData s)

/-- R59: SET_MEMORY. -/
def setMemory (v : Int) (s : State) : State × Answer :=
  if s.mech.state = .empty then refuse s .noCassette
  else
    let s1 := s.onPos fun p => { p with target := some (s.clampCounter v) }
    done s1 (counterData s1)

/-- R59: CLEAR_MEMORY. -/
def clearMemory (s : State) : State × Answer :=
  if s.mech.state = .empty then refuse s .noCassette
  else
    let s1 := s.onPos fun p => { p with target := none }
    done s1 (counterData s1)

end Sys2Proof.Machine
end

