-- ==== Sys2Proof/Machine/Mark.lean ====
section
/-!
DEFINITION. Sys2Proof/Machine/Mark.lean: the Mark Unit (chapter 4) without its searches: duty classes, the reader, the mark list,
the writer, the spans and the LIST, WRITE and ERASE requests.
-/

namespace Sys2Proof.Machine

/-! ## The mark on tape (R74) -/

/-- R74: the class of a measured duty in parts per thousand of the frame interval. -/
def dutyClass (permille : Nat) : Duty := if permille < 420 then .short else if permille ≤ 670 then .plain else .long

/-- R74: the written duty of a class, in parts per thousand. -/
def writtenDuty : Duty → Nat
  | .short => 300 | .plain => 550 | .long => 800

/-- R74: bits of a field, most significant first. -/
def fieldBits (v : Nat) : Nat → List Bool
  | 0 => []
  | n + 1 => v.testBit n :: fieldBits v n

/-- R74: the check: the sum modulo 16 of the type and the three groups of the value. -/
def markCheck (type value : Nat) : Nat := (type + value / 256 + value / 16 % 16 + value % 16) % 16

/-- R74: a 1 is LONG then SHORT, a 0 SHORT then LONG. -/
def bitPulses (b : Bool) : List Duty := if b then [.long, .short] else [.short, .long]

/-- R74: the 48 pulses of a mark, in tape order. -/
def markPulses (type : MarkType) (value : Nat) : List Duty :=
  List.replicate 8 .short ++
    ((fieldBits type.code 4 ++ fieldBits value 12 ++ fieldBits (markCheck type.code value) 4).map bitPulses).flatten

/-- R74, R75: the bits of pairs of pulses; none where a pair is no valid bit. -/
def pairBits : List Duty → Option (List Bool)
  | [] => some []
  | .long :: .short :: rest => (pairBits rest).map (true :: ·)
  | .short :: .long :: rest => (pairBits rest).map (false :: ·)
  | _ => none

/-- The number of bits, most significant first. -/
def bitsNumber (bs : List Bool) : Nat := bs.foldl (fun n b => 2 * n + (if b then 1 else 0)) 0

/-- The mark types that may stand on tape, by their field (R74). -/
def markTypeOf (n : Nat) : Option MarkType :=
  match n with
  | 1 => some .index | 2 => some .protectBegin | 3 => some .protectEnd | _ => none

/-- R75: a group of pulses read as a mark, or UNREADABLE with no value. -/
def readGroup (ds : List Duty) : MarkType × Option Nat :=
  if ds.length = 48 ∧ (ds.take 8).all (fun d => decide (d = .short)) = true then
    match pairBits (ds.drop 8) with
    | none => (.unreadable, none)
    | some bits =>
      let type := bitsNumber (bits.take 4)
      let value := bitsNumber ((bits.drop 4).take 12)
      if bitsNumber (bits.drop 16) = markCheck type value then
        match markTypeOf type with
        | none => (.unreadable, none)
        | some t => (t, some value)
      else (.unreadable, none)
  else (.unreadable, none)

/-- A mark as read, with the position of its first pulse in tape order. -/
structure MarkRead where
  pos   : Int
  type  : MarkType
  value : Option Nat
  deriving DecidableEq, Repr

/-- R75: the groups of a run in tape order; fuel bounds the count of groups. -/
def readRun : Nat → List (Int × Duty) → List MarkRead
  | 0, _ => []
  | n + 1, run =>
    match run with
    | [] => []
    | (p, _) :: _ =>
      let group := run.take 48
      if group.length < 8 then []
      else
        let r := readGroup (group.map Prod.snd)
        { pos := p, type := r.1, value := r.2 } :: readRun n (run.drop 48)

/-- R75: a closed run, its pulses newest first, arranged in tape order and read. -/
def examineRun (forward : Bool) (pulses : List (Int × Duty)) : List MarkRead :=
  let run := if forward then pulses.reverse else pulses
  readRun run.length run

/-! ## The reader (R75) -/

/-- R74: the forward position of a pulse. -/
def pulsePosition (forward : Bool) (v : Int) : Int := if forward then v else v + 1

/-- R75: one replayed pulse; the marks of the run it closes. -/
def Reader.pulse (forward : Bool) (now : Nat) (p : Int) (d : Duty) (r : Reader) : Reader × List MarkRead :=
  let heard := { r with heard := true, gap := some now, lastPlain := decide (d = Duty.plain) }
  match d with
  | .plain =>
    ({ heard with phase := .bounded, pulses := [], sound := false },
      if r.phase = .inRun ∧ r.sound = true then examineRun forward r.pulses else [])
  | _ =>
    match r.phase with
    | .inRun => ({ heard with pulses := (p, d) :: r.pulses }, [])
    | .bounded => ({ heard with phase := .inRun, pulses := [(p, d)], sound := true }, [])
    | .fresh => ({ heard with phase := .inRun, pulses := [(p, d)], sound := false }, [])

/-- R75: the gap bounds the run before it. Before the first pulse of a motion, or the first after rewritten pulses, it bounds
nothing: the run that begins there is discarded unread. -/
def Reader.gapped (forward : Bool) (r : Reader) : Reader × List MarkRead :=
  ({ r with phase := if r.phase = .fresh then .fresh else .bounded, pulses := [], sound := false, heard := false, gap := none },
    if r.phase = .inRun ∧ r.sound = true then examineRun forward r.pulses else [])

/-- R75: the reader starts afresh after rewritten pulses, as at the start of a motion; the gap watch runs on. -/
def Reader.rewritten (now : Nat) : Reader := { Reader.reset with heard := true, gap := some now }

/-- R75, R94: the reader at the start or end of a motion. -/
def readerClear (s : State) : State := s.onMark fun m => { m with reader := Reader.reset }

/-! ## The mark list (R76 to R79) -/

/-- Distance of a position from another. -/
def apart (a b : Int) : Nat := (a - b).natAbs

/-- R76: the entry farthest from the counter, the lower of two equally far. -/
def farthest (counter : Int) : List MarkEntry → Option MarkEntry
  | [] => none
  | e :: es =>
    match farthest counter es with
    | none => some e
    | some f => if apart f.pos counter ≤ apart e.pos counter then some e else some f

/-- R76: placed in order. -/
def insertEntry (e : MarkEntry) : List MarkEntry → List MarkEntry
  | [] => [e]
  | f :: fs => if e.pos < f.pos then e :: f :: fs else f :: insertEntry e fs

/-- R76: entries within 48 frames are removed. -/
def removeNear (p : Int) (l : List MarkEntry) : List MarkEntry := l.filter fun e => decide (48 ≤ apart e.pos p)

/-- R76: room for one more. -/
def makeRoom (counter : Int) (l : List MarkEntry) : List MarkEntry :=
  if l.length < Config.markPlaces then l
  else match farthest counter l with
    | none => l
    | some f => l.filter fun e => decide (e.pos ≠ f.pos)

/-- R76: a mark is added. -/
def addMark (counter : Int) (e : MarkEntry) (l : List MarkEntry) : List MarkEntry :=
  insertEntry e (makeRoom counter (removeNear e.pos l))

/-- R77: the matching entry nearest to the position read, the lower of two equally near. -/
def matchEntry (r : MarkRead) : List MarkEntry → Option MarkEntry
  | [] => none
  | e :: es =>
    let here := decide (r.type ≠ .unreadable) && decide (e.type = r.type) && decide (e.value = r.value)
    match matchEntry r es with
    | none => if here then some e else none
    | some f => if here ∧ apart e.pos r.pos ≤ apart f.pos r.pos then some e else some f

/-- R77: a mark read is handled; with it the position at which the searches take it (R88). -/
def handleMark (r : MarkRead) (s : State) : State × Int :=
  let added := s.onMark fun m =>
    { m with list := addMark s.pos.counter { pos := r.pos, type := r.type, value := r.value, written := false } m.list }
  if s.pos.approx then
    match matchEntry r s.mark.list with
    | none => (added, r.pos)
    | some e =>
      let s1 := correctCounter (e.pos - r.pos) s
      (notify (.counterCorrected s.pos.counter s1.pos.counter e) s1, e.pos)
  else (added, r.pos)

/-- R78: the shift of a ZERO. -/
def shiftList (limit : Int) (shift : Int) (l : List MarkEntry) : List MarkEntry :=
  (l.map fun e => { e with pos := e.pos + shift }).filter fun e => decide (- limit ≤ e.pos) && decide (e.pos ≤ limit)

/-- R79: up to 8 entries from the first index; an index at or beyond the count gives none. -/
def markList (first : Nat) (s : State) : State × Answer :=
  done s ([byte s.mark.list.length, flag s.pos.approx] ++
    (((s.mark.list.drop first).take 8).map markEntryBytes).flatten)

/-! ## Spans (R85, R86) -/

/-- A known span: its begin, its end inclusive, and whether it is open. -/
structure Span where
  first  : Int
  last   : Int
  opened : Bool
  deriving DecidableEq, Repr

/-- R85: the spans of a list, scanned in ascending position; begun is the span open so far. -/
def spansFrom (limit : Int) : Option Int → List MarkEntry → List Span
  | none, [] => []
  | some b, [] => [{ first := b, last := limit, opened := true }]
  | begun, e :: es =>
    match e.type, begun with
    | .protectBegin, none => spansFrom limit (some e.pos) es
    | .protectEnd, some b => { first := b, last := e.pos + 47, opened := false } :: spansFrom limit none es
    | _, b => spansFrom limit b es

/-- R85: the known spans. -/
def State.spans (s : State) : List Span := spansFrom (counterLimit s.std) none s.mark.list

/-- R86: the counter lies inside a known span. -/
def State.insideSpan (s : State) : Bool :=
  s.spans.any fun p => decide (p.first ≤ s.pos.counter) && decide (s.pos.counter ≤ p.last)

/-- R86, R163: the span whose guard extent holds the counter. DESIGN CHOICE (log 28): where two extents hold it, the lower span. -/
def State.guardSpan (s : State) : Option Span :=
  s.spans.find? fun p => decide (p.first - Config.guardFrames ≤ s.pos.counter) && decide (s.pos.counter ≤ p.last)

/-- The end of a span as notices carry it: none for an open span. -/
def Span.ending (p : Span) : Option Int := if p.opened then none else some p.last

/-! ## The writer (R80 to R84) -/

/-- R80: the type of a WRITE request. -/
def markWrite (type value : Nat) (s : State) : State × Answer :=
  if s.mech.state = .empty then refuse s .noCassette
  else if s.mech.owner.isTimer then refuse s .timerActive
  else match markTypeOf type with
    | none => refuse s .invalidArg
    | some t =>
      if t = .index ∧ 4095 < value then refuse s .invalidArg
      else if s.mech.state ≠ .play ∧ s.mech.state ≠ .record then refuse s .badState
      else if s.mech.state = .record ∧ t ≠ .index then refuse s .badState
      else if s.mark.writer ≠ .idle then refuse s .busy
      else if s.mech.state = .play ∧ s.mark.reader.heard = false then refuse s .noControl
      else
        let v := if t = .index then value else 0
        accepted (s.onMark fun m =>
          { m with writer := .writing t v .panel 0 none (decide (s.mech.state = .record)) })

/-- R84: ERASE. -/
def markErase (s : State) : State × Answer :=
  if s.mech.state = .empty then refuse s .noCassette
  else if s.mech.owner.isTimer then refuse s .timerActive
  else if s.mech.state ≠ .play then refuse s .badState
  else if s.mark.writer ≠ .idle then refuse s .busy
  else if s.mark.reader.heard = false then refuse s .noControl
  else accepted (s.onMark fun m => { m with writer := .erasing 0 none })

/-- R74, R81, R82, R84: the duty MARK asks for on the next pulse; none leaves a replayed pulse as it is. -/
def Writer.duty (w : Writer) : Option Duty :=
  match w with
  | .idle => none
  | .writing t v _ n _ _ => (markPulses t v)[n]?
  | .erasing _ (some _) => some .plain
  | .erasing _ none => none

/-- R40, R74, R81: the duty with which a pulse of RECORD is written, in parts per thousand: PLAIN unless the write in RECORD asks
for another. -/
def Writer.recordDuty (w : Writer) : Nat :=
  writtenDuty (match w with | .writing _ _ _ _ _ true => w.duty.getD .plain | _ => .plain)

/-- R82, R84: the duty a replayed pulse is rewritten to; none leaves it as it stands on the tape. -/
def Writer.replayDuty (w : Writer) : Option Nat :=
  match w with | .writing _ _ _ _ _ true => none | _ => w.duty.map writtenDuty

/-- R83: an operation in flight is aborted. -/
def markAbort (cause : AbortCause) (s : State) : State :=
  let idle := s.onMark fun m => { m with writer := .idle }
  match s.mark.writer with
  | .idle => s
  | .writing t v _ n _ _ => notify (.markAborted .write (some t) (some v) n cause) idle
  | .erasing n _ => notify (.markAborted .erase none none n cause) idle

/-- R83: the state in which the operation started is left. -/
def markLeave (old new : MState) (s : State) : State :=
  match s.mark.writer with
  | .idle => s
  | .writing _ _ _ _ _ true => if old = .record ∧ new ≠ .record then markAbort .stopped s else s
  | .writing _ _ _ _ _ false => if old = .play ∧ new ≠ .play then markAbort .stopped s else s
  | .erasing _ _ => if old = .play ∧ new ≠ .play then markAbort .stopped s else s

/-- R81, R82: one pulse of a write done at a position; the 48th completes it. -/
def writePulse (t : MarkType) (v : Nat) (o : Origin) (n : Nat) (at0 : Option Int) (inRecord : Bool) (p : Int) (s : State) : State :=
  let first := at0.getD p
  if n + 1 = Config.markPulses then
    notify (.markWritten t v first o)
      (s.onMark fun m =>
        { m with writer := .idle,
                 list := addMark s.pos.counter { pos := first, type := t, value := some v, written := true } m.list })
  else s.onMark fun m => { m with writer := .writing t v o (n + 1) (some first) inRecord }

/-- R84: one pulse of an erase past its position; the 48th completes it. -/
def erasePulse (n : Nat) (p : Int) (s : State) : State :=
  if n + 1 = Config.markPulses then
    notify (.markErased p (s.mark.list.find? fun e => decide (apart e.pos p < 48)))
      (s.onMark fun m => { m with writer := .idle, list := removeNear p m.list })
  else s.onMark fun m => { m with writer := .erasing (n + 1) (some p) }

/-- R40, R74, R78, R81: MARK at a pulse written in RECORD, with the counter POS hands with it; the head writes the duty MARK has
asked for, or PLAIN. -/
def markWritten (s : State) : State :=
  let s1 := s.onMark fun m =>
    { m with headDuty := some m.writer.recordDuty, list := m.list.filter fun e => decide (e.pos ≠ s.pos.counter) }
  match s1.mark.writer with
  | .writing t v o n p true => writePulse t v o n p true s.pos.counter s1
  | _ => s1

/-- R75, R82, R84: MARK at a replayed pulse; the marks of the run it closes. The head rewrites the pulse's duty where MARK asks. DESIGN
CHOICE (log 28): the PLAIN pulse that an erase waits behind may have been read before the ERASE was accepted, and a gap of 0.6 s in
between leaves it standing (Reader.lastPlain). -/
def markReplayed (forward : Bool) (d : Duty) (s : State) : State × List MarkRead :=
  let p := pulsePosition forward s.pos.counter
  let afresh := s.onMark fun m => { m with reader := Reader.rewritten s.now, headDuty := m.writer.replayDuty }
  let read := Reader.pulse forward s.now p d s.mark.reader
  let reading := s.onMark fun m => { m with reader := read.1, headDuty := m.writer.replayDuty }
  match s.mark.writer with
  | .writing t v o n at0 false => (writePulse t v o n at0 false p afresh, [])
  | .erasing n (some at0) => (erasePulse n at0 afresh, [])
  | .erasing _ none =>
    if d ≠ .plain ∧ s.mark.reader.lastPlain = true then
      (reading.onMark fun m => { m with writer := .erasing 1 (some p) }, read.2)
    else (reading, read.2)
  | _ => (reading, read.2)

/-- R75, R83, R84: MARK's gap watch runs out; the marks of the run it closes. -/
def markGap (s : State) : State × List MarkRead :=
  let forward := match s.pos.motion with | none => true | some m => m.forward
  let r := Reader.gapped forward s.mark.reader
  let s1 := s.onMark fun m => { m with reader := r.1 }
  match s.mark.writer with
  | .writing _ _ _ _ _ false => (markAbort .noControl s1, r.2)
  | .erasing _ (some _) => (markAbort .noControl s1, r.2)
  | _ => (s1, r.2)

/-- R81: the automatic INDEX write of an entry to RECORD. -/
def autoIndex (value : Nat) (o : Origin) (s : State) : State :=
  if s.mark.writer = .idle then s.onMark fun m => { m with writer := .writing .index value o 0 none true } else s

/-- R76, R94: the list is emptied and the reader cleared. DESIGN CHOICE (log 44): a search accepted during INSERTING or EJECTING, its
first command stored (R14), is not made NONE here: R15 executes the command, and R93 ends the search where that is refused. -/
def markEmptied (s : State) : State := s.onMark fun m => { m with list := [], reader := Reader.reset }

/-- R90: SERVO's signal condition reaches the blank search: NO_SIGNAL starts the 2 s timer, a return cancels it.
DESIGN CHOICE (log 44): a search begun in NO_SIGNAL, of which no report comes, has no timer until the next change to it. -/
def markSignal (noSignal : Bool) (s : State) : State :=
  match s.mark.search with
  | none => s
  | some q =>
    if q.kind = .blank ∧ q.state = .winding then
      s.onMark fun m => { m with search := some { q with timer := if noSignal then some s.now else none } }
    else s

/-! ## ZERO (R58, R78, R89, R165) -/

/-- A search's positions are shifted by a ZERO (R89). -/
def Search.shift (f : Int → Int) (q : Search) : Search :=
  { q with start := f q.start, target := q.target.map f, lastPulse := f q.lastPulse }

/-- R58: ZERO, with every position that moves by its shift. -/
def zeroCounter (s : State) : State × Answer :=
  if s.mech.state = .empty then refuse s .noCassette
  else
    let shift := - s.pos.counter
    let f := fun v => s.clampCounter (v + shift)
    let s1 := s.onPos fun p => { p with counter := 0, acc := 0, gapSum := 0, approx := false, target := p.target.map f }
    let s2 := s1.onMark fun m =>
      { m with list := shiftList (counterLimit s.std) shift m.list, search := m.search.map (Search.shift f) }
    let s3 := s2.onMech fun m => { m with junctionAt := m.junctionAt + shift }
    let s4 := s3.onSched fun c => { c with holder := c.holder.map fun h => { h with skip := h.skip.map f } }
    done s4 (counterData s4)

end Sys2Proof.Machine
end

