-- ==== Sys2Proof/Machine/Servo.lean ====
section
/-!
DEFINITION. Sys2Proof/Machine/Servo.lean: the Servo Unit (chapter 2): loop demand, the drum and capstan loops, sync and reference,
recording and play speed, the envelope, tracking, and supply loss. MECH's reactions to its reports stand in the Mech file.
-/

namespace Sys2Proof.Machine

/-- Both loops LOCKED (R41). -/
def Servo.bothLocked (v : Servo) : Bool := decide (v.drum.state = .locked) && decide (v.capstan.state = .locked)

/-! ## What follows a change of either loop (R42, R64) -/

/-- R42: in RECORD the guard runs while a loop is out of LOCKED; elsewhere it is cancelled. -/
def guardTimer (now : Nat) (recording locked : Bool) (t : Timer) : Timer :=
  if recording && !locked then (match t with | none => some now | some x => some x) else none

/-- R42, R64: the record guard follows the loops, and an identification run does not outlast the capstan's lock. -/
def loopsFollow (s : State) : State :=
  let s1 := s.onServo fun v => { v with guard := guardTimer s.now (decide (s.mech.state = .record)) v.bothLocked v.guard }
  if attempts s1 then s1 else runClear s1

/-! ## The drum loop (R33 to R35) -/

/-- R33: the states in which the drum runs. -/
def drumRuns (m : MState) : Bool :=
  match m with
  | .threading => true | .halt => true | .still => true | .shifting => true | .fwind => true | .rwind => true
  | .play => true | .cue => true | .review => true | .record => true | .recPause => true | _ => false

/-- The drum loop in a new state, its counts at 0. -/
def Drum.moved (st : DrumState) (d : Drum) : Drum := { d with state := st, fgGood := 0, fgBad := 0, pgGood := 0, pgBad := 0 }

/-- R33: the drum stopped, counts and timer cleared. -/
def Drum.halted (d : Drum) : Drum := { d.moved .stopped with timer := none }

/-- R33: the drum's demand; heldOff keeps a drum stopped after a DRUM fault. -/
def Drum.demand (runs : Bool) (now : Nat) (d : Drum) : Drum :=
  if runs && !d.heldOff then
    match d.state with
    | .stopped => { d.moved .runup with timer := some now }
    | _ => d
  else d.halted

/-- R34: a loss of lock adds one to the slip counter and latches SERVO_SLIP. -/
def slip (s : State) : State :=
  (s.onServo fun v => { v with slip := satInc 255 v.slip }).onLink fun l => { l with servoSlip := true }

/-- R34: the drum after 12 consecutive FG periods beyond ±10 %. -/
def drumFgLost (s : State) : State :=
  let s1 := s.onServo fun v => { v with drum := v.drum.moved .runup }
  match s.servo.drum.state with
  | .locked => slip s1
  | .speed => s1
  | _ => s

/-- R34: one FG period, within ±2 % or beyond ±10 % or neither. -/
def drumFgPeriod (good bad : Bool) (s : State) : State :=
  let d := s.servo.drum
  let d1 := { d with fgGood := if good then satInc 12 d.fgGood else 0, fgBad := if bad then satInc 12 d.fgBad else 0 }
  let s1 := s.onServo fun v => { v with drum := d1 }
  match d.state with
  | .stopped => s
  | .runup => if d1.fgGood = 12 then s1.onServo fun v => { v with drum := d1.moved .speed } else s1
  | _ => if d1.fgBad = 12 then drumFgLost s1 else s1

/-- R34: one revolution, with phase error within ±5 % of a frame or beyond ±10 % or neither. -/
def drumRevolution (good bad : Bool) (s : State) : State :=
  let d := s.servo.drum
  let d1 := { d with pgGood := if good then satInc 8 d.pgGood else 0, pgBad := if bad then satInc 4 d.pgBad else 0 }
  let s1 := s.onServo fun v => { v with drum := d1 }
  match d.state with
  | .speed => if d1.pgGood = 8 then s1.onServo fun v => { v with drum := { d1.moved .locked with timer := none } } else s1
  | .locked => if d1.pgBad = 4 then slip (s1.onServo fun v => { v with drum := d1.moved .speed }) else s1
  | _ => s

/-- R34: a drum FG pulse, its period in nanoseconds; nominal is 6 pulses per revolution at the frame rate. -/
def drumFg (period : Nat) (s : State) : State :=
  let scaled : Int := (period : Int) * (6 * s.std.frames : Nat)
  let err := (scaled - 1000000000).natAbs
  loopsFollow (drumFgPeriod (decide (err * 100 ≤ 2 * 1000000000)) (decide (10 * scaled.natAbs < err * 100)) s)

/-- R34: a drum PG pulse, its phase error in millionths of a frame. -/
def drumPg (phase : Int) (s : State) : State :=
  loopsFollow (drumRevolution (decide (phase.natAbs ≤ 50000)) (decide (100000 < phase.natAbs)) s)

/-- R34: an overdue FG pulse counts as one period beyond ±10 %. -/
def drumFgMissing (s : State) : State := loopsFollow (drumFgPeriod false true s)

/-- R34: an overdue PG pulse counts as one revolution beyond ±10 %. -/
def drumPgMissing (s : State) : State := loopsFollow (drumRevolution false true s)

/-! ## The capstan loop (R33, R36, R37) -/

/-- R33: the capstan target of a mechanism state and junction operation. -/
def capstanDemand (s : State) : Option CapTarget :=
  let fwd (v : Speed) : CapTarget := { speed := v, fast := false, reverse := false }
  match s.mech.state with
  | .play => some (fwd s.servo.playSpeed)
  | .cue => some { speed := s.servo.playSpeed, fast := true, reverse := false }
  | .review => some { speed := s.servo.playSpeed, fast := true, reverse := true }
  | .record => some (fwd s.recordingSpeed)
  | .recPause =>
    match s.mech.junction with
    | none => none
    | some .backspace => some { speed := s.recordingSpeed, fast := false, reverse := true }
    | some _ => some (fwd s.recordingSpeed)
  | _ => none

/-- R36: LOCKED while the speed criterion, and in phase mode the phase criterion, is met. -/
def Capstan.judged (c : Capstan) : Capstan :=
  match c.state with
  | .stopped => c
  | _ => { c with state := if c.speedMet && (!c.phaseMode || c.phaseMet) then .locked else .speed }

/-- R33, R37: a capstan start or restart. -/
def capstanStart (t : CapTarget) (now : Nat) : Capstan :=
  { Capstan.reset with state := .speed, target := some t, timer := some now }

/-- R33: the capstan's demand. -/
def Capstan.demand (t : Option CapTarget) (now : Nat) (c : Capstan) : Capstan :=
  match t with
  | none => Capstan.reset
  | some t =>
    match c.state with
    | .stopped => capstanStart t now
    | _ => if c.target = some t then c else capstanStart t now

/-- R36: whether the capstan is to be in phase mode. -/
def wantsPhase (s : State) : Bool :=
  s.servo.pulseSeen.isSome &&
    (match s.mech.state with
      | .play => decide (s.servo.avgSpeed = some s.servo.playSpeed)
      | .recPause => decide (s.mech.junction = some .preRoll)
      | _ => false)

/-- R36: a change to phase mode clears the phase count. -/
def Capstan.setPhase (on : Bool) (c : Capstan) : Capstan :=
  match c.state with
  | .stopped => c
  | _ =>
    if on && !c.phaseMode then { c with phaseMode := true, phaseGood := 0, phaseBad := 0, phaseMet := false }.judged
    else { c with phaseMode := on }.judged

/-- R36: phase mode follows its conditions. -/
def phaseFollow (s : State) : State := s.onServo fun v => { v with capstan := v.capstan.setPhase (wantsPhase s) }

/-- R36, R37: one capstan FG period. -/
def Capstan.period (good bad : Bool) (c : Capstan) : Capstan :=
  let g := if good then satInc 24 c.good else 0
  let b := if bad then satInc 24 c.bad else 0
  let met := if c.speedMet then decide (b ≠ 24) else decide (g = 24)
  { c with good := g, bad := b, speedMet := met, timer := if met then none else c.timer }.judged

/-- R36: one control pulse against the phase criterion. -/
def Capstan.phase (good bad : Bool) (c : Capstan) : Capstan :=
  if c.phaseMode then
    let g := if good then satInc 4 c.phaseGood else 0
    let b := if bad then satInc 4 c.phaseBad else 0
    { c with phaseGood := g, phaseBad := b, phaseMet := if c.phaseMet then decide (b ≠ 4) else decide (g = 4) }.judged
  else c

/-- R36: a capstan FG pulse, its period in nanoseconds; nominal is 480 / m pulses a second, five times that in picture search. -/
def capstanFg (period : Nat) (s : State) : State :=
  match s.servo.capstan.target with
  | none => s
  | some t =>
    let scaled : Int := (period : Int) * (if t.fast then 2400 else 480 : Nat)
    let nominal : Int := 1000000000 * (t.speed.factor : Nat)
    let err := (scaled - nominal).natAbs
    loopsFollow (s.onServo fun v =>
      { v with capstan := v.capstan.period (decide (err * 100 ≤ 2 * nominal.natAbs)) (decide (10 * nominal.natAbs < err * 100)) })

/-! ## Sync and reference (R38, R39) -/

/-- Sync of a source. -/
def Servo.sync (v : Servo) : Source → Sync
  | .tuner => v.syncTuner
  | .line => v.syncLine

/-- Replace the sync of a source. -/
def Servo.setSync (src : Source) (y : Sync) (v : Servo) : Servo :=
  match src with
  | .tuner => { v with syncTuner := y }
  | .line => { v with syncLine := y }

/-- R38: the reference the state calls for. -/
def wantedReference (s : State) : RefSource :=
  if s.mech.state = .record ∨ s.mech.state = .recPause then
    if (s.servo.sync s.tuner.selected).present then (match s.tuner.selected with | .tuner => .tuner | .line => .line)
    else .internal
  else .internal

/-- R39: the drum after a change of reference. -/
def Drum.rereferenced (d : Drum) : Drum :=
  match d.state with
  | .locked => d.moved .speed
  | _ => { d with pgGood := 0, pgBad := 0 }

/-- R38, R39: the reference is tested, and a change takes effect with its notice. -/
def testReference (s : State) : State :=
  let want := wantedReference s
  if want = s.servo.reference then s
  else loopsFollow (notify (.reference s.servo.reference want)
    (s.onServo fun v => { v with reference := want, refCount := 0, drum := v.drum.rereferenced }))

/-- R38: the interval lies within ±4 % of the field period. -/
def syncGood (std : Standard) (interval : Nat) : Bool :=
  decide ((((interval : Int) * (2 * std.frames : Nat)) - 1000000000).natAbs * 100 ≤ 4 * 1000000000)

/-- R38: one sync pulse; the first one has no interval. -/
def Sync.pulse (std : Standard) (interval now : Nat) (y : Sync) : Sync :=
  match y.timer with
  | none => { y with timer := some now, good := 0, bad := 0 }
  | some _ =>
    let ok := syncGood std interval
    let g := if ok then satInc 8 y.good else 0
    let b := if ok then 0 else satInc 8 y.bad
    { present := if y.present then decide (b ≠ 8) else decide (g = 8), good := g, bad := b, timer := some now }

/-- The source is the reference in use. -/
def refIs (src : Source) (r : RefSource) : Bool :=
  match src, r with
  | .tuner, .tuner => true
  | .line, .line => true
  | _, _ => false

/-- R38: a sync pulse; whether it is a reference frame edge: every second pulse, counted from the one at which the reference was
taken up. -/
def syncPulse (src : Source) (interval : Nat) (s : State) : State × Bool :=
  let counts := refIs src s.servo.reference
  let s1 := testReference (s.onServo fun v => v.setSync src ((v.sync src).pulse s.std interval s.now))
  if counts && refIs src s1.servo.reference then
    let n := (s1.servo.refCount + 1) % 2
    (s1.onServo fun v => { v with refCount := n }, decide (n = 0))
  else (s1, false)

/-- R38: three field periods have passed since the source's last pulse. -/
def syncOverdue (std : Standard) (now : Nat) (y : Sync) : Bool :=
  match y.timer with
  | none => false
  | some t => decide (3 * Config.cyclesPerSecond ≤ (now - t) * (2 * std.frames))

/-- R38: no pulse within three field periods: the sync is absent. -/
def syncAbsent (src : Source) (s : State) : State :=
  if syncOverdue s.std s.now (s.servo.sync src) then testReference (s.onServo fun v => v.setSync src Sync.reset) else s

/-! ## Envelope (R45) -/

/-- R45: the states in which the envelope is sampled. -/
def samples (s : State) : Bool :=
  match s.mech.state with
  | .play => true | .cue => true | .review => true
  | .recPause => decide (s.mech.junction = some .preRoll)
  | _ => false

/-- R45: the average E. -/
def Envelope.average (e : Envelope) : Option Nat := if e.window.length = 8 then some (e.window.sum / 8) else none

/-- R45: one sample. -/
def Envelope.sample (v : Nat) (e : Envelope) : Envelope :=
  let e1 := { e with window := (v :: e.window).take 8 }
  match e1.average with
  | none => e1
  | some a =>
    let low := if a < 16 then satInc 16 e.lowRun else 0
    let high := if 24 ≤ a then satInc 8 e.highRun else 0
    { e1 with lowRun := low, highRun := high, noSignal := if e.noSignal then decide (high ≠ 8) else decide (low = 16) }

/-! ## Tracking (R46 to R50) -/

/-- R48: a search starts from the held offset with a step. -/
def Tracking.start (step : Nat) (t : Tracking) : Tracking :=
  { t with state := .searching, left := .searching, bySignal := false, step := step, up := true, reversal := 0, flat := 0,
           eOld := none, samples := [], low := 0 }

/-- R48: the search is IDLE. DESIGN CHOICE (log 42): a move of the held offset already decided stays pending and takes effect at the
next boundary, as in a suspended search. -/
def Tracking.idle (t : Tracking) : Tracking := { t with state := .idle, samples := [] }

/-- R48: a SEARCHING or CONVERGED search is SUSPENDED. DESIGN CHOICE (log 42): a move of the held offset already decided is kept and
takes effect at the next boundary, as R46 says of any change. -/
def Tracking.suspend (bySignal : Bool) (t : Tracking) : Tracking :=
  match t.state with
  | .searching => { t with state := .suspended, left := .searching, bySignal := bySignal, samples := [] }
  | .converged => { t with state := .suspended, left := .converged, bySignal := bySignal, samples := [] }
  | .suspended => { t with bySignal := t.bySignal || bySignal }
  | .idle => t

/-- R49: the held offset moves by the step at the next frame boundary. -/
def Tracking.move (t : Tracking) : Tracking :=
  { t with pending := some (clampInt (-63) 63 (if t.up then t.held + (t.step : Int) else t.held - (t.step : Int))) }

/-- R50: after each result of R49. -/
def Tracking.converge (e : Nat) (t : Tracking) : Tracking :=
  if t.step = 1 ∧ (2 ≤ t.reversal ∨ 3 ≤ t.flat) then { t with state := .converged, eConv := e, low := 0 } else t.move

/-- R49: the result of one measurement of the search. -/
def Tracking.judge (e : Nat) (t : Tracking) : Tracking :=
  match t.eOld with
  | none => { t with eOld := some e }.move
  | some old =>
    let t1 := { t with eOld := some e }
    if (t.held = 63 ∧ t.up = true) ∨ (t.held = -63 ∧ t.up = false) ∨ e + 2 < old then
      { t1 with up := !t.up, step := max 1 (t.step / 2), reversal := t.reversal + 1 }.converge e
    else if old + 2 < e then { t1 with reversal := 0 }.converge e
    else { t1 with reversal := 0, flat := if t.step = 1 then t.flat + 1 else t.flat }.converge e

/-- R50: one block of the watch. -/
def Tracking.watch (e : Nat) (t : Tracking) : Tracking :=
  if 4 * e < 3 * t.eConv then
    if t.low + 1 = 4 then t.start 4 else { t with low := t.low + 1 }
  else { t with low := 0 }

/-- R48: one envelope sample of the measurement in progress; settled says that a move has just taken effect at this boundary. -/
def Tracking.sample (settled : Bool) (v : Nat) (t : Tracking) : Tracking :=
  if settled then t
  else
    let ss := v :: t.samples
    match t.state with
    | .searching => if ss.length = 8 then { t with samples := [] }.judge (ss.sum / 8) else { t with samples := ss }
    | .converged => if ss.length = 8 then { t with samples := [] }.watch (ss.sum / 8) else { t with samples := ss }
    | _ => t

/-- R46: the applied offset of a state, at a frame boundary. -/
def appliedOffset (m : MState) (t : Tracking) : Int :=
  match m with
  | .play => t.held | .still => t.held | .cue => t.held | .review => t.held
  | .record => 0 | .recPause => 0 | _ => t.applied

/-- R46: a change of the held offset takes effect, and the applied offset follows. -/
def Tracking.boundary (m : MState) (t : Tracking) : Tracking :=
  let t1 := { t with held := t.pending.getD t.held, pending := none }
  { t1 with applied := appliedOffset m t1 }

/-- R46: the held offset and the stored manual value are set to 0, from the next boundary. -/
def Tracking.zero (t : Tracking) : Tracking := { t with pending := some 0, manual := 0 }

/-- R45, R48: one sample of the envelope at a frame boundary, with what a change of the signal condition brings about. DESIGN CHOICE
(log 25): a sample that both completes a measurement and brings NO_SIGNAL has the measurement judged first, with the move or the
convergence that follows; the search is then suspended in the state it came to. -/
def envelopeSample (settled : Bool) (v : Nat) (s : State) : State :=
  let before := s.servo.envelope.noSignal
  let s1 := s.onServo fun x => { x with envelope := x.envelope.sample v, tracking := x.tracking.sample settled v }
  let after := s1.servo.envelope.noSignal
  if before = after then s1
  else if after then
    markSignal true
      ((s1.onServo fun x => { x with tracking := x.tracking.suspend true }).onLink fun l => { l with signalOk := false })
  else
    markSignal false
      (if s.mech.state = .play ∧ s.servo.tracking.mode = .auto then
        s1.onServo fun x => { x with tracking := x.tracking.start 8 } else s1)

/-! ## Frame boundaries (R40, R43) -/

/-- R36, R43: an accepted automatic-speed request takes effect, with a capstan restart if the capstan runs; phase mode follows its
conditions in the restarted loop. -/
def speedBoundary (s : State) : State :=
  match s.servo.pendingSpeed with
  | none => s
  | some v =>
    let s1 := s.onServo fun x => { x with recSpeed := some v, pendingSpeed := none }
    let s2 := match s1.servo.capstan.state with
      | .stopped => s1
      | _ => capstanRestarted (s1.onServo fun x => { x with capstan := x.capstan.demand (capstanDemand s1) s1.now })
    report (.speedInForce v) (loopsFollow (phaseFollow s2))

/-- R40, R45, R46: the frame boundary, with the envelope level then present. -/
def frameBoundary (envelope : Nat) (s : State) : State :=
  let s1 := speedBoundary s
  let t := s1.servo.tracking
  let settled := t.pending.isSome && decide (t.state = .searching) && t.eOld.isSome
  let s2 := s1.onServo fun x => { x with tracking := x.tracking.boundary s1.mech.state }
  if samples s2 then envelopeSample settled envelope s2 else s2

/-! ## Play speed (R44) -/

/-- R44: the sum of 8 intervals, in nanoseconds, fits a speed while the tape is drawn at the present one: within ±12 %. -/
def speedFits (std : Standard) (present v : Speed) (sum : Nat) : Bool :=
  let nominal : Int := 8 * 1000000000 * (present.factor : Nat)
  decide (((sum : Int) * (std.frames * v.factor : Nat) - nominal).natAbs * 100 ≤ 12 * nominal.natAbs)

/-- R44: the candidate of an average. -/
def speedCandidate (std : Standard) (present : Speed) (sum : Nat) : Option Speed :=
  [Speed.s, .h, .t].find? fun v => v.isLegal std && speedFits std present v sum

/-- R44: a detected speed becomes the play speed at a control pulse. -/
def takePlaySpeed (s : State) : State :=
  match s.servo.pendingPlay with
  | none => s
  | some v =>
    let s1 := s.onServo fun x =>
      { x with playSpeed := v, pendingPlay := none, intervals := [], speedGap := none,
               tracking := let t := x.tracking.zero; match t.mode with | .auto => t.start 8 | .manual => t }
    let s2 := s1.onServo fun x => { x with capstan := x.capstan.demand (capstanDemand s1) s1.now }
    notify (.playSpeed v) (loopsFollow (capstanRestarted s2))

/-- R44: an interval between consecutive control pulses in PLAY. -/
def collectInterval (interval : Nat) (s : State) : State :=
  s.onServo fun x =>
    let x1 := { x with speedGap := some s.now }
    match x.speedGap with
    | none => x1
    | some _ =>
      let is := interval :: x.intervals
      if is.length = 8 then
        let c := speedCandidate s.std x.playSpeed is.sum
        { x1 with intervals := [], avgSpeed := c,
                  pendingPlay := match c with | some v => if v = x.playSpeed then none else some v | none => none }
      else { x1 with intervals := is }

/-- R36: the phase error of a control pulse whose measured phase is given in millionths of a frame, against the applied offset
of 1/256 of a frame a unit. -/
def capstanPhase (phase : Int) (s : State) : State :=
  let err := (256 * phase - 1000000 * s.servo.tracking.applied).natAbs
  s.onServo fun v =>
    { v with capstan := v.capstan.phase (decide (err ≤ 256 * 50000)) (decide (256 * 100000 < err)) }

/-- R36, R40, R44: SERVO's own use of a replayed control pulse. DESIGN CHOICE (log 15): the pulse that itself brings phase mode counts
as the first of the 4 pulses of the phase criterion, its phase being judged after the mode has changed. -/
def servoPulse (phase : Int) (interval : Nat) (s : State) : State :=
  let s1 := s.onServo fun v => { v with pulseSeen := some s.now }
  let s2 := if s1.mech.state = .play then collectInterval interval (takePlaySpeed s1) else s1
  loopsFollow (capstanPhase phase (phaseFollow s2))

/-- R36: 0.6 s without a control pulse: speed mode. -/
def phaseGap (s : State) : State :=
  if s.servo.pulseSeen.due Config.pulseGap s.now then
    loopsFollow (phaseFollow (s.onServo fun v => { v with pulseSeen := none }))
  else s

/-- R44: 1 s without a control pulse discards the intervals. DESIGN CHOICE (log 42): the interval that spans the gap is not collected
either; the next set begins with the pulse after the gap. -/
def speedGap (s : State) : State :=
  if s.servo.speedGap.due Config.playSpeedGap s.now then s.onServo fun v => { v with intervals := [], speedGap := none } else s

/-! ## Following MECH (R33, R43, R46, R48) -/

/-- The states of a recording session (R43). -/
def inSession (m : MState) : Bool := decide (m = .record) || decide (m = .recPause)

/-- R44: the states that keep the play speed. -/
def playing (m : MState) : Bool :=
  decide (m = .play) || decide (m = .still) || decide (m = .cue) || decide (m = .review)

/-- R43: the speed a session starts at: SCHED's for the owning entry, else the record-speed setting. -/
def sessionSpeed (s : State) : Speed :=
  let asked := match s.mech.owner with
    | .timer k =>
      match (s.sched.slots.getD (k - 1) Slot.reset).occ with
      | some o => o.speed
      | none => s.link.settings.recordSpeed
    | _ => s.link.settings.recordSpeed
  asked.legal s.std

/-- R43: the session begins, goes on or ends with the state entered. DESIGN CHOICE (log 42): an accepted automatic-speed request that
has met no frame boundary by the session's end is dropped, and no speed is reported for it. -/
def sessionFollow (new : MState) (s : State) : State :=
  let fresh := sessionSpeed s
  s.onServo fun v =>
    if inSession new then { v with recSpeed := match v.recSpeed with | none => some fresh | some x => some x }
    else { v with recSpeed := none, pendingSpeed := none }

/-- R44: entering PLAY, CUE or REVIEW afresh sets the play speed; leaving PLAY discards the intervals. DESIGN CHOICE (log 30): a play
speed so set, though another than before, zeroes neither the held offset nor the manual value (R46). -/
def playFollow (old new : MState) (s : State) : State :=
  s.onServo fun v =>
    let v1 := if playing new && !playing old then { v with playSpeed := s.link.settings.recordSpeed } else v
    if old = .play ∧ new ≠ .play then { v1 with intervals := [], speedGap := none, pendingPlay := none } else v1

/-- R48: the tracking search on entering a state. DESIGN CHOICE (log 42): STILL left for a state other than PLAY makes the search IDLE,
as leaving PLAY does. -/
def Tracking.enter (old new : MState) (t : Tracking) : Tracking :=
  match t.mode with
  | .manual => t
  | .auto =>
    match new with
    | .play =>
      if old = .still then
        match t.state with
        | .suspended => if t.bySignal then t.start 8 else { t with state := t.left, samples := [] }
        | .idle => t.start 8
        | _ => t
      else if old = .play then t
      else t.start 8
    | .still => t.suspend false
    | _ => t.idle

/-- R41: the gate runs while a lock wait or a pre-roll runs. -/
def gateTimer (now : Nat) (j : Option Junction) (t : Timer) : Timer :=
  match j with
  | some .lockWait => (match t with | none => some now | some x => some x)
  | some .preRoll => (match t with | none => some now | some x => some x)
  | _ => none

/-- R33: the drum hold of a fault ends when MECH begins THREADING, or a SHIFTING that is not the fault's own move. -/
def unholds (m : MState) (faultMove : Bool) : Bool := decide (m = .threading) || (decide (m = .shifting) && !faultMove)

/-- R33, R38, R41, R43 to R46, R48: SERVO follows a state MECH has published. -/
def servoEnter (old : MState) (faultMove : Bool) (s : State) : State :=
  let new := s.mech.state
  let s1 := playFollow old new (sessionFollow new s)
  let s2 := s1.onServo fun v =>
    { v with drum := ({ v.drum with heldOff := v.drum.heldOff && !unholds new faultMove }).demand (drumRuns new) s1.now,
             capstan := v.capstan.demand (capstanDemand s1) s1.now,
             gate := gateTimer s1.now s1.mech.junction v.gate,
             tracking := v.tracking.enter old new,
             envelope := if samples s1 then v.envelope else Envelope.reset }
  loopsFollow (testReference (phaseFollow s2))

/-! ## Requests -/

/-- R47: the mode that a request leaves in force. -/
def trackingMode (a : TrackingArg) (m : TrackMode) : TrackMode :=
  match a with
  | .auto => .auto | .manual => .manual | .unchanged => m

/-- R47: TRACKING. -/
def trackingRequest (a : TrackingArg) (value : Option Int) (s : State) : State × Answer :=
  let v := value.map (clampInt (-63) 63)
  let s1 := s.onServo fun x =>
    let t := match v with | none => x.tracking | some n => { x.tracking with manual := n }
    let mode := trackingMode a t.mode
    let t1 := { t with mode := mode }
    { x with tracking :=
        match mode with
        | .manual => if t.mode = .auto then { t1.idle with pending := some t.manual }
                     else match v with | none => t1 | some n => { t1 with pending := some n }
        | .auto => if t.mode = .manual ∧ s.mech.state = .play then t1.start 8 else t1 }
  done s1 ([byte s1.servo.tracking.mode.code] ++ optional 1 (v.map fun n => [sbyte n]))

/-! ## Supply loss and reset (R51) -/

/-- R51: supply loss. The interval set is discarded; the candidate of the latest completed average stands (log 30). -/
def servoSupplyLost (s : State) : State :=
  s.onServo fun v =>
    { v with drum := v.drum.halted, capstan := Capstan.reset, gate := none, guard := none, reference := .internal, refCount := 0,
             envelope := Envelope.reset, intervals := [], speedGap := none, pendingPlay := none,
             pulseSeen := none, recSpeed := none, pendingSpeed := none, tracking := v.tracking.idle }

/-- R27, R46: the tracking offset at a cassette's seating. -/
def trackingInserted (s : State) : State := s.onServo fun v => { v with tracking := v.tracking.zero }

/-- R43: SCHED's automatic-speed request; one that is not slower is ignored and the speed in force reported. -/
def autoSpeed (v : Speed) (s : State) : State :=
  match s.servo.recSpeed with
  | none => s
  | some present =>
    if present.factor < v.factor then s.onServo fun x => { x with pendingSpeed := some v }
    else report (.speedInForce present) s

end Sys2Proof.Machine
end

