-- ==== Sys2Proof/Machine/Mech.lean ====
section
/-!
DEFINITION. Sys2Proof/Machine/Mech.lean: the Mechanism Controller (chapter 1): states and cam movements, the execution of commands and
the pending slot, the owner, the junction operations, stops, faults, insertion, supply and standby.
-/

namespace Sys2Proof.Machine

/-! ## States, cam and drives (R1, R3) -/

/-- R1: the cam code a state's position has. -/
def camOf (m : MState) : CamCode :=
  match m with
  | .empty => 0 | .inserting => 1 | .idle => 1 | .threading => 3 | .halt => 3 | .play => 4 | .still => 4 | .record => 4
  | .recPause => 4 | .cue => 4 | .review => 5 | .fwind => 6 | .rwind => 6 | .shifting => 3 | .unthreading => 1
  | .ejecting => 0 | .jammed => 7

/-- R3: the reel drive of a state and junction operation. -/
def reelOf (m : MState) (j : Option Junction) : ReelDrive :=
  match m with
  | .play => .takeUp | .record => .takeUp | .cue => .takeUp | .fwind => .takeUp
  | .review => .supply | .rwind => .supply
  | .recPause => (match j with | none => .off | some .backspace => .supply | some _ => .takeUp)
  | _ => .off

/-- R3: the direction of the motion of a state and junction operation, if the tape moves. -/
def motionOf (m : MState) (j : Option Junction) : Option Bool :=
  match m with
  | .play => some true | .record => some true | .cue => some true | .fwind => some true
  | .review => some false | .rwind => some false
  | .recPause => (match j with | none => none | some .backspace => some false | some _ => some true)
  | _ => none

/-- R3: the transitions. -/
def MState.transition (m : MState) : Bool :=
  match m with
  | .inserting => true | .threading => true | .shifting => true | .unthreading => true | .ejecting => true | _ => false

/-- The settled threaded states. -/
def MState.threaded (m : MState) : Bool :=
  match m with
  | .halt => true | .play => true | .still => true | .record => true | .recPause => true | .cue => true | .review => true
  | .fwind => true | .rwind => true | _ => false

/-- R3: the states in which the tape lies on the drum: the settled threaded states, and SHIFTING between threaded positions. -/
def MState.onDrum (m : MState) : Bool := m.threaded || decide (m = .shifting)

/-- R169: recorded time is counted up to the moment RECORD is left. -/
def recordStopped (s : State) : State :=
  match s.sched.holder with
  | none => s
  | some h =>
    match h.recSince with
    | none => s
    | some t =>
      s.onSched fun c =>
        { c with holder := some { h with recSince := none },
                 slots := c.slots.modify (h.slot - 1) fun k =>
                   { k with occ := k.occ.map fun o => { o with recorded := o.recorded + (s.clock.ticks - t) } } }

/-- R3, R33, R40, R83: MECH enters a state, with a junction operation or none, and the other blocks follow. faultMove marks the move
to HALT_POS of a servo fault (R33). -/
def setState (new : MState) (j : Option Junction) (faultMove : Bool) (s : State) : State :=
  let old := s.mech.state
  let s1 := coastFollow new.onDrum (motionEnd s)
  let s2 := if old = .record ∧ new ≠ .record then recordStopped s1 else s1
  let s3 := s2.onMech fun m =>
    { m with state := new, target := new, junction := j, junctionAt := s.pos.counter, reel := reelOf new j,
             recAmp := decide (new = .record), windSlow := false }
  let s4 := readerClear (markLeave old new s3)
  let s5 := servoEnter old faultMove s4
  match motionOf new j with
  | none => s5
  | some forward => motionBegin forward s5

/-- R1, R4: the cam is driven toward a code, the timeout counted from here. -/
def driveCam (target : CamCode) (s : State) : State :=
  s.onMech fun m =>
    { m with camTarget := some target, camTimer := some s.now,
             motor := match m.lastCode with
               | none => .rev
               | some c => if c < target then .fwd else if target < c then .rev
                           else if Config.forwardAtEqualCode target then .fwd else .rev }

/-- R1, R5, R29: MECH reads the cam where it stands; a code from 0 to 6 is then the code last reported. DEDUCED (log 6). -/
def readCam (s : State) : State :=
  s.onMech fun m => { m with lastCode := if s.pins.cam = 7 then m.lastCode else some s.pins.cam }

/-- R1: the mode motor is stopped. -/
def motorOff (s : State) : State := s.onMech fun m => { m with motor := .off, camTarget := none }

/-- The state a movement under way is to end in. -/
def aimAt (target : MState) (s : State) : State := s.onMech fun m => { m with target := target }

/-- R3, R7: a shift to a threaded position. -/
def startShift (target : MState) (faultMove : Bool) (s : State) : State :=
  driveCam (camOf target) (aimAt target (setState .shifting none faultMove s))

/-- R7: THREADING, toward a target. -/
def startThread (target : MState) (s : State) : State := driveCam 3 (aimAt target (setState .threading none false s))

/-- R7, R28: UNTHREADING, to IDLE, or to EMPTY through EJECTING. -/
def startUnthread (target : MState) (s : State) : State := driveCam 1 (aimAt target (setState .unthreading none false s))

/-- R28: EJECTING. -/
def startEject (s : State) : State :=
  (driveCam 0 (aimAt .empty (setState .ejecting none false s))).onMech fun m => { m with ejectRead := false }

/-- R27: INSERTING. -/
def startInsert (s : State) : State := driveCam 1 (aimAt .idle (setState .inserting none false s))

/-- The cause an event-driven transition will announce. -/
def because (c : StateCause) (s : State) : State := s.onMech fun m => { m with cause := some c }

/-! ## Owner (R11) -/

/-- R11: the owner changes, and SCHED is told. -/
def setOwner (o : Owner) (s : State) : State :=
  if s.mech.owner = o then s else report .evaluate (s.onMech fun m => { m with owner := o })

/-- R11: a PANEL or SEARCH command whose target is a motion or pause takes a free recorder. -/
def claimPanel (o : Origin) (s : State) : State :=
  match o with
  | .timer _ => s
  | _ => if s.mech.owner = .none then setOwner .panel s else s

/-- R11: the mechanism settles in HALT, IDLE or EMPTY with no command in flight. DESIGN CHOICE (log 25): judged after the stored
command has been executed, so a PANEL owner is kept where that takes time (a stored STOP at HALT_POS). -/
def settle (s : State) : State :=
  if s.mech.inFlight.isNone ∧ (s.mech.state = .halt ∨ s.mech.state = .idle ∨ s.mech.state = .empty) ∧ s.mech.owner = .panel then
    setOwner .none s
  else s

/-! ## Closing commands (R10) -/

/-- The notice that closes a PANEL command. -/
def closingNotice (c : Cmd) (r : CloseResult) : Notice :=
  match r with
  | .done st => .mechDone c.what c.origin st
  | .refused why => .mechRefused c.what c.origin why
  | .superseded => .mechSuperseded c.what c.origin
  | .discarded why => .mechDiscarded c.what c.origin why

/-- R10: a command is closed: by a notice, or to MARK or SCHED. -/
def closeCmd (c : Cmd) (r : CloseResult) (s : State) : State :=
  match c.origin with
  | .panel => if c.silent then s else notify (closingNotice c r) s
  | .search => report (.closedSearch c.tag c.what r) s
  | .timer _ => report (.closedTimer c.tag c.what r) s

/-- R10: the command in flight is closed. -/
def closeInFlight (r : CloseResult) (s : State) : State :=
  match s.mech.inFlight with
  | none => s
  | some c => closeCmd c r (s.onMech fun m => { m with inFlight := none })

/-- R10: the stored command is closed. -/
def closeSlot (r : CloseResult) (s : State) : State :=
  match s.mech.slot with
  | none => s
  | some c => closeCmd c r (s.onMech fun m => { m with slot := none })

/-- R4, R23, R24, R30, R31: both are discarded. -/
def discardBoth (cause : DiscardCause) (s : State) : State := closeSlot (.discarded cause) (closeInFlight (.discarded cause) s)

/-! ## Stops (R21, R22, R25) -/

/-- R21: the end leader ends a forward motion. -/
def endLeaderStop (s : State) : State :=
  let st := s.mech.state
  let s1 := s.onMech fun m => { m with reel := .off, recAmp := false }
  let s2 := closeInFlight (.discarded .endLeader) s1
  let s3 := notify (.tapeEnd st) (s2.onLink fun l => { l with tapeEnd := true })
  because .endLeader (startShift .halt false (report .leaderSearch (report .leaderSched s3)))

/-- R21: a forward motion. -/
def inForward (s : State) : Bool := decide (motionOf s.mech.state s.mech.junction = some true)

/-- R21: a forward motion entered with the end leader covered is ended from the moment of entry. -/
def endLeaderTest (s : State) : State := if inForward s && s.pins.leaderEnd then endLeaderStop s else s

/-- R22: the start leader stops REVIEW or RWIND. -/
def startLeaderStop (s : State) : State :=
  because .startLeader (startShift .halt false (report .leaderSearch (s.onMech fun m => { m with reel := .off })))

/-- R25: a memory stop; ignored under TIMER or with a command in flight. -/
def memoryStop (s : State) : State :=
  if s.mech.owner.isTimer ∨ s.mech.inFlight.isSome = true then s
  else report (.interrupted .memoryStop) (because .memoryStop (startShift .halt false s))

/-- R25: a protect stop; a command in flight is closed MECH_SUPERSEDED. -/
def protectStop (s : State) : State := because .protectStop (startShift .halt false (closeInFlight .superseded s))

/-- R86: the record guard at an entry to RECORD or a written pulse, once in an entry. -/
def recordGuard (s : State) : State :=
  if s.mech.state = .record ∧ s.mark.guardDone = false then
    match s.guardSpan with
    | none => s
    | some p =>
      let s1 := s.onMark fun m => { m with guardDone := true }
      match s.mech.owner with
      | .timer _ => report (.spanReached p.ending) s1
      | _ => protectStop (notify (.protectStop s.pos.counter p.first p.ending) s1)
  else s

/-! ## Execution (R6 to R9) -/

/-- R6, check 5, with R7, R8, R9: the states a command is not taken from. -/
def badFrom (c : MechCmd) (m : MState) : Bool :=
  match c with
  | .play => decide (m = .record) || decide (m = .recPause)
  | .cue => decide (m = .record) || decide (m = .recPause)
  | .review => decide (m = .record) || decide (m = .recPause)
  | .fwind => decide (m = .record)
  | .rwind => decide (m = .record)
  | .record => decide (m = .play) || decide (m = .still) || decide (m = .cue) || decide (m = .review)
  | .pause => !(decide (m = .play) || decide (m = .still) || decide (m = .record) || decide (m = .recPause))
  | .stop => false
  | .eject => false

/-- R6, check 6 applies: RECORD, and PAUSE carried out as RECORD (R8). -/
def recordForm (c : MechCmd) (m : MState) : Bool :=
  decide (c = .record) || (decide (c = .pause) && decide (m = .recPause))

/-- R6: the forward targets. -/
def forwardTarget (c : MechCmd) (m : MState) : Bool :=
  match c with
  | .play => true | .cue => true | .fwind => true | .record => true
  | .pause => decide (m = .still) || decide (m = .recPause)
  | _ => false

/-- R6: the reverse targets. -/
def reverseTarget (c : MechCmd) : Bool := decide (c = .review) || decide (c = .rwind)

/-- R12, R13: the owner check. -/
def ownerRefuses (c : Cmd) (o : Owner) : Bool :=
  o.isTimer &&
    (match c.origin with
      | .timer _ => false
      | .panel => !(decide (c.what = .stop) && c.cancel)
      | .search => true)

/-- R6: the checks of a command at its execution, in their order. -/
def mechChecks (c : Cmd) (s : State) : Option Reason :=
  let m := s.mech.state
  if m = .jammed ∧ c.what ≠ .eject then some .mechFault
  else if s.mech.recoveryPending = true ∧ s.supplyGood = false then some .badState
  else if ownerRefuses c s.mech.owner then some .timerActive
  else if m = .empty ∧ c.what ≠ .stop then some .noCassette
  else if badFrom c.what m then some .badState
  else if recordForm c.what m = true ∧ s.mech.tab = false then some .noTab
  else if recordForm c.what m = true ∧ c.origin = .panel ∧ s.insideSpan = true then some .spanProtected
  else if forwardTarget c.what m = true ∧ s.pins.leaderEnd = true then some .atEnd
  else if reverseTarget c.what = true ∧ s.pins.leaderStart = true then some .atStart
  else none

/-- What MECH answers a command with. -/
inductive ExecResult | done | accepted | refused (r : Reason)
  deriving DecidableEq, Repr

/-- A command whose target is reached at once: the state is entered if it is another. -/
def atOnce (m : MState) (s : State) : State × ExecResult := (if s.mech.state = m then s else setState m none false s, .done)

/-- A command whose work takes time is in flight. -/
def takesTime (c : Cmd) (s : State) : State × ExecResult := (s.onMech fun m => { m with inFlight := some c }, .accepted)

/-- R7, R9: thread from IDLE, else shift, toward a target. -/
def goTo (c : Cmd) (target : MState) (s : State) : State × ExecResult :=
  takesTime c (if s.mech.state = .idle then startThread target s else startShift target false s)

/-- R28: a pending line standard becomes current, with the record speed corrected. -/
def standardCurrent (s : State) : State :=
  s.onLink fun l =>
    { l with settings := { l.settings with currentStd := l.settings.pendingStd,
                                           recordSpeed := l.settings.recordSpeed.legal l.settings.pendingStd } }

/-- R28, R71, R94: what every entry to EMPTY does. -/
def emptyEffects (s : State) : State :=
  standardCurrent (markEmptied (posEmptied (s.onMech fun m => { m with tab := false })))

/-- R1, R5, R11, R28: EJECT in JAMMED with the cam at EJECT and the switch already open: EMPTY at once, EJECT the code last
reported. -/
def freedAtOnce (s : State) : State :=
  settle ((emptyEffects (setState .empty none false (readCam s))).onMech fun m => { m with fault := .none })

/-- R7: EJECT, with the attempt of R5 from JAMMED. -/
def ejectWork (s : State) : State :=
  match s.mech.state with
  | .idle => startEject s
  | .jammed =>
    let s1 := readCam s
    if s.pins.cam = 0 then
      (motorOff (startEject s1)).onMech fun m => { m with ejectRead := true }
    else if s.pins.cam = 1 then startEject s1
    else startUnthread .empty s1
  | _ => startUnthread .empty s

/-- R17: a junction operation begins in REC_PAUSE. -/
def junctionWork (c : Cmd) (j : Junction) (s : State) : State × ExecResult := takesTime c (setState .recPause (some j) false s)

/-- R7, R8, R9: the work of a command that has passed the checks. -/
def mechWork (c : Cmd) (s : State) : State × ExecResult :=
  let m := s.mech.state
  match c.what with
  | .play => if m = .play ∨ m = .still ∨ m = .cue then atOnce .play s else goTo c .play s
  | .cue => if m = .cue ∨ m = .play ∨ m = .still then atOnce .cue s else goTo c .cue s
  | .review => if m = .review then atOnce .review s else goTo c .review s
  | .fwind => if m = .fwind ∨ m = .rwind then atOnce .fwind s else goTo c .fwind s
  | .rwind => if m = .rwind ∨ m = .fwind then atOnce .rwind s else goTo c .rwind s
  | .stop =>
    if m = .idle ∨ m = .empty then atOnce m s
    else if m = .halt then takesTime c (startUnthread .idle s)
    else takesTime c (startShift .halt false s)
  | .eject =>
    if m = .jammed ∧ s.pins.cam = 0 ∧ s.pins.cassetteIn = false then (freedAtOnce s, .done) else takesTime c (ejectWork s)
  | .pause =>
    match m with
    | .play => atOnce .still s
    | .still => atOnce .play s
    | .record => junctionWork c .backspace s
    | _ => junctionWork c .preRoll s
  | .record =>
    match m with
    | .record => atOnce .record s
    | .recPause => if c.paused then atOnce .recPause s else junctionWork c .preRoll s
    | _ => goTo c .recPause s

/-- R5: the fault code returns to NONE when a command is executed in a state other than JAMMED. -/
def clearFault (s : State) : State :=
  if s.mech.state = .jammed then s else s.onMech fun m => { m with fault := .none }

/-- R6, R11: a command is executed. -/
def execute (c : Cmd) (s : State) : State × ExecResult :=
  match mechChecks c s with
  | some r => (s, .refused r)
  | none =>
    let s1 := clearFault s
    let s2 := match c.what with
      | .stop => s1
      | .eject => s1
      | _ => claimPanel c.origin s1
    mechWork c s2

/-! ## The pending slot (R14, R15) -/

/-- R14: a command is stored; one it replaces is closed MECH_SUPERSEDED. -/
def storeCmd (c : Cmd) (s : State) : State := (closeSlot .superseded s).onMech fun m => { m with slot := some c }

/-- R15: the stored command is executed; a cancel-timer STOP whose owner is TIMER goes by SCHED (R13). -/
def runSlot (s : State) : State :=
  match s.mech.slot with
  | none => s
  | some c =>
    let s1 := s.onMech fun m => { m with slot := none }
    if c.what = .stop ∧ c.cancel = true ∧ s.mech.owner.isTimer = true ∧ s.mech.state ≠ .jammed then report (.cancelStop c) s1
    else
      let r := execute c s1
      match r.2 with
      | .refused why => closeCmd c (.refused why) r.1
      | .done => closeCmd c (.done r.1.mech.state) r.1
      | .accepted => r.1

/-- R15: the work in flight is complete: it is closed, the stored command executed, and the mechanism settles. -/
def complete (s : State) : State := settle (runSlot (closeInFlight (.done s.mech.state) s))

/-- R31: MECH has finished a standby stop. -/
def standbyEnds (ok : Bool) (s : State) : State :=
  if s.mech.standbyStop then report (.stopEnded ok) (s.onMech fun m => { m with standbyStop := false }) else s

/-- R29: a recovery run has ended. -/
def recoveryEnds (s : State) : State :=
  if s.mech.recoveryRun then report .recoveryEnded (s.onMech fun m => { m with recoveryRun := false }) else s

/-- R18: during a junction operation PAUSE acts at once in a pre-roll and in the lock wait of an unpaused RECORD. -/
def pauseCuts (s : State) : Bool :=
  match s.mech.junction with
  | some .preRoll => true
  | some .lockWait => (match s.mech.inFlight with | some c => !c.paused | none => false)
  | _ => false

/-- R18: the operation ends, the command in flight and the stored one are closed MECH_SUPERSEDED. -/
def cutShort (s : State) : State := clearFault (closeSlot .superseded (closeInFlight .superseded s))

/-- R14, R18, R31: a command arrives at MECH from any origin. -/
def submit (c : Cmd) (s : State) : State × ExecResult :=
  if s.mech.standbyStop then (s, .refused .badState)
  else if s.mech.recoveryPending = true ∧ s.supplyGood = false then execute c s
  else if s.mech.inFlight.isSome = true ∨ s.mech.state.transition = true then
    if ownerRefuses c s.mech.owner then (s, .refused .timerActive)
    else if s.mech.junction.isSome = true ∧ c.what = .stop then
      takesTime c (startShift .halt false (cutShort s))
    else if c.what = .pause ∧ pauseCuts s = true then (setState .recPause none false (cutShort s), .done)
    else (storeCmd c s, .accepted)
  else execute c s

/-! ## Cassette and class effects (R27, R28) -/

/-- R27, R70, R78, R46: what a seating by INSERTING clears. -/
def seatEffects (s : State) : State := trackingInserted (markEmptied (posInserted s))

/-- R2: the tab switch is read. -/
def readTab (s : State) : State := s.onMech fun m => { m with tab := s.pins.tabSwitch }

/-- The timers and target of a movement that has ended. -/
def moveEnded (s : State) : State := (motorOff s).onMech fun m => { m with camTimer := none }

/-- R28: the mechanism becomes EMPTY. -/
def becomeEmpty (s : State) : State :=
  let recovered := s.mech.recoveryRun
  let s1 := emptyEffects (setState .empty none false (moveEnded s))
  let s2 := s1.onMech fun m => { m with fault := .none, cause := none, ejectRead := false }
  let s3 := closeInFlight (.done .empty) s2
  let s4 := if recovered then notify (.mechState .empty .recovery) s3 else s3
  standbyEnds true (recoveryEnds (settle (runSlot s4)))

/-- R27: the autoplay of an untabbed cassette. -/
def autoplay (s : State) : State :=
  if s.mech.slot.isNone ∧ s.link.settings.autoplay = true ∧ s.mech.tab = false ∧ s.mech.owner = .none ∧ s.mech.inFlight.isNone then
    (execute { what := .play, origin := .panel } s).1
  else s

/-- R27, R29: INSERTING ends in IDLE. DESIGN CHOICE (log 41): a recovery run that ends so sends one MECH_STATE, with cause RECOVERY and
not INSERTED. DESIGN CHOICE (log 44): R94 calls the search NONE at every insertion, where R14, R15 and R27 execute a stored command; a
search accepted during INSERTING is kept, with the record it was given, and its stored command is executed in IDLE and runs on. -/
def seated (s : State) : State :=
  let plain := !s.mech.recoveryRun && !s.mech.standbyStop && s.mech.slot.isNone
  let s1 := seatEffects (readTab (setState .idle none false (moveEnded s)))
  let s2 := notify (.mechState .idle (if s.mech.recoveryRun then .recovery else .inserted)) (s1.onMech fun m => { m with cause := none })
  let s3 := runSlot s2
  standbyEnds true (recoveryEnds (settle (if plain then autoplay s3 else s3)))

/-- R15, R19, R20, R29: UNTHREADING ends in IDLE. -/
def reachIdle (s : State) : State :=
  let cause := if s.mech.recoveryRun then some StateCause.recovery else s.mech.cause
  let s1 := setState .idle none false (moveEnded s)
  let s2 := (if s.mech.recoveryRun then readTab s1 else s1).onMech fun m => { m with cause := none }
  let s3 := match s2.mech.inFlight, cause with
    | some _, _ => closeInFlight (.done .idle) s2
    | none, none => s2
    | none, some c => notify (.mechState .idle c) s2
  standbyEnds true (recoveryEnds (settle (runSlot s3)))

/-- R21: what follows the end-leader stop in HALT with an empty slot. DESIGN CHOICE (log 41): an auto-rewind that is refused at its
execution (AT_START) settles in HALT with MECH_STATE (HALT, END_LEADER); and whether the owner is TIMER (R21, R153) is judged here, at
HALT_POS, so that a tape whose end leader has ended an occurrence, its owner NONE since, is rewound. -/
def afterEndLeader (s : State) : State :=
  let stays := notify (.mechState .halt .endLeader) s
  if s.link.settings.autoRewind = true ∧ s.mech.owner.isTimer = false then
    let r := execute { what := .rwind, origin := .panel, silent := true } s
    match r.2 with
    | .refused _ => stays
    | _ => r.1
  else stays

/-- R15, R19, R21, R22, R25: the mechanism reaches HALT. -/
def reachHalt (s : State) : State :=
  let cause := s.mech.cause
  let s1 := (setState .halt none false (moveEnded s)).onMech fun m => { m with cause := none }
  match s1.mech.inFlight with
  | some _ => complete s1
  | none =>
    let s2 :=
      match cause with
      | none => runSlot s1
      | some .endLeader => if s1.mech.slot.isSome then runSlot s1 else afterEndLeader s1
      | some .startLeader => if s1.mech.slot.isSome then runSlot s1 else notify (.mechState .halt .startLeader) s1
      | some c => runSlot (notify (.mechState .halt c) s1)
    settle s2

/-! ## RECORD begins; junction operations end (R16, R17) -/

/-- R81: the automatic index of an entry to RECORD, by the command that brought it in. -/
def recordIndex (o : Option Origin) (s : State) : State :=
  match o with
  | some .panel => if s.link.settings.indexStart then autoIndex 0 .panel s else s
  | some (.timer k) =>
    match (s.sched.slots.getD (k - 1) Slot.reset).entry, (s.sched.slots.getD (k - 1) Slot.reset).occ with
    | some e, some x => if e.markFlag && !x.started then autoIndex k (.timer k) s else s
    | _, _ => s
  | _ => s

/-- R17, R81, R86: MECH enters RECORD. -/
def startRecording (s : State) : State :=
  let origin := s.mech.inFlight.map Cmd.origin
  let s1 := report .recordEntered ((setState .record none false s).onMark fun m => { m with guardDone := false })
  let s2 := endLeaderTest (recordGuard s1)
  if s2.mech.state = .record then complete (recordIndex origin s2) else s2

/-- R16, R17: a junction operation ends with the tape held in REC_PAUSE. -/
def junctionRest (s : State) : State := complete (setState .recPause none false s)

/-- R17, R41: the loops are LOCKED together, or the counter has moved: a lock wait or pre-roll may end; R16: a backspace may. -/
def junctionTest (s : State) : State :=
  match s.mech.junction with
  | none => s
  | some .backspace => if s.pos.counter ≤ s.mech.junctionAt - Config.junctionFrames then junctionRest s else s
  | some .lockWait =>
    if s.servo.bothLocked then
      (match s.mech.inFlight with
        | some c => if c.paused then junctionRest s else startRecording s
        | none => s)
    else s
  | some .preRoll =>
    if s.servo.bothLocked ∧ s.mech.junctionAt + Config.junctionFrames ≤ s.pos.counter then startRecording s else s

/-! ## Cam arrivals (R1, R4) -/

/-- R15, R17, R21: a shift has brought the mechanism to its target. -/
def reachTarget (s : State) : State :=
  match s.mech.target with
  | .halt => reachHalt s
  | .recPause => endLeaderTest (setState .recPause (some .lockWait) false (moveEnded s))
  | m =>
    let s1 := setState m none false (moveEnded s)
    let s2 := endLeaderTest s1
    if s2.mech.state = m then complete s2 else s2

/-- R29: the EJECT row of a recovery run. -/
def recoverAtEject (s : State) : State := if s.pins.cassetteIn then startInsert s else becomeEmpty s

/-- R1, R4: a movement has ended at its target code. -/
def camArrived (s : State) : State :=
  match s.mech.state with
  | .inserting => seated s
  | .threading => (match s.mech.target with | .halt => reachHalt s | t => startShift t false (moveEnded s))
  | .shifting => reachTarget s
  | .unthreading => (match s.mech.target with | .empty => startEject (moveEnded s) | _ => reachIdle s)
  | .ejecting =>
    let s1 := (motorOff s).onMech fun m => { m with ejectRead := true }
    if s.pins.cassetteIn then s1 else becomeEmpty s1
  | _ => s

/-- R1, R29: the cam lines report a code. -/
def camReports (code : CamCode) (s : State) : State :=
  match s.mech.camTarget with
  | none => s
  | some t =>
    let s1 := if code = 7 then s else s.onMech fun m => { m with lastCode := some code }
    if code = t then camArrived s1
    else if code = 0 ∧ s.mech.recoveryRun = true ∧ s.mech.state = .unthreading then recoverAtEject (moveEnded s1)
    else s1

/-! ## Faults (R4, R23, R24) -/

/-- R4: the length of a movement's timeout. -/
def camTimeoutLength (m : MState) : Nat :=
  match m with
  | .inserting => Config.insertTimeout | .threading => Config.threadTimeout | .unthreading => Config.unthreadTimeout
  | .ejecting => Config.ejectTimeout | _ => Config.shiftTimeout

/-- R4: a timeout expires: JAMMED. -/
def jam (s : State) : State :=
  let s1 := (setState .jammed none false (moveEnded s)).onMech fun m => { m with fault := .camTimeout, cause := none }
  let s2 := notify (.mechFault .camTimeout .jammed) (discardBoth .camTimeout s1)
  standbyEnds false (recoveryEnds (report (.interrupted (.fault .camTimeout)) (report .faultSched s2)))

/-- R4: the timeout of the movement under way. -/
def camTimeout (s : State) : State :=
  if s.mech.camTimer.due (camTimeoutLength s.mech.state) s.now then jam s else s

/-- R23: a stall. -/
def reelStall (s : State) : State :=
  if stalled s then
    let st := s.mech.state
    let s1 := discardBoth .reelStall (s.onMech fun m => { m with reel := .off, recAmp := false })
    let s2 := notify (.mechFault .reelStall st) (s1.onMech fun m => { m with fault := .reelStall, cause := none })
    startUnthread .idle (report (.interrupted (.fault .reelStall)) (report .faultSched s2))
  else s

/-- R24: the cause by which a servo fault discards. -/
def FaultCode.discard (f : FaultCode) : DiscardCause :=
  match f with
  | .drum => .drum | .capstan => .capstan | .reelStall => .reelStall | .camTimeout => .camTimeout | _ => .servo

/-- R24: the movement a servo fault makes. DESIGN CHOICE (log 41): a shift that an event had begun loses its cause, so neither its
MECH_STATE nor an auto-rewind follows in HALT. -/
def faultMove (s : State) : State :=
  match s.mech.state with
  | .threading => aimAt .halt s
  | .shifting =>
    let s1 := if s.mech.camTarget = some 3 then aimAt .halt s else driveCam 3 (aimAt .halt s)
    s1.onMech fun m => { m with camTimer := s.mech.camTimer, cause := none }
  | .halt => settle s
  | _ => startShift .halt true s

/-- R24: SERVO raises a fault. -/
def servoFault (f : FaultCode) (s : State) : State :=
  let st := s.mech.state
  let told := notify (.mechFault f st) (s.onMech fun m => { m with fault := f })
  if st = .threading ∨ st = .shifting ∨ st.threaded = true then
    let s1 := (notify (.mechFault f st) (s.onMech fun m => { m with fault := f, recAmp := false, reel := .off, cause := none }))
    faultMove (discardBoth f.discard (report (.interrupted (.fault f)) (report .faultSched s1)))
  else told

/-- R33, R35, R41: fault DRUM: the drum is stopped and held. -/
def drumFault (s : State) : State :=
  servoFault .drum (loopsFollow (s.onServo fun v => { v with drum := { v.drum.halted with heldOff := true } }))

/-- R37, R41: fault CAPSTAN: the capstan is stopped. -/
def capstanFault (s : State) : State :=
  servoFault .capstan (loopsFollow (s.onServo fun v => { v with capstan := Capstan.reset }))

/-- R35: the drum lock timer. -/
def drumLockTimeout (s : State) : State :=
  if s.servo.drum.timer.due Config.drumLockTime s.now then drumFault s else s

/-- R37: the capstan lock timer. -/
def capstanLockTimeout (s : State) : State :=
  if s.servo.capstan.timer.due Config.capstanLockTime s.now then capstanFault s else s

/-- R41: the record gate. -/
def gateTimeout (s : State) : State :=
  if s.servo.gate.due Config.gateTime s.now then
    let s1 := s.onServo fun v => { v with gate := none }
    if s.servo.drum.state ≠ .locked then drumFault s1
    else if s.servo.capstan.state ≠ .locked then capstanFault s1
    else s1
  else s

/-- R42: the record guard timer. -/
def guardTimeout (s : State) : State :=
  if s.servo.guard.due Config.guardTime s.now then servoFault .servo (s.onServo fun v => { v with guard := none }) else s

/-! ## Switches and sensors (R2, R21, R22, R27, R28) -/

/-- R2: the switch closes (its line and the tab's have been taken). -/
def cassetteClosed (s : State) : State :=
  match s.mech.state with
  | .empty => if s.supplyGood then startInsert s else s
  | _ => s

/-- R27, R28, R5: the switch opens; in JAMMED MECH reads the cam (R1, R2). -/
def cassetteOpened (s : State) : State :=
  match s.mech.state with
  | .inserting =>
    (startEject s).onMech fun m => { m with motor := .rev }
  | .ejecting => if s.mech.ejectRead then becomeEmpty s else s
  | .jammed => if s.pins.cam = 0 then becomeEmpty (readCam s) else s
  | _ => s

/-- R16, R22: the start leader becomes covered. -/
def startLeaderCovered (s : State) : State :=
  match s.mech.state with
  | .review => startLeaderStop s
  | .rwind => startLeaderStop s
  | .recPause => if s.mech.junction = some .backspace then junctionRest s else s
  | _ => s

/-! ## Rest timers (R19, R20) -/

/-- R20: the owning entry is PREPARING. -/
def haltSuspended (s : State) : Bool :=
  match s.mech.owner with
  | .timer k => decide ((s.sched.slots.getD (k - 1) Slot.reset).state = .preparing)
  | _ => false

/-- R19, R20: no command is in flight and the slot is empty. -/
def Mech.quiet (m : Mech) : Bool := m.inFlight.isNone && m.slot.isNone

/-- R19: the still timer runs while its condition holds. -/
def stillFollow (s : State) : Timer :=
  if (s.mech.state = .still ∨ s.mech.state = .recPause) ∧ s.mech.quiet = true ∧ s.mech.owner.isTimer = false then
    (match s.mech.still with | none => some s.now | some t => some t)
  else none

/-- R20: the halt timer runs while its condition holds, and is suspended. -/
def haltFollow (s : State) : Option HaltCount :=
  if s.mech.state = .halt ∧ s.mech.quiet = true then
    match s.mech.halt with
    | none => some { elapsed := 0, since := if haltSuspended s then none else some s.now }
    | some h =>
      match h.since with
      | none => some (if haltSuspended s then h else { h with since := some s.now })
      | some t => some (if haltSuspended s then { elapsed := h.elapsed + (s.now - t), since := none } else h)
  else none

/-- R19, R20: both rest timers are brought up to the state the step has left. -/
def restTimers (s : State) : State :=
  let a := stillFollow s
  let b := haltFollow s
  s.onMech fun m => { m with still := a, halt := b }

/-- R19: the still timer expires. -/
def stillTimeout (s : State) : State :=
  if s.mech.still.due Config.stillTime s.now then because .rest (startShift .halt false s) else s

/-- R20: the halt timer has run its 3 minutes. -/
def haltDue (s : State) : Bool :=
  match s.mech.halt with
  | none => false
  | some h =>
    match h.since with
    | none => false
    | some t => decide (Config.haltTime * Config.cyclesPerSecond ≤ (h.elapsed + (s.now - t)) * 1000)

/-- R20: the halt timer expires. -/
def haltTimeout (s : State) : State := if haltDue s then because .rest (startUnthread .idle s) else s

/-! ## Supply and standby (R29 to R31) -/

/-- R29: a recovery run. -/
def recover (s : State) : State :=
  if s.mech.recoveryPending = true ∧ s.supplyGood = true then
    let s1 := (readCam s).onMech fun m => { m with recoveryPending := false, recoveryRun := true }
    if s.pins.cam = 0 then recoverAtEject s1
    else if s.pins.cam = 1 then reachIdle s1
    else startUnthread .idle s1
  else s

/-- R30: supply loss. MARK aborts its operation and POS ends its motion first (R72, R83). The fault code is kept, but for R5's
clearing where the mechanism becomes EMPTY from a state other than JAMMED (log 31). -/
def mechSupplyLost (s : State) : State :=
  let s1 := posSupplyLost (markAbort .supply s)
  let new : MState := if s.pins.cassetteIn then .idle else .empty
  let was : FaultCode := if new = .empty ∧ s.mech.state ≠ .empty ∧ s.mech.state ≠ .jammed then .none else s.mech.fault
  let s2 := (setState new none false (moveEnded s1)).onMech fun m =>
    { m with recoveryPending := true, recoveryRun := false, standbyStop := false, cause := none, ejectRead := false,
             still := none, halt := none, fault := was }
  let s3 := discardBoth .supply s2
  let s4 := report (.interrupted (.cause .supply)) s3
  settle (if s.pins.cassetteIn then s4 else emptyEffects s4)

/-- R31: PWR's standby stop; completion or failure is reported. An UNTHREADING of the halt timer runs on and keeps the cause it
will announce in IDLE (R20). -/
def mechStandbyStop (s : State) : State :=
  let s1 := (discardBoth .standby s).onMech fun m =>
    { m with standbyStop := true, cause := if s.mech.state = .unthreading then m.cause else none, recAmp := false }
  match s.mech.state with
  | .idle => standbyEnds true s1
  | .empty => standbyEnds true s1
  | .jammed => standbyEnds false s1
  | .inserting => s1
  | .ejecting => s1
  | .unthreading => aimAt .idle s1
  | _ => startUnthread .idle s1

/-! ## SCHED's claim and release (R12) -/

/-- R12: the owner at a release. -/
def releasedOwner (m : Mech) : Owner :=
  let free (x : MState) : Bool := decide (x = .empty) || decide (x = .idle) || decide (x = .halt) || decide (x = .jammed)
  if free m.state || (m.state.transition && free m.target) then .none else .panel

end Sys2Proof.Machine
end

