-- ==== Sys2Proof/Machine/Clock.lean ====
section
/-!
DEFINITION. Sys2Proof/Machine/Clock.lean: the Clock (chapter 7): seconds, trim, steps, setting and reading.
-/

namespace Sys2Proof.Machine

/-- R136: the length of a second that begins with the given trim count. -/
def secondLength (trim : Int) (count : Nat) : Nat :=
  if count = 0 then ((Config.cyclesPerSecond : Int) - trim).toNat else Config.cyclesPerSecond

/-- R137: a step, its notice before its event to SCHED; the new second starts with the trim count as it stands (R136). -/
def clockStep (time : DateTime) (fraction : Nat) (state : ClockState) (cause : StepCause) (s : State) : State :=
  let s1 := s.onClock fun c =>
    { c with time := time, fraction := fraction, state := state, length := secondLength c.trim c.trimCount }
  report (.stepped { old := s.clock.time, new := time, cause := cause, state := state })
    (notify (.clockStepped s.clock.time s.clock.fraction1024 s1.clock.time s1.clock.fraction1024 cause state) s1)

/-- R136: the trim count after a second boundary. -/
def nextTrimCount (n : Nat) : Nat := if n = 15 then 0 else n + 1

/-- R129, R130, R136, R138: the second boundary, the fraction having reached the length of the second: the date-time advances,
or wraps as a step; a second of 0 is a minute boundary for SCHED. -/
def clockBoundary (s : State) : State :=
  let count := nextTrimCount s.clock.trimCount
  let s1 := s.onClock fun c => { c with trimCount := count }
  if s.clock.time = lastTime then clockStep firstTime 0 s.clock.state .wrap s1
  else
    let s2 := s1.onClock fun c =>
      { c with time := nextSecond c.time, fraction := 0, length := secondLength c.trim count }
    if s2.clock.time.second = 0 then report .minute s2 else s2

/-- The crystal counts the cycles that are left of the second in progress, up to the boundary (log 2). -/
def clockToBoundary (s : State) : State :=
  s.onClock fun c => { c with crystal := c.crystal + (c.length - c.fraction), fraction := c.fraction + (c.length - c.fraction) }

/-- One cycle of the crystal (R129). -/
def clockCycle (s : State) : State :=
  let s1 := s.onClock fun c => { c with crystal := c.crystal + 1, fraction := c.fraction + 1 }
  if s1.clock.length ≤ s1.clock.fraction then clockBoundary s1 else s1

/-- R133: CLOCK_SET; the trim is in force before the date-time's step (log 17). -/
def clockSet (time : Option DateTime) (trim : Option Int) (s : State) : State × Answer :=
  match time, trim with
  | none, none => refuse s .invalidArg
  | _, _ =>
    if (match time with | none => true | some t => timeLegal t) = false then refuse s .invalidArg
    else
      let s1 := match trim with
        | none => s
        | some v => s.onClock fun c => { c with trim := clampInt (-31) 31 v }
      let s2 := match time with
        | none => s1
        | some t => clockStep t 0 .manual .manual s1
      done s2 (readingBytes s2.clock.time s2.clock.fraction1024 ++ [byte s2.clock.state.code, sbyte s2.clock.trim])

/-- R134: CLOCK_READ. -/
def clockRead (s : State) : State × Answer :=
  done s (readingBytes s.clock.time s.clock.fraction1024 ++
    [byte (dayOfWeek s.clock.time.date), byte s.clock.state.code, sbyte s.clock.trim])

/-- R135: a confirmed local date-time, in seconds from 1990-01-01 00:00:00, taken at the given arrival in ticks. -/
def clockConfirmed (localTime : Nat) (arrival : Nat) (s : State) : State :=
  if s.link.settings.autoClock then
    let now := localTime * 1024 + (s.clock.ticks - arrival)
    let diff : Int := (now : Int) - (s.clock.reading : Int)
    if s.clock.state = .invalid ∨ 2048 ≤ diff.natAbs then
      clockStep (timeOfSeconds (now / 1024)) (now % 1024 * Config.cyclesPerTick) .broadcast .broadcast s
    else s.onClock fun c => { c with state := .broadcast }
  else s

/-- R139: CLOCK after PIN and RESTART. -/
def clockKept (c : Clock) : Clock := { c with trimCount := 0, crystal := 0 }

end Sys2Proof.Machine
end

