-- ==== Sys2Proof/Machine/Ldd.lean ====
section
/-!
DEFINITION. Sys2Proof/Machine/Ldd.lean: the Line Data Decoder (chapter 6): activity, packets, labels, learning, time.
-/

namespace Sys2Proof.Machine

/-! ## Activity and tune starts -/

/-- R116: LDD is active while the tuner is LOCKED and the selected source is TUNER; on becoming inactive the candidate goes. -/
def lddActivity (s : State) : State :=
  let active := decide (s.tuner.state = .locked) && decide (s.tuner.selected = .tuner)
  s.onLdd fun l => { l with active := active, candidate := if active then l.candidate else none }

/-- R122: the label side is reset. -/
def labelSideReset (s : State) : State :=
  let s1 := s.onLdd fun l => { l with state := .none, timer := none, last := none, candidate := none, time := none }
  if s.ldd.state = .none then s1 else report (.labelState .none) s1

/-- R118, R122: a tune start with the preset reported as tuned. -/
def lddRetune (tuned : Option Nat) (s : State) : State :=
  (labelSideReset s).onLdd fun l => { l with tuned := tuned, good := 0, bad := 0, toggles := 0 }

/-! ## Packets (R117) -/

/-- R117: the status of a label by its code (section 11.9). -/
def labelStatusOf (n : Nat) : Option LabelStatus :=
  match n with
  | 0 => some .run | 1 => some .pause | 2 => some .stopped | _ => none

/-- R117: a LABEL packet with every field in its range. -/
def judgeLabel (f : LabelFields) : Option Label :=
  match labelStatusOf f.status with
  | none => none
  | some st =>
    if f.network ≤ 4095 ∧ 1 ≤ f.day ∧ f.day ≤ monthLength true f.month ∧ f.hour ≤ 23 ∧ f.minute ≤ 59 ∧ f.toggle ≤ 1 then
      some { network := f.network, day := f.day, month := f.month, hour := f.hour, minute := f.minute, status := st,
             toggle := f.toggle }
    else none

/-- R126: the year of a two-digit year. -/
def fullYear (y : Nat) : Nat := if 90 ≤ y then 1900 + y else 2000 + y

/-- The UTC date-time of a TIME packet. -/
def utcOf (f : TimeFields) : DateTime :=
  { date := { year := fullYear f.year, month := f.month, day := f.day }, hour := f.hour, minute := f.minute, second := f.second }

/-- R117: a TIME packet with every field in its range. -/
def timeGood (f : TimeFields) : Bool :=
  decide (f.year ≤ 99) && timeLegal (utcOf f) && decide (-24 ≤ f.offset) && decide (f.offset ≤ 28)

/-! ## Labels -/

/-- The network code of a preset, as the table holds it. -/
def State.presetCode (s : State) (n : Nat) : Option Nat :=
  match s.tuner.presets.getD (n - 1) none with
  | none => none
  | some p => p.networkCode

/-- R124: learning, with its result (R125). -/
def learnCode (l : Label) (s : State) : State × Learning :=
  match s.ldd.tuned with
  | none => (s, .none)
  | some n =>
    match s.tuner.presets.getD (n - 1) none with
    | none => (s, .none)
    | some p =>
      if p.networkCode = some l.network then (s, .unchanged)
      else (s.onTuner fun t => { t with presets := t.presets.set (n - 1) (some { p with networkCode := some l.network }) }, .learned)

/-- R123, R124, R125: what an accepted label sets in motion, the hand-off first. -/
def labelAccepted (kind : LabelKind) (l : Label) (s : State) : State :=
  let prior := match s.ldd.tuned with | none => none | some n => s.presetCode n
  let s1 := match kind with
    | .new => report (.newLabel l prior) s
    | .back => report (.labelState .valid) s
  let r := learnCode l s1
  notify (.label kind l s.ldd.tuned r.2) r.1

/-- R120, R121: a confirmed label is classified. -/
def classifyLabel (l : Label) (s : State) : State :=
  let fresh := s.onLdd fun d => { d with last := some l, state := .valid, timer := some s.now }
  match s.ldd.last with
  | none => labelAccepted .new l fresh
  | some old =>
    if l.toggle ≠ old.toggle then labelAccepted .new l fresh
    else if l = old then
      if s.ldd.state = .lost then labelAccepted .back l fresh else fresh
    else s.onLdd fun d => { d with toggles := satInc 65535 d.toggles }

/-- R119: a good label reception. -/
def labelReceived (l : Label) (s : State) : State :=
  let s1 := if s.ldd.candidate = some l then classifyLabel l s else s
  s1.onLdd fun d => { d with candidate := some l }

/-- R121: the label timer. -/
def labelTimer (s : State) : State :=
  if s.ldd.state = .valid ∧ s.ldd.timer.due Config.labelTime s.now = true then
    report (.labelState .lost)
      ((s.onLdd fun d => { d with state := .lost, timer := none }).onLink fun l => { l with labelLost := true })
  else s

/-! ## Time packets -/

/-- R126: the local date-time of a good TIME packet in seconds from 1990-01-01 00:00:00, which may fall outside the calendar. -/
def localSeconds (f : TimeFields) : Int := (secondsOf (utcOf f) : Int) + f.offset * 1800

/-- R127: judgement against the time candidate. -/
def timeReceived (f : TimeFields) (s : State) : State :=
  let t := localSeconds f
  if t < 0 ∨ (secondsOf lastTime : Int) < t then s
  else
    let cand : TimeCandidate := { arrival := s.clock.ticks, d := t * 1024 - (s.clock.reading : Int) }
    let took := s.onLdd fun d => { d with time := some cand }
    match s.ldd.time with
    | none => took
    | some old =>
      if cand.arrival - old.arrival < 30 * 1024 then s
      else if 120 * 1024 < cand.arrival - old.arrival then took
      else if 1024 < (cand.d - old.d).natAbs then took
      else clockConfirmed t.toNat cand.arrival took

/-! ## One packet -/

/-- R117, R118: a bad packet is counted and clears the candidate. -/
def badPacket (s : State) : State := s.onLdd fun d => { d with bad := satInc 65535 d.bad, candidate := none }

/-- R118: a good packet is counted. -/
def goodPacket (s : State) : State := s.onLdd fun d => { d with good := satInc 65535 d.good }

/-- R117: the exclusive-or of the 13 bytes before the check byte. -/
def packetCheck (p : Packet) : Byte := p.payload.foldl (· ^^^ ·) p.kind

/-- R117: the kinds of a packet, by its kind byte. -/
inductive PacketKind | label | time | other
  deriving DecidableEq, Repr

/-- R117: kind byte 1 is LABEL and 2 is TIME. -/
def packetKind (b : Byte) : PacketKind :=
  match b.toNat with
  | 1 => .label | 2 => .time | _ => .other

/-- R116, R117: one packet on the data line. -/
def linePacket (p : Packet) (s : State) : State :=
  if s.ldd.active = false then s
  else if packetCheck p ≠ p.check then badPacket s
  else match packetKind p.kind with
    | .other => goodPacket s
    | .label =>
      match judgeLabel p.label with
      | none => badPacket s
      | some l => labelReceived l (goodPacket s)
    | .time => if timeGood p.time then timeReceived p.time (goodPacket s) else badPacket s

end Sys2Proof.Machine
end

