-- ==== Sys2Proof/Machine/Tuner.lean ====
section
/-!
DEFINITION. Sys2Proof/Machine/Tuner.lean: the Tuner Controller (chapter 5): channels and dividers, the module bus, INIT, tuning and
AFT, the watch, the preset table, host and TIMER tunes, the source and the autoscan.
-/

namespace Sys2Proof.Machine

/-! ## Channels, frequencies, dividers (R99, R100) -/

/-- R99: a channel corrected to its plan. -/
def correctChannel (p : Plan) (c : Nat) : Nat :=
  match p with
  | .t => if c < 2 then 2 else if c ≤ 12 then c else if c < 21 then 21 else if c ≤ 69 then c else 69
  | .c => clampNat 1 125 c
  | .direct => clampNat 704 13920 c

/-- R99, R100: a channel's vision frequency (or a direct frequency) in steps of 62.5 kHz. -/
def channelSteps (p : Plan) (c : Nat) : Nat :=
  match p with
  | .t => if c ≤ 4 then 772 + 112 * (c - 2) else if c ≤ 12 then 2804 + 112 * (c - 5) else 7540 + 128 * (c - 21)
  | .c => 884 + 96 * (c - 1)
  | .direct => c

/-- R100: the nominal divider. -/
def nominalDivider (p : Plan) (c : Nat) : Nat := channelSteps p c + 622

/-- R100: the band a divider implies. -/
def bandOf (d : Nat) : Band := if d < 3200 then .low else if d < 8000 then .mid else .high

/-- R111: the channel after a channel in a scan. -/
def nextChannel (p : Plan) (c : Nat) : Option Nat :=
  match p with
  | .t => if c = 12 then some 21 else if c < 69 then some (c + 1) else none
  | _ => if c < 125 then some (c + 1) else none

/-- R111: the lowest channel of a plan. -/
def lowestChannel (p : Plan) : Nat :=
  match p with
  | .t => 2
  | _ => 1

/-! ## Presets and targets (R101, R106) -/

/-- A preset by its number, if it is used. -/
def State.preset (s : State) (n : Nat) : Option Preset := if n = 0 then none else s.tuner.presets.getD (n - 1) none

/-- R106: the tuned-on preset of a preset. -/
def State.tunedOn (s : State) (n : Nat) : Nat :=
  match s.preset n with
  | none => n
  | some p =>
    match p.box with
    | none => n
    | some _ =>
      match s.link.settings.boxFeed with
      | none => n
      | some f =>
        match s.preset f with
        | none => n
        | some q => if q.box.isSome then n else f

/-- R101: the tuning target of a selection. -/
def targetOf (s : State) : Selection → Option TuneTarget
  | .preset n =>
    match s.preset (s.tunedOn n) with
    | none => none
    | some p => some { nominal := nominalDivider p.plan p.channel, fine := p.fine, aftOff := p.aftOff, learn := some (s.tunedOn n) }
  | .channel pl c => some { nominal := nominalDivider pl c, fine := 0, aftOff := false, learn := none }
  | .direct f => some { nominal := nominalDivider .direct f, fine := 0, aftOff := false, learn := none }

/-! ## The bus (R95) -/

/-- R95: what the data line carries in one of the bits of a transaction: a level that TUNER drives, or the line released to the
module. -/
inductive BusBit | driven (level : Bool) | released
  deriving DecidableEq, Repr

/-- R95: the transaction is a WRITE. -/
def Transaction.isWrite : Transaction → Bool
  | .writeDivider _ => true | .writeBand _ _ => true | .readStatus _ => false

/-- Section 5.1: the register's number. -/
def Transaction.register : Transaction → Nat
  | .writeDivider _ => 1 | .writeBand _ _ => 2 | .readStatus _ => 3

/-- The 16 data bits of a WRITE; the register words are outside the manual (section 11.9, log 24). -/
def Transaction.word : Transaction → BitVec 16
  | .writeDivider d => Config.dividerWord d
  | .writeBand b standby => Config.bandWord b.code standby
  | .readStatus _ => 0

/-- R95: the 22 bits of a transaction in the order of its clocks: the operation, the register number, the turnaround bit and the data.
TUNER drives every bit of a WRITE, and of a READ those before the turnaround bit; the module answers in the others. DESIGN CHOICE
(log 24): R95 orders the fields and not the bits of one; each field is clocked most significant bit first. -/
def Transaction.bits (x : Transaction) : List BusBit :=
  let answered (b : Bool) : BusBit := if x.isWrite then .driven b else .released
  (fieldBits (Config.moduleOperation x.isWrite).toNat 2 ++ fieldBits x.register 3).map .driven ++
    (answered Config.writeTurnaround :: (fieldBits x.word.toNat 16).map answered)

/-- R95: TUNER asks for transactions; the first of the list is in flight. -/
def busAsk (ts : List Transaction) (s : State) : State := s.onTuner fun t => { t with bus := t.bus ++ ts }

/-- R105: what has not begun is dropped, and the transaction in flight is not judged, nor a failure in it counted. DESIGN CHOICE
(log 29): so too where a scan starts (R111) or ends (R113), or the selection is written unused (R107). -/
def busAbandon (s : State) : State :=
  s.onTuner fun t =>
    { t with bus := match t.bus with
        | .readStatus _ :: _ => [.readStatus false]
        | x :: _ => [x]
        | [] => [] }

/-- R100: the divider of the target and AFT position is written, then the band where needed; always both at a tune start. -/
def writeDivider (always : Bool) (s : State) : State :=
  match s.tuner.target with
  | none => s
  | some g =>
    let d := ((g.nominal : Int) + s.tuner.aft).toNat
    let b := bandOf d
    let s1 := busAsk [.writeDivider d] (s.onTuner fun t => { t with divider := some d })
    if always ∨ s.tuner.band ≠ some b then
      busAsk [.writeBand b false] (s1.onTuner fun t => { t with band := some b, standby := some false })
    else s1

/-! ## States and closings -/

/-- The tuner enters a state; LDD learns of LOCKED (R114, R116). -/
def tunerTo (st : TunerState) (s : State) : State := lddActivity (s.onTuner fun t => { t with state := st })

/-- R96, R105: settle, watch, INIT wait and scan wait are cancelled. -/
def tunerTimersOff (s : State) : State :=
  s.onTuner fun t => { t with settle := none, watch := none, initTimer := none, scan := t.scan.map fun c => { c with timer := none } }

/-- R102, R105, R110: the tune in flight is closed, a channel sequence not yet handed to BOX with it; a TIMER tune's result goes to
SCHED, which acts on none. DESIGN CHOICE (log 29): a tune closed before its first READ carries the level of the last READ judged, of
an earlier tune too, none where none has been judged; one closed before its start carries the AFT position, divider and band that
stand then. -/
def closeTune (r : TuneResult) (s : State) : State :=
  match s.tuner.tune with
  | none => s
  | some f =>
    let s1 := s.onTuner fun t => { t with tune := none, boxSend := false }
    if f.timer then s1
    else notify (.tuneEnd r s.tuner.selection s.tuner.divider s.tuner.band s.tuner.aft s.tuner.level f.box) s1

/-- R102: the tuner enters NO_SIGNAL with a selection, and is watched (R104). DESIGN CHOICE (log 29): the 1 s of
the watch start afresh, from LOCKED too. -/
def toNoSignal (s : State) : State := closeTune .noSignal ((tunerTo .noSignal s).onTuner fun t => { t with settle := none, watch := some s.now })

/-- R103: the fine value is learned. -/
def learnFine (s : State) : State :=
  match s.tuner.target with
  | none => s
  | some g =>
    match g.learn with
    | none => s
    | some n =>
      match s.preset n with
      | none => s
      | some p =>
        if p.aftOff then s
        else s.onTuner fun t => { t with presets := t.presets.set (n - 1) (some { p with fine := t.aft }) }

/-- R102, R103: the tuner enters LOCKED. DESIGN CHOICE (log 29): the 1 s of the watch start afresh, from NO_SIGNAL too. -/
def toLocked (s : State) : State :=
  closeTune .locked ((tunerTo .locked (learnFine s)).onTuner fun t => { t with settle := none, watch := some s.now, unsettled := 0 })

/-- R98, R107, R113: NO_SIGNAL with no selection; the module is put in standby where it is not there already. DESIGN CHOICE (log 47):
the BAND written carries the band last written, LOW where none is known. -/
def toNothing (write : Bool) (s : State) : State :=
  let s1 := tunerTo .noSignal (tunerTimersOff (s.onTuner fun t => { t with target := none, next := .none }))
  if write then
    let b := s.tuner.band.getD .low
    busAsk [.writeBand b true] (s1.onTuner fun t => { t with band := some b, standby := some true })
  else s1

/-! ## Tune start (R101) -/

/-- R106, R108: the channel sequence of a host tune of a BOX preset, at its tune start; none is handed while the owner is TIMER (R182).
DESIGN CHOICE (log 47): the sequence of a tune taken before the claim (R110) that starts under TIMER is dropped. -/
def sendBox (s : State) : State :=
  let s1 := s.onTuner fun t => { t with boxSend := false }
  if s.tuner.boxSend && !s.mech.owner.isTimer then
    match s.tuner.selection with
    | some (.preset n) =>
      match s.preset n with
      | some p =>
        match p.box with
        | some c =>
          let r := panelSequence c s1
          r.1.onTuner fun t => { t with tune := t.tune.map fun f => { f with box := r.2 } }
        | none => s1
      | none => s1
    | _ => s1
  else s1

/-- The preset reported to LDD as tuned (R114). -/
def Selection.presetOf : Selection → Option Nat
  | .preset n => some n
  | _ => none

/-- R101: a tune starts from its target. -/
def tuneStart (s : State) : State :=
  match s.tuner.selection with
  | none => toNothing true s
  | some sel =>
    match targetOf s sel with
    | none => toNothing true s
    | some g =>
      let s1 := lddRetune sel.presetOf (s.onTuner fun t =>
        { t with target := some g, aft := g.fine, steps := 0, unsettled := 0, next := .none, watch := none, settle := some s.now })
      tunerTo .tuning (writeDivider true (sendBox s1))

/-- R105: the new tune starts when the transaction in flight, if any, has ended. DESIGN CHOICE (log 46): while it waits the tuner
keeps the state it is in. -/
def tuneSoon (s : State) : State :=
  let s1 := busAbandon (tunerTimersOff s)
  if s1.tuner.bus = [] then tuneStart s1 else s1.onTuner fun t => { t with next := .tune }

/-! ## INIT (R98) -/

/-- R96, R98: INIT starts. -/
def tunerInit (s : State) : State :=
  tunerTo .init ((tunerTimersOff s).onTuner fun t => { t with failures := 0, bus := [], next := .none, initTimer := some s.now })

/-- R98: the 50 ms wait has passed. -/
def initWaited (s : State) : State :=
  if s.tuner.state = .init ∧ s.tuner.initTimer.due Config.initWait s.now = true then
    busAsk [.writeBand .low true, .readStatus true]
      (s.onTuner fun t => { t with initTimer := none, band := some .low, standby := some true })
  else s

/-! ## Ends of a scan (R113) -/

/-- R113: SCAN_DONE; the saved selection is the selection again. -/
def scanDone (r : ScanEnd) (s : State) : State :=
  match s.tuner.scan with
  | none => s
  | some c =>
    notify (.scanDone r c.stored c.last) (s.onTuner fun t => { t with scan := none, selection := c.saved, target := none })

/-- R113: a scan ends and the saved selection is retuned. DESIGN CHOICE: the state is TUNING at once, even where the tune waits for a
transaction (log 46); a failure of the READ in flight is not counted (log 29). -/
def scanEnd (r : ScanEnd) (s : State) : State :=
  match s.tuner.scan with
  | none => s
  | some _ =>
    let s1 := scanDone r s
    match s1.tuner.selection with
    | none => toNothing true (busAbandon s1)
    | some _ => tuneSoon (tunerTo .tuning s1)

/-! ## Tune requests (R105) -/

/-- R105, R108, R110: an accepted tune request replaces the selection. DESIGN CHOICE (log 46): a tune that waits keeps the state
(LOCKED, with LDD active), but for one that ends a scan, which shows TUNING at once. -/
def requestTune (sel : Selection) (flight : Option TuneInFlight) (box : Bool) (s : State) : State :=
  let s1 := closeTune .superseded (match s.tuner.state with | .scanning => scanDone .stopped s | _ => s)
  let s2 := s1.onTuner fun t => { t with selection := some sel, target := none, tune := flight, boxSend := box }
  match s.tuner.state with
  | .off => s2
  | .init => s2
  | .fault => tunerInit s2
  | .scanning => tuneSoon (tunerTo .tuning s2)
  | _ => tuneSoon s2

/-! ## Judgements (R102, R104, R112) -/

/-- Outcomes of R102. -/
inductive Judged | again | locked | noSignal | restore | step (up : Bool)
  deriving DecidableEq, Repr

/-- R102: the level that gives LOCKED. -/
def byLevel (level : Nat) : Judged := if 12 ≤ level then .locked else .noSignal

/-- R102: the judgement of one successful STATUS read. -/
def judgeRead (aftOff : Bool) (aft : Int) (steps unsettled : Nat) (st : ModuleStatus) : Judged :=
  if st.lock then
    if aftOff then byLevel st.level
    else match st.window with
      | .inside => byLevel st.level
      | .low => if aft + 1 ≤ 31 ∧ steps < 64 then .step true else .restore
      | .high => if -32 ≤ aft - 1 ∧ steps < 64 then .step false else .restore
  else if unsettled + 1 = 3 then .restore else .again

/-- R102: the unsettled count after a judged read: a read with the lock bit set returns it to 0, another adds one. -/
def countUnsettled (st : ModuleStatus) (s : State) : State :=
  s.onTuner fun t => { t with unsettled := if st.lock then 0 else t.unsettled + 1 }

/-- R102: TUNER settles 40 ms and reads again. -/
def settleAgain (s : State) : State := s.onTuner fun t => { t with settle := some s.now }

/-- R102: one AFT step. -/
def aftStep (up : Bool) (s : State) : State :=
  writeDivider false (s.onTuner fun t =>
    { t with aft := if up then t.aft + 1 else t.aft - 1, steps := t.steps + 1, unsettled := 0, settle := some s.now })

/-- R102: a restore. -/
def restoreFine (s : State) : State :=
  match s.tuner.target with
  | none => s
  | some g => writeDivider false (s.onTuner fun t => { t with aft := g.fine })

/-- The AFT-off flag of the target. -/
def Tuner.aftOff (t : Tuner) : Bool := match t.target with | none => false | some g => g.aftOff

/-- R102: a read in TUNING or AFT. -/
def judgeTune (st : ModuleStatus) (s : State) : State :=
  let s1 := countUnsettled st s
  match judgeRead s.tuner.aftOff s.tuner.aft s.tuner.steps s.tuner.unsettled st with
  | .again => settleAgain s1
  | .locked => toLocked s1
  | .noSignal => toNoSignal s1
  | .restore => toNoSignal (restoreFine s1)
  | .step up => tunerTo .aft (aftStep up s1)

/-- R104: one drift step in LOCKED, within the range. -/
def driftStep (up : Bool) (s : State) : State :=
  let a := if up then s.tuner.aft + 1 else s.tuner.aft - 1
  if -32 ≤ a ∧ a ≤ 31 then writeDivider false (s.onTuner fun t => { t with aft := a }) else s

/-- R104: a watch read in LOCKED. -/
def watchLocked (st : ModuleStatus) (s : State) : State :=
  if st.lock then
    let s1 := s.onTuner fun t => { t with unsettled := 0 }
    if st.level < 12 then toNoSignal s1
    else if s.tuner.aftOff then s1
    else match st.window with
      | .inside => s1
      | .low => driftStep true s1
      | .high => driftStep false s1
  else
    let s1 := s.onTuner fun t => { t with unsettled := satInc 3 t.unsettled }
    if s1.tuner.unsettled = 3 then toNoSignal s1 else s1

/-- R104: a watch read in NO_SIGNAL; a new AFT run applies R102 to the same read (log 18). -/
def watchNoSignal (st : ModuleStatus) (s : State) : State :=
  if st.lock = true ∧ 12 ≤ st.level then
    if s.tuner.aftOff ∨ st.window = .inside then toLocked s
    else judgeTune st (s.onTuner fun t => { t with steps := 0, unsettled := 0, watch := none })
  else s

/-! ## The scan (R112) -/

/-- The lowest-numbered unused preset. -/
def freePreset (t : Tuner) : Option Nat := (t.presets.findIdx? fun p => p.isNone).map (· + 1)

/-- R112: the scan starts its next channel. -/
def scanChannel (s : State) : State :=
  match s.tuner.scan with
  | none => s
  | some c =>
    let g : TuneTarget := { nominal := nominalDivider c.plan c.next, fine := 0, aftOff := false, learn := none }
    writeDivider true (s.onTuner fun t =>
      { t with target := some g, aft := 0, steps := 0, unsettled := 0, next := .none, settle := some s.now,
               scan := some { c with stage := .running, timer := none } })

/-- R112, R113: the scan moves to its next channel, or ends COMPLETE. -/
def scanAdvance (c : Scan) (s : State) : State :=
  match nextChannel c.plan c.next with
  | none => scanEnd .complete s
  | some n =>
    let s1 := s.onTuner fun t => { t with scan := some { c with next := n } }
    if s1.tuner.bus = [] then scanChannel s1 else s1.onTuner fun t => { t with next := .scanChannel }

/-- R112: the channel's result is NONE or ALREADY. -/
def scanResult (r : ScanFound) (c : Scan) (s : State) : State :=
  let c1 := { c with last := some c.next }
  scanAdvance c1 (notify (.scanProgress c.next r none (s.tuner.level.getD 0)) (s.onTuner fun t => { t with scan := some c1 }))

/-- R112: the preset a found channel is stored in. -/
def scanPreset (c : Scan) (aft : Int) : Preset :=
  { plan := c.plan, channel := c.next, fine := aft, aftOff := false, skip := false, name := [], box := none, networkCode := none }

/-- R112, R113: a channel found. -/
def scanFound (c : Scan) (s : State) : State :=
  let known := s.tuner.presets.any fun p =>
    match p with | none => false | some q => decide (q.plan = c.plan) && decide (q.channel = c.next)
  if known then scanResult .already c s
  else
    let c1 := { c with last := some c.next }
    match freePreset s.tuner with
    | none => scanEnd .tableFull (s.onTuner fun t => { t with scan := some c1 })
    | some n =>
      let c2 := { c1 with stored := c.stored + 1 }
      let s1 := notify (.scanProgress c.next .stored (some n) (s.tuner.level.getD 0))
        (s.onTuner fun t => { t with scan := some c2, presets := t.presets.set (n - 1) (some (scanPreset c t.aft)) })
      if (freePreset s1.tuner).isNone then scanEnd .tableFull s1 else scanAdvance c2 s1

/-- R112: a read while scanning, judged by R102 but for the read that confirms. -/
def judgeScan (st : ModuleStatus) (s : State) : State :=
  match s.tuner.scan with
  | none => s
  | some c =>
    match c.stage with
    | .confirming => if st.lock = true ∧ 12 ≤ st.level then scanFound c s else scanResult .none c s
    | .waiting => s
    | .running =>
      let s1 := countUnsettled st s
      match judgeRead false s.tuner.aft s.tuner.steps s.tuner.unsettled st with
      | .again => settleAgain s1
      | .step up => aftStep up s1
      | .noSignal => scanResult .none c s1
      | .restore => scanResult .none c (restoreFine s1)
      | .locked => s1.onTuner fun t => { t with settle := none, scan := some { c with stage := .waiting, timer := some s.now } }

/-- R112: the further 60 ms have passed. -/
def scanConfirm (s : State) : State :=
  match s.tuner.scan with
  | none => s
  | some c =>
    if c.stage = .waiting ∧ c.timer.due Config.confirmWait s.now = true then
      busAsk [.readStatus true] (s.onTuner fun t => { t with scan := some { c with stage := .confirming, timer := none } })
    else s

/-! ## Transaction ends and timers -/

/-- R98: the module has answered in INIT. -/
def initAnswered (s : State) : State :=
  match s.tuner.selection with
  | none => toNothing false s
  | some _ => tuneStart s

/-- R102, R104, R98, R112: a successful READ is judged by the state. DESIGN CHOICE (log 29): the level kept is that of the last READ
judged, neither INIT's READ nor one that is not judged among them; a TUNE_END closed before its tune's first READ carries it. -/
def judgeStatus (st : ModuleStatus) (s : State) : State :=
  let s1 := s.onTuner fun t => { t with level := some st.level }
  match s.tuner.state with
  | .init => initAnswered s
  | .tuning => judgeTune st s1
  | .aft => judgeTune st s1
  | .locked => watchLocked st s1
  | .noSignal => watchNoSignal st s1
  | .scanning => judgeScan st s1
  | .off => s
  | .fault => s

/-- R96: two consecutive failed READs. -/
def tunerFault (s : State) : State :=
  let s1 := notify (.tunerFault s.tuner.state)
    (tunerTo .fault ((tunerTimersOff s).onTuner fun t => { t with bus := [], next := .none, failures := 2 }))
  scanDone .fault (closeTune .fault s1)

/-- R95, R96: the transaction in flight ends. -/
def transactionEnd (answer : Option ModuleStatus) (s : State) : State :=
  match s.tuner.bus with
  | [] => s
  | x :: rest =>
    let s1 := s.onTuner fun t => { t with bus := rest }
    let s2 :=
      match x, answer with
      | .writeDivider _, _ => s1
      | .writeBand _ _, _ => s1
      | .readStatus judged, some st =>
        let s2 := s1.onTuner fun t => { t with failures := 0 }
        if judged then judgeStatus st s2 else s2
      | .readStatus false, none => s1
      | .readStatus true, none =>
        if s.tuner.failures = 0 then s1.onTuner fun t => { t with failures := 1, bus := .readStatus true :: rest }
        else tunerFault s1
    if s2.tuner.bus = [] then
      match s2.tuner.next with
      | .none => s2
      | .tune => tuneStart s2
      | .scanChannel => scanChannel s2
    else s2

/-- R101, R102, R112: the settle timer's expiry reads STATUS. -/
def settleExpired (s : State) : State :=
  if s.tuner.settle.due Config.settleTime s.now then
    busAsk [.readStatus true] (s.onTuner fun t => { t with settle := none })
  else s

/-- R104: the watch reads STATUS every second. -/
def watchExpired (s : State) : State :=
  if s.tuner.watch.due Config.watchTime s.now then
    busAsk [.readStatus true] (s.onTuner fun t => { t with watch := some s.now })
  else s

/-! ## Source (R109) -/

/-- R109: the selected source by the owner. -/
def wantedSource (s : State) : Source := if s.mech.owner.isTimer then .tuner else s.tuner.hostSource

/-- R109, R114, R122, R38: a change of the selected source is reported to LDD and SERVO. -/
def sourceFollow (s : State) : State :=
  if wantedSource s = s.tuner.selected then s
  else testReference (lddActivity (labelSideReset (s.onTuner fun t => { t with selected := wantedSource s })))

/-- R109: SOURCE. -/
def sourceRequest (src : Source) (s : State) : State × Answer :=
  if s.mech.owner.isTimer then refuse s .timerActive
  else
    let s1 := sourceFollow (s.onTuner fun t => { t with hostSource := src })
    done s1 [byte (sourceCode s1.tuner.selected)]

/-! ## Host tunes (R108) -/

/-- Checks 1 and 2 of R108 and R111. -/
def tuneBarred (s : State) : Option Reason :=
  if s.mech.owner.isTimer then some .timerActive
  else if s.mech.owner = .panel ∧ inSession s.mech.state = true then some .recording
  else none

/-- R108: what a request that passes does. DESIGN CHOICE (log 46): while an accepted tune waits for the transaction in flight, one
equal to it is answered ACCEPTED and supersedes it, though the state still reads LOCKED. -/
def hostTune (sel : Selection) (s : State) : State × Answer :=
  let box := match sel with | .preset _ => true | _ => false
  match s.tuner.state with
  | .off => done (requestTune sel none box s) (selectionBytes sel ++ [byte TunerState.off.code])
  | _ =>
    if s.tuner.selection = some sel ∧ s.tuner.state = .locked ∧ s.tuner.next = .none then
      done s (selectionBytes sel ++ be16 (s.tuner.divider.getD 0) ++
        [byte (s.tuner.band.getD .low).code, sbyte s.tuner.aft, byte (s.tuner.level.getD 0)])
    else accepted (requestTune sel (some { timer := false, box := .none }) box s) (selectionBytes sel)

/-- R108: TUNE PRESET. -/
def tunePreset (n : Nat) (s : State) : State × Answer :=
  match tuneBarred s with
  | some r => refuse s r
  | none => if n = 0 ∨ 80 < n ∨ (s.preset n).isNone then refuse s .invalidArg else hostTune (.preset n) s

/-- Plans T and C by their codes. -/
def planOf (n : Nat) : Option Plan :=
  match n with
  | 0 => some .t | 1 => some .c | _ => none

/-- R108: TUNE CHANNEL. -/
def tuneChannel (plan c : Nat) (s : State) : State × Answer :=
  match tuneBarred s with
  | some r => refuse s r
  | none =>
    match planOf plan with
    | none => refuse s .invalidArg
    | some p => hostTune (.channel p (correctChannel p c)) s

/-- R108: TUNE DIRECT. -/
def tuneDirect (f : Nat) (s : State) : State × Answer :=
  match tuneBarred s with
  | some r => refuse s r
  | none => hostTune (.direct (clampNat 704 13920 f)) s

/-- The preset is used with its skip flag clear. -/
def State.steppable (s : State) (n : Nat) : Bool :=
  match s.preset n with
  | none => false
  | some p => !p.skip

/-- R108: the numbers from a preset upward, wrapping from 80 to 1, the preset itself last; with none, from 1. -/
def upOrder (from0 : Option Nat) : List Nat :=
  match from0 with
  | none => (List.range 80).map (· + 1)
  | some n => (List.range 80).map fun k => (n + k) % 80 + 1

/-- R108: the numbers downward, wrapping from 1 to 80, the preset itself last; with none, from 80. -/
def downOrder (from0 : Option Nat) : List Nat :=
  match from0 with
  | none => (List.range 80).map (80 - ·)
  | some n => (List.range 80).map fun k => (n + 78 + (80 - k)) % 80 + 1

/-- R108: TUNE UP and DOWN, by the order in which presets are tried. -/
def tuneStep (order : List Nat) (s : State) : State × Answer :=
  match tuneBarred s with
  | some r => refuse s r
  | none =>
    match order.find? s.steppable with
    | none => refuse s .notFound
    | some n => hostTune (.preset n) s

/-- The present preset selection. -/
def State.selectedPreset (s : State) : Option Nat :=
  match s.tuner.selection with
  | some (.preset n) => some n
  | _ => none

/-! ## TIMER tunes (R110) -/

/-- R110: SCHED's tune of a preset; none where the preset is unused. -/
def timerTune (n : Nat) (s : State) : Option State :=
  match s.preset n with
  | none => none
  | some _ => some (requestTune (.preset n) (some { timer := true, box := .none }) false s)

/-! ## The preset table (R107) -/

/-- Plans by their codes. -/
def anyPlanOf (n : Nat) : Option Plan :=
  match n with
  | 0 => some .t | 1 => some .c | 2 => some .direct | _ => none

/-- R107: a name character outside the printable range becomes a space. -/
def printable (b : Byte) : Byte := if 0x20 ≤ b.toNat ∧ b.toNat ≤ 0x7E then b else 0x20

/-- R107, R212: check 2 of a used entry, and what is stored of it. -/
def presetOfRecord (r : PresetRecord) : Option Preset :=
  match anyPlanOf r.plan with
  | none => none
  | some p =>
    if 5 < r.nameLength ∨ (r.sourceBox = true ∧ (r.boxChannel = 0 ∨ 999 < r.boxChannel)) ∨
        (r.codePresent = true ∧ 4095 < r.networkCode) then none
    else some
      { plan := p, channel := correctChannel p r.channel, fine := clampInt (-32) 31 r.fine, aftOff := r.aftOff, skip := r.skip,
        name := (r.name.take r.nameLength).map printable, box := if r.sourceBox then some r.boxChannel else none,
        networkCode := if r.codePresent then some r.networkCode else none }

/-- The preset record in 15 bytes (section 11.9). -/
def presetBytes (p : Option Preset) : List Byte :=
  match p with
  | none => List.replicate 15 0
  | some p =>
    let bit (b : Bool) (n : Nat) : Nat := if b then n else 0
    [byte (1 + bit p.aftOff 2 + bit p.skip 4 + bit p.box.isSome 8 + bit p.networkCode.isSome 16), byte p.plan.code] ++
      be16 p.channel ++ [sbyte p.fine, byte p.name.length] ++ p.name ++ List.replicate (5 - p.name.length) 0x20 ++
      be16 (p.box.getD 0) ++ be16 (p.networkCode.getD 0)

/-- R107: the preset is the selection or its tuned-on preset. -/
def State.presetInUse (s : State) (n : Nat) : Bool :=
  match s.selectedPreset with
  | none => false
  | some k =>
    decide (k = n) ||
      decide (n = match s.tuner.target with
        | some g => (match g.learn with | some l => l | none => s.tunedOn k)
        | none => s.tunedOn k)

/-- R107: a written preset that is the selection, or its tuned-on preset, is retuned at once. DESIGN CHOICE (log 47): the channel
sequence of a host tune so superseded, where BOX has not been handed it yet, goes out at the retune's tune start. -/
def retuneWritten (s : State) : State :=
  match s.tuner.selection, s.tuner.state with
  | none, _ => s
  | some _, .off => s
  | some _, .fault => s
  | some _, .scanning => s
  | some sel, _ => requestTune sel none s.tuner.boxSend s

/-- R107: the selection has been written unused. DESIGN CHOICE: a tune of it in flight is closed SUPERSEDED (log 47); a
READ in flight is neither judged nor its failure counted (log 29). -/
def dropSelection (s : State) : State :=
  let s1 := (closeTune .superseded s).onTuner fun t =>
    { t with selection := none, boxSend := false, scan := t.scan.map fun c => { c with saved := none } }
  match s.tuner.state with
  | .tuning => toNothing true (busAbandon s1)
  | .aft => toNothing true (busAbandon s1)
  | .locked => toNothing true (busAbandon s1)
  | .noSignal => toNothing true (busAbandon s1)
  | _ => s1

/-- R107: PRESET_WRITE. DESIGN CHOICE (log 26): the data of its reply is laid out as that of PRESET_READ, the preset number before the
15-byte record as stored; section 11.9 lays out the reply to PRESET_READ alone. -/
def presetWrite (n : Nat) (r : PresetRecord) (s : State) : State × Answer :=
  if n = 0 ∨ 80 < n then refuse s .invalidArg
  else if r.used = true ∧ (presetOfRecord r).isNone = true then refuse s .invalidArg
  else if s.presetInUse n = true ∧ s.mech.owner.isTimer = true then refuse s .busy
  else if s.presetInUse n = true ∧ s.mech.owner = .panel ∧ inSession s.mech.state = true then refuse s .recording
  else
    let stored := if r.used then presetOfRecord r else none
    let s1 := s.onTuner fun t => { t with presets := t.presets.set (n - 1) stored }
    let s2 := if s.presetInUse n then
        (if s.selectedPreset = some n ∧ stored = none then dropSelection s1 else retuneWritten s1)
      else s1
    done s2 (byte n :: presetBytes stored)

/-- R107: PRESET_READ. -/
def presetRead (n : Nat) (s : State) : State × Answer :=
  if n = 0 ∨ 80 < n then refuse s .invalidArg else done s (byte n :: presetBytes (s.preset n))

/-! ## Scan requests (R111) -/

/-- R111: START. DESIGN CHOICE (log 29): a READ in flight is neither judged nor its failure counted. -/
def scanStart (plan : Nat) (s : State) : State × Answer :=
  match tuneBarred s with
  | some r => refuse s r
  | none =>
    match planOf plan with
    | none => refuse s .invalidArg
    | some p =>
      match s.tuner.state with
      | .off => refuse s .badState
      | .fault => refuse s .tunerFault
      | .scanning => refuse s .busy
      | .init => refuse s .busy
      | _ =>
        if (freePreset s.tuner).isNone then refuse s .tableFull
        else
          let s1 := busAbandon (tunerTimersOff (closeTune .superseded s))
          let c : Scan := { plan := p, next := lowestChannel p, stored := 0, saved := s.tuner.selection, last := none,
                            stage := .running, timer := none }
          let s2 := tunerTo .scanning (s1.onTuner fun t => { t with scan := some c, target := none, boxSend := false })
          accepted (if s2.tuner.bus = [] then scanChannel s2 else s2.onTuner fun t => { t with next := .scanChannel })

/-- R111: STOP. -/
def scanStop (s : State) : State × Answer :=
  match s.tuner.state with
  | .scanning => done (scanEnd .stopped s)
  | _ => refuse s .badState

/-! ## Supply loss and reset (R97, R115) -/

/-- R97: the tuner enters OFF. The sequence of a host TUNE stored in OFF still waits for its first tune start (R108). -/
def tunerOff (s : State) : State :=
  let s1 := (tunerTimersOff s).onTuner fun t => { t with bus := [], next := .none, failures := 0 }
  let s2 := scanDone .supply (closeTune .supply (tunerTo .off s1))
  s2.onTuner fun t => { t with divider := none, band := none, standby := none, target := none }

/-- R115: TUNER after PIN and RESTART. DESIGN CHOICE (log 47): a channel sequence that waits for the first tune start of a selection
stored in OFF (R108) is dropped. -/
def tunerKept (t : Tuner) : Tuner :=
  { Tuner.reset with presets := t.presets, hostSource := t.hostSource, selected := t.hostSource,
                     selection := match t.scan with | some c => c.saved | none => t.selection }

end Sys2Proof.Machine
end

