-- ==== Sys2Proof/Machine/Power.lean ====
section
/-!
DEFINITION. Sys2Proof/Machine/Power.lean: the Power Controller (chapter 10): the supply and its phases, wakes, standby requests, claims,
and the POWER requests.
-/

namespace Sys2Proof.Machine

/-! ## The power state (R189) -/

/-- A change of power state with its POWER_STATE notice; a POWER request of operation ON that waits for ON is closed by it. -/
def powerTo (p : Power) (cause : PowerCause) (s : State) : State :=
  let s1 := s.onPwr fun x => { x with power := p, onOpen := if p = .on then false else x.onOpen }
  notify (.powerState p s.pwr.power cause .none .none) s1

/-- R197: a claim, a wake that sets the ON mark or a standby request clears the post-reset standby mark. -/
def clearResetMark (s : State) : State := s.onPwr fun x => { x with resetMark := false }

/-! ## Supply-good (R188) -/

/-- R188, R191, R192: the phase becomes UP; a waiting ON mark makes the state ON; the blocks act on supply-good. -/
def supplyUp (s : State) : State :=
  let s1 := s.onPwr fun x => { x with phase := .up, timer := none }
  let s2 := if s1.pwr.onMark then powerTo .on s1.pwr.onCause (s1.onPwr fun x => { x with onMark := false }) else s1
  report .supplyUp (tunerInit (recover s2))

/-- R188: SUP_GOOD is high: it brings a supply that is being raised up. -/
def supplyRises (s : State) : State := if s.pwr.phase = .raising then supplyUp s else s

/-- R188: a raise begins. -/
def raiseBegin (s : State) : State := s.onPwr fun x => { x with phase := .raising, timer := some s.now }

/-- R188: the supply is raised, and is up at once where SUP_GOOD is high already. -/
def supplyRaise (s : State) : State := if s.pins.supGood then supplyUp (raiseBegin s) else raiseBegin s

/-- The number of the occurrence that holds the recorder. -/
def State.holderTag (s : State) : Option Nat := s.sched.holder.map Holder.tag

/-- R30, R51, R72, R94, R97, R128, R174: supply-good has deasserted (the phase is OFF). -/
def supplyGone (s : State) : State := report (.supplyLost s.holderTag) (tunerOff (mechSupplyLost (servoSupplyLost s)))

/-- R183, R189: what every entry to STANDBY does, before its notice. -/
def enterStandby (s : State) : State :=
  boxFlush (s.onPwr fun x => { x with power := .standby, onMark := false, resetMark := false, timer := none, onOpen := false,
                                      stopOpen := false })

/-- R188: the supply timer expires: the raise fails. -/
def supplyTimeout (s : State) : State :=
  if s.pwr.phase = .raising ∧ s.pwr.timer.due Config.supplyTime s.now = true then
    let s1 := enterStandby (s.onPwr fun x => { x with phase := .off })
    report (.supplyLost s.holderTag) (notify (.supplyFault s.pwr.power s.pwr.onMark s.sched.holder.isSome) s1)
  else s

/-- R190: SUP_GOOD falls in UP or STOPPING. -/
def supplyFailed (s : State) : State :=
  if s.supplyGood then
    let stopping := decide (s.pwr.phase = .stopping)
    let s1 := enterStandby (s.onPwr fun x => { x with phase := .off })
    supplyGone (notify (.supplyFail s.pwr.power s.mech.owner stopping) s1)
  else s

/-! ## Wake (R191, R192) -/

/-- R191: a wake finds the deck in STANDBY with the phase OFF; with the phase RAISING it changes nothing. -/
def State.asleep (s : State) : Bool := decide (s.pwr.power = .standby) && decide (s.pwr.phase = .off)

/-- R191: the ON mark of a wake, with the cause kept for POWER_STATE. -/
def markOn (cause : PowerCause) (s : State) : State :=
  (clearResetMark s).onPwr fun x => { x with onMark := true, onCause := cause }

/-- R191: a wake by the power key or the cassette. -/
def wake (cause : PowerCause) (s : State) : State := if s.asleep then supplyRaise (markOn cause s) else s

/-- R191: a wake by a frame, which is handled with the supply still down. -/
def wakeByFrame (s : State) : State := if s.asleep then raiseBegin (markOn .link s) else s

/-- R188: SUP_GOOD, high already when a frame began the raise, is acted on once the frame has been handled. DESIGN CHOICE (log 51). -/
def supplySeen (woken : Bool) (s : State) : State := if woken && s.pins.supGood then report .supplyHigh s else s

/-- R192: the ON mark is set in TIMER_ON; ON at once if the supply is up. DESIGN CHOICE (log 50): where the mark is set already during
the raise, the cause of the later event takes the place of the one kept for POWER_STATE. -/
def wakeTimerOn (cause : PowerCause) (s : State) : State :=
  let s1 := clearResetMark s
  match s.pwr.phase with
  | .up => powerTo .on cause s1
  | _ => s1.onPwr fun x => { x with onMark := true, onCause := cause }

/-! ## Standby (R193) -/

/-- R195: a POWER ON request that waits is closed when a standby request clears the ON mark. -/
def closeOn (changed : Bool) (cause : PowerCause) (s : State) : State :=
  if s.pwr.onOpen then
    let s1 := s.onPwr fun x => { x with onOpen := false }
    if changed then s1 else notify (.powerState s.pwr.power s.pwr.power cause .none .none) s1
  else s

/-- R193: the release at the end of a standby stop; its notice carries the stop result, and the fault code after a failure. -/
def stopRelease (ok : Bool) (s : State) : State :=
  if s.pwr.phase = .stopping then
    let s1 := supplyGone (s.onPwr fun x => { x with phase := .off })
    notify (.powerState .standby s.pwr.power s.pwr.stopCause (if ok then .done else .jammed) s.mech.fault) (enterStandby s1)
  else s

/-- R193, R31: the standby stop; one that MECH finishes at once is released at once. -/
def standbyStop (cause : PowerCause) (s : State) : State :=
  let s1 := mechStandbyStop (s.onPwr fun x => { x with phase := .stopping, stopCause := cause })
  if s1.mech.standbyStop then s1 else stopRelease (decide (s1.mech.state ≠ .jammed)) s1

/-- R193: a standby request. -/
def standbyRequest (cause : PowerCause) (s : State) : State :=
  let s1 := clearResetMark s
  match s.pwr.power, s.pwr.phase with
  | .standby, .raising => closeOn false cause (s1.onPwr fun x => { x with phase := .off, onMark := false, timer := none })
  | .standby, _ => s1
  | _, .stopping => s1
  | p, ph =>
    if s.mech.owner.isTimer then
      let s2 := s1.onPwr fun x => { x with onMark := false }
      let s3 := if p = .timerOn then s2 else powerTo .timerOn cause s2
      closeOn (decide (p ≠ .timerOn)) cause s3
    else if ph = .raising then
      notify (.powerState .standby p cause .none .none) (enterStandby (s1.onPwr fun x => { x with phase := .off }))
    else standbyStop cause s1

/-! ## Claims (R194) -/

/-- R194: SCHED's grant claims power. -/
def powerClaim (s : State) : State :=
  let s1 := clearResetMark s
  match s.pwr.power, s.pwr.phase with
  | .standby, .off => supplyRaise (powerTo .timerOn .claim s1)
  | .standby, _ => powerTo .timerOn .claim s1
  | p, .stopping =>
    let s2 := (s1.onPwr fun x => { x with phase := .up, power := .timerOn, stopOpen := false }).onMech
      fun m => { m with standbyStop := false }
    if p ≠ .timerOn ∨ s.pwr.stopOpen = true then notify (.powerState .timerOn p .claim .none .none) s2 else s2
  | _, _ => s1

/-! ## Events and requests (R191 to R195) -/

/-- R191, R192, R193: a power-key closure held for 30 ms. -/
def powerKey (s : State) : State :=
  match s.pwr.power with
  | .standby => if s.link.settings.keyWake then wake .key s else s
  | .timerOn =>
    if s.pwr.phase = .stopping then s else if s.link.settings.keyWake then wakeTimerOn .key s else s
  | .on => if s.pwr.phase = .stopping then s else standbyRequest .key s

/-- R195: power state, phase and ON mark. -/
def powerData (s : State) : List Byte := [byte s.pwr.power.code, byte s.pwr.phase.code, flag s.pwr.onMark]

/-- R195: POWER ON. -/
def powerOn (s : State) : State × Answer :=
  match s.pwr.power, s.pwr.phase with
  | _, .stopping => refuse s .busy (powerData s)
  | .on, _ => done s (powerData s)
  | .timerOn, .up => let s1 := wakeTimerOn .request s; done s1 (powerData s1)
  | .timerOn, _ =>
    let s1 := (wakeTimerOn .request s).onPwr fun x => { x with onOpen := true }
    accepted s1 (powerData s1)
  | .standby, _ =>
    let s1 := supplySeen s.asleep (wakeByFrame (s.onPwr fun x => { x with onOpen := true }))
    accepted s1 (powerData s1)

/-- R195: POWER STANDBY: DONE where the request settles at once, ACCEPTED where a standby stop runs on (log 20). -/
def powerStandby (s : State) : State × Answer :=
  let s1 := standbyRequest .request s
  if s.pwr.phase ≠ .stopping ∧ s1.pwr.phase = .stopping then
    let s2 := s1.onPwr fun x => { x with stopOpen := true }
    accepted s2 (powerData s2)
  else done s1 (powerData s1)

/-- R195: READ. -/
def powerRead (s : State) : State × Answer :=
  done s (powerData s ++ [flag s.pwr.resetMark, flag s.link.settings.keyWake, flag s.link.settings.casWake] ++
    bootPayload s.pwr.record)

/-- R197: MECH's recovery run has ended. -/
def powerRecovered (s : State) : State :=
  if s.pwr.resetMark then
    match s.mech.owner with
    | .none => standbyRequest .reset s
    | .panel => clearResetMark s
    | .timer _ => s
  else s

end Sys2Proof.Machine
end

