-- ==== Sys2Proof/Machine/Search.lean ====
section
/-!
DEFINITION. Sys2Proof/Machine/Search.lean: the searches of the Mark Unit (sections 4.5 and 4.6): their commands, settling, ends and
cancellation.
-/

namespace Sys2Proof.Machine

/-- The search record is replaced. -/
def setSearch (q : Option Search) (s : State) : State := s.onMark fun m => { m with search := q }

/-- R89, R91: the count a SEARCH_END carries: marks met by an index search, marks played by a scan. DESIGN CHOICE (log 44): the
other kinds count nothing, and theirs is absent. -/
def Search.counted (q : Search) : Option Nat :=
  match q.kind with
  | .index => some q.count | .scan => some q.count | _ => none

/-- R89, R93: the search ends with SEARCH_END. -/
def searchEnd (r : SearchResult) (why : SearchWhy) (s : State) : State :=
  match s.mark.search with
  | none => s
  | some q => notify (.searchEnd q.kind r why s.pos.counter s.pos.approx q.counted) (setSearch none s)

/-- R92: the search is cancelled, by the host or preempted by a claim. -/
def searchCancel (preempted : Bool) (s : State) : State :=
  match s.mark.search with
  | none => s
  | some q => notify (.searchCancelled q.kind preempted) (setSearch none s)

/-- R87: the search in its next state issues a command of origin SEARCH; a command answered DONE is closed at once, and one that
MECH refuses ends the search (R93). -/
def searchIssue (q : Search) (c : MechCmd) (s : State) : State :=
  let r := submit { what := c, origin := .search, tag := q.tag } (setSearch (some { q with waiting := some c }) s)
  match r.2 with
  | .accepted => r.1
  | .done => report (.closedSearch q.tag c (.done r.1.mech.state)) r.1
  | .refused why => searchEnd .failed (.reason why) r.1

/-- R89: settling is complete. -/
def searchSettled (q : Search) (s : State) : State :=
  if q.kind = .scan ∨ q.playAfter = true then searchIssue { q with state := .playing, waiting := none } .play s
  else searchEnd .found .none s

/-- R88, R89, R90: a target is known or reached; MARK stops the tape and settling begins. -/
def searchSettle (q : Search) (s : State) : State := searchIssue { q with state := .stopFirst, timer := none } .stop s

/-- R89, step 1: the tape has stopped. -/
def searchCompare (q : Search) (t : Int) (s : State) : State :=
  if t < s.pos.counter then searchIssue { q with state := .moving } .review s
  else if s.pos.counter < t then searchIssue { q with state := .moving } .cue s
  else searchSettled q s

/-- R89, R91: a search command has been closed MECH_DONE. DESIGN CHOICE (log 44): the count of marks played saturates at 255. -/
def searchAdvance (q : Search) (s : State) : State :=
  let q1 := { q with waiting := none }
  let s1 := setSearch (some q1) s
  match q.state with
  | .winding => s1
  | .moving => s1
  | .scanPlay => s1
  | .stopFirst => (match q.target with | none => s1 | some t => searchCompare q1 t s1)
  | .stopLast => searchSettled q1 s1
  | .playing =>
    if q.kind = .scan then
      setSearch (some { q1 with state := .scanPlay, count := satInc 255 q.count, timer := some s.now }) s1
    else searchEnd .found .none s1

/-- R93: a search command has been closed. -/
def searchClosed (tag : Nat) (c : MechCmd) (r : CloseResult) (s : State) : State :=
  match s.mark.search with
  | none => s
  | some q =>
    if q.tag = tag ∧ q.waiting = some c then
      match r with
      | .done _ => searchAdvance q s
      | .refused why => searchEnd .failed (.reason why) s
      | .superseded => s
      | .discarded .endLeader => searchEnd .notFound .none s
      | .discarded why => searchEnd .failed (.cause why) s
    else s

/-- R93: a leader ends the search. -/
def searchLeader (s : State) : State := searchEnd .notFound .none s

/-- R93: with no search command in flight, the mechanism has left the search's motion. -/
def searchInterrupted (why : SearchWhy) (s : State) : State :=
  match s.mark.search with
  | none => s
  | some q => if q.waiting.isNone then searchEnd .interrupted why s else s

/-- R89: the counter has come to or passed a target in the direction of motion. -/
def targetReached (s : State) (t : Int) : Bool :=
  match s.pos.motion with
  | none => false
  | some m => if m.forward then decide (t ≤ s.pos.counter) else decide (s.pos.counter ≤ t)

/-- R89: after a counted frame or a correction, the target of a counter search or of settling may be reached. -/
def searchCounter (s : State) : State :=
  match s.mark.search with
  | none => s
  | some q =>
    match q.target with
    | none => s
    | some t =>
      match q.state with
      | .winding => if q.kind = .counter ∧ q.waiting.isNone ∧ targetReached s t = true then searchSettle q s else s
      | .moving => if q.waiting.isNone ∧ targetReached s t = true then searchIssue { q with state := .stopLast } .stop s else s
      | _ => s

/-- R88: an INDEX mark that an index search counts. -/
def counts (q : Search) (p : Int) : Bool := decide (0 < q.n) || decide (p < q.start - 150)

/-- R88, R91: a mark handled is passed to the search with the position it is taken at. DESIGN CHOICE (log 44): the test of the start
position less 150 takes that position too, the matched entry's where the read was corrected. -/
def searchMark (type : MarkType) (p : Int) (s : State) : State :=
  match s.mark.search with
  | none => s
  | some q =>
    if q.state = .winding ∧ type = .index then
      match q.kind with
      | .index =>
        if counts q p then
          let q1 := { q with count := q.count + 1 }
          if q1.count = q.n.natAbs then searchSettle { q1 with target := some p } s else setSearch (some q1) s
        else s
      | .scan => searchSettle { q with target := some p } s
      | _ => s
    else s

/-- R77, R88: the marks of a run are handled one by one, in tape order (log 19). -/
def handleMarks : List MarkRead → State → State
  | [], s => s
  | r :: rs, s =>
    let h := handleMark r s
    handleMarks rs (searchCounter (searchMark r.type h.2 h.1))

/-- R90: the last pulse position of a blank search. -/
def searchPulse (s : State) : State :=
  match s.mark.search with
  | none => s
  | some q =>
    if q.kind = .blank ∧ q.state = .winding ∧ s.mech.state = .cue then setSearch (some { q with lastPulse := s.pos.counter }) s
    else s

/-- R90: the 2 s of a blank search have run. DESIGN CHOICE (log 44): a target below the counter range is clamped to it, as R87 and
R89 clamp the other targets. -/
def blankTimeout (s : State) : State :=
  match s.mark.search with
  | none => s
  | some q =>
    if q.kind = .blank ∧ q.state = .winding ∧ q.timer.due Config.blankTime s.now = true then
      searchSettle { q with target := some (s.clampCounter (q.lastPulse - 3 * (s.std.frames : Int))), playAfter := false } s
    else s

/-- R91: the 8 s of a scan have run. -/
def scanPlayTimeout (s : State) : State :=
  match s.mark.search with
  | none => s
  | some q =>
    if q.kind = .scan ∧ q.state = .scanPlay ∧ q.timer.due Config.scanPlayTime s.now = true then
      searchIssue { q with state := .winding, target := none, timer := none } .fwind s
    else s

/-! ## Requests (R87) -/

/-- The checks of R87 but the last. -/
def searchBarred (s : State) : Option Reason :=
  if s.mech.state = .empty then some .noCassette
  else if s.mech.owner.isTimer then some .timerActive
  else if s.mark.search.isSome then some .busy
  else none

/-- R87: a fresh search record. -/
def newSearch (k : SearchKind) (s : State) : Search :=
  { kind := k, state := .winding, n := 0, count := 0, start := s.pos.counter, target := none, playAfter := false,
    lastPulse := s.pos.counter, timer := none, tag := s.mark.nextTag, waiting := none }

/-- The data of a refusal by MECH: the fault code with MECH_FAULT (R5). -/
def refusalData (r : Reason) (s : State) : List Byte :=
  match r with
  | .mechFault => [byte s.mech.fault.code]
  | _ => []

/-- R87: the first command is issued; if MECH refuses it the search stays NONE. -/
def searchStart (q : Search) (c : MechCmd) (data : List Byte) (s : State) : State × Answer :=
  let s1 := setSearch (some { q with waiting := some c }) (s.onMark fun m => { m with nextTag := m.nextTag + 1 })
  let r := submit { what := c, origin := .search, tag := q.tag } s1
  match r.2 with
  | .refused why => refuse s why (refusalData why s)
  | .accepted => accepted r.1 data
  | .done => accepted (setSearch (some { q with waiting := none }) r.1) data

/-- R87: INDEX_SEARCH. -/
def indexSearch (n : Int) (play : Bool) (s : State) : State × Answer :=
  match searchBarred s with
  | some r => refuse s r
  | none =>
    if n = 0 then refuse s .invalidArg
    else
      searchStart { newSearch .index s with n := clampInt (-99) 99 n, playAfter := play } (if 0 < n then .fwind else .rwind) [] s

/-- R87: COUNTER_SEARCH. DESIGN CHOICE (log 44): a refusal carries no approximate flag, as section 11.3 has it of refusals. -/
def counterSearch (target : Int) (play : Bool) (s : State) : State × Answer :=
  match searchBarred s with
  | some r => refuse s r
  | none =>
    let t := s.clampCounter target
    if t = s.pos.counter then done s [flag s.pos.approx]
    else
      searchStart { newSearch .counter s with target := some t, playAfter := play }
        (if s.pos.counter < t then .fwind else .rwind) [flag s.pos.approx] s

/-- R87: BLANK_SEARCH. -/
def blankSearch (s : State) : State × Answer :=
  match searchBarred s with
  | some r => refuse s r
  | none => searchStart (newSearch .blank s) .cue [] s

/-- R87: INDEX_SCAN. -/
def indexScan (s : State) : State × Answer :=
  match searchBarred s with
  | some r => refuse s r
  | none => searchStart (newSearch .scan s) .fwind [] s

end Sys2Proof.Machine
end

