-- ==== Sys2Proof/Machine/Sched.lean ====
section
/-!
DEFINITION. Sys2Proof/Machine/Sched.lean: the Programme Scheduler (chapter 8): occurrences, due evaluation and the arbiter, preparation
and recording, label following, automatic speed, the protect policy, ends of an occurrence, and clock steps. Its requests stand in
the Programme file.
-/

namespace Sys2Proof.Machine

/-! ## Slots and occurrences (R142 to R144) -/

/-- A slot by its number. -/
def State.slot (s : State) (k : Nat) : Slot := s.sched.slots.getD (k - 1) Slot.reset

/-- Update a slot. -/
def onSlot (k : Nat) (f : Slot → Slot) (s : State) : State := s.onSched fun c => { c with slots := c.slots.modify (k - 1) f }

/-- Update the occurrence record of a slot. -/
def onOcc (k : Nat) (f : Occurrence → Occurrence) (s : State) : State := onSlot k (fun t => { t with occ := t.occ.map f }) s

/-- Update what is kept of the holder. -/
def onHolder (f : Holder → Holder) (s : State) : State := s.onSched fun c => { c with holder := c.holder.map f }

/-- The date of a slot's occurrence. -/
def Slot.date (t : Slot) : Option Date := t.occ.map Occurrence.date

/-- R142: an entry changes state, with its notice. -/
def slotTo (k : Nat) (new : EntryState) (s : State) : State :=
  let t := s.slot k
  if t.state = new then s
  else notify (.entryState k t.state new t.date none) (onSlot k (fun x => { x with state := new }) s)

/-- R143: the stop crosses midnight. -/
def Entry.crosses (e : Entry) : Bool := decide (e.stop < e.start)

/-- R144: the occurrence record of an entry on a day counted from 1990-01-01. -/
def makeOcc (e : Entry) (day : Nat) : Occurrence :=
  let start : Int := (day * 86400 + e.start * 60 : Nat)
  let stop : Int := if e.start < e.stop then (day * 86400 + e.stop * 60 : Nat) else ((day + 1) * 86400 + e.stop * 60 : Nat)
  let close : Int := start + 14400
  { date := dateOfDay day, start := start, stop := stop, claim := if e.labelFollow then start - 3630 else start - 90,
    lead := start - 90, winOpen := start - 3600, winClose := close, endAt := if e.labelFollow then max stop close else stop,
    labelSeen := false, winSeen := false, heldOut := false, tested := false, mode := if e.labelFollow then .label else .fixed,
    late := false, started := false, recorded := 0, speed := match e.speed with | .fixed v => v | .auto => .s, checks := 0 }

/-- R143: the day is a candidate date of the entry. -/
def candidateDay (e : Entry) (day : Nat) : Bool :=
  decide (day ≤ 36524) && !(decide (day = 36524) && e.crosses) &&
    (match e.repeats with
      | .once => (match e.date with | none => false | some d => decide (dayNumber d = day))
      | .daily => true
      | .weekdays => decide (day % 7 < 5)
      | .weekly => (match e.weekday with | none => false | some w => decide (day % 7 = w)))

/-- R155: an occurrence formed at a reading at or after its window opening has no opening to come: VALID is not judged for it
(log 32). -/
def Occurrence.formedAt (reading : Nat) (o : Occurrence) : Occurrence :=
  { o with winSeen := decide (o.mode = .label) && decide (o.winOpen * 1024 ≤ (reading : Int)) }

/-- R143: the first of some days on which a candidate occurrence ends after a reading in 1/1024 s. -/
def firstOcc (e : Entry) (reading : Nat) (days : List Nat) : Option Occurrence :=
  (days.find? fun d => candidateDay e d && decide ((reading : Int) < (makeOcc e d).endAt * 1024)).map
    fun d => (makeOcc e d).formedAt reading

/-- R143: the next occurrence, its date later than the last occurrence date. An occurrence that ends after the reading starts
yesterday at the earliest, and a repeat has a candidate in any eight days. -/
def nextOcc (e : Entry) (last : Option Date) (reading : Nat) : Option Occurrence :=
  let after := match last with | none => 0 | some d => dayNumber d + 1
  match e.repeats with
  | .once => (match e.date with
    | none => none
    | some d => if after ≤ dayNumber d then firstOcc e reading [dayNumber d] else none)
  | _ =>
    let base := max after (reading / (86400 * 1024) - 1)
    firstOcc e reading ((List.range 10).map (base + ·))

/-- R143: the slot's next occurrence at the present reading. -/
def State.nextOf (s : State) (k : Nat) : Option Occurrence :=
  match (s.slot k).entry with
  | none => none
  | some e => nextOcc e (s.slot k).lastDate s.clock.reading

/-- R140, R143, R171: the next occurrence is computed; ARMED with one, DONE with none. -/
def arm (k : Nat) (s : State) : State :=
  let o := s.nextOf k
  let s1 := onSlot k (fun t => { t with occ := o }) s
  if o.isSome then slotTo k .armed s1 else slotTo k .done s1

/-- The entry holds the recorder. -/
def EntryState.holds (x : EntryState) : Bool :=
  match x with
  | .watching => true | .preparing => true | .recording => true | .held => true | _ => false

/-- An entry in ARMED or any later state with an occurrence. -/
def EntryState.active (x : EntryState) : Bool :=
  match x with
  | .armed => true | .blocked => true | .watching => true | .preparing => true | .recording => true | .held => true | _ => false

/-- The label-follow flag of a slot's entry. -/
def State.isLabel (s : State) (k : Nat) : Bool := match (s.slot k).entry with | none => false | some e => e.labelFollow

/-- The entry state of the holder; EMPTY without one. -/
def State.holderState (s : State) : EntryState :=
  match s.sched.holder with | none => .empty | some h => (s.slot h.slot).state

/-- The mode of the holder's occurrence. -/
def State.holderMode (s : State) : Option Mode :=
  match s.sched.holder with | none => none | some h => (s.slot h.slot).occ.map Occurrence.mode

/-! ## Recorded time (R169) -/

/-- R169: recorded ticks of a slot's occurrence, the running stretch in RECORD included. -/
def State.recordedTicks (s : State) (k : Nat) : Nat :=
  let kept := match (s.slot k).occ with | none => 0 | some o => o.recorded
  match s.sched.holder with
  | none => kept
  | some h => if h.slot = k then kept + (match h.recSince with | none => 0 | some t => s.clock.ticks - t) else kept

/-- R169: recorded seconds, saturating at 86,399. -/
def State.recordedSeconds (s : State) (k : Nat) : Nat := min (s.recordedTicks k / Config.ticksPerSecond) 86399

/-! ## Release and ends (R12, R150, R167) -/

/-- R153: a TIMER command of a slot. -/
def timerCmd (k tag : Nat) (w : Wanted) : Cmd := { what := w.what, paused := w.paused, origin := .timer k, tag := tag }

/-- R150: the recorder is released, with an evaluation to follow; a release made by R167 starts the post-hold timer (R168). DESIGN
CHOICE (log 49): where that evaluation grants another entry, the owner is NONE (or PANEL, R12) in between, and the selected source
goes back to the host source for that moment, with both of its changes reported (R109). -/
def release (ended : Bool) (k : Nat) (s : State) : State :=
  let powerOff := match (s.slot k).entry with | none => false | some e => e.powerOff
  let s1 := s.onMech fun m => { m with owner := releasedOwner m }
  let s2 := s1.onSched fun c =>
    { c with holder := none, stopAt := none, schedAt := none, windowAt := none, held := none, loss := none,
             post := if ended then some { since := s.now, slot := k, powerOff := powerOff } else none }
  report .evaluate (timepoint k .occurrenceEnd (sourceFollow s2))

/-- R167, step 1: the mechanism is settling in HALT by the ending event itself: an event it stops for (a leader, a servo fault) ends
the occurrence, and it shifts toward HALT with no command in flight. -/
def settlesByEvent (outcome : EndCode) (s : State) : Bool :=
  decide (s.mech.target = .halt) && s.mech.inFlight.isNone && (decide (outcome = .tapeEnd) || decide (outcome = .mechFault))

/-- R167, step 1: a STOP is called for: the mechanism is threaded, and neither JAMMED nor in HALT, where R167 leaves it, nor settling
there by the ending event. A STOP already in flight is no such event: a STOP issued behind it takes the place of what the slot holds
(R14), and runs in HALT by R7 (log 33). -/
def needsStop (outcome : EndCode) (s : State) : Bool :=
  match s.mech.state with
  | .halt => false
  | .shifting => !settlesByEvent outcome s
  | m => m.threaded

/-- R167: the occurrence of a slot ends. noStop is set where MECH carries out the host's own STOP (R13), where the deck is not to
be moved (R163), and after supply loss (R174). -/
def endOccurrence (k : Nat) (outcome : EndCode) (noStop : Bool) (s : State) : State :=
  let t := s.slot k
  let holds := t.state.holds
  let stops := !noStop && (decide (t.state = .preparing) || decide (t.state = .recording) || decide (t.state = .held)) && needsStop outcome s
  let seconds := s.recordedSeconds k
  let s1 := if stops then
      (submit (timerCmd k s.sched.nextTag { what := .stop }) (s.onSched fun c => { c with nextTag := c.nextTag + 1 })).1
    else s
  let started := match t.occ with | none => false | some o => o.started
  let s2 := if started then timepoint k .recordEnd s1 else s1
  let s3 := onSlot k (fun x => { x with lastDate := t.date, outcome := outcome, recSeconds := seconds }) s2
  let next := s3.nextOf k
  let new := if (match t.entry with | some e => decide (e.repeats = .once) | none => true) || next.isNone then EntryState.done else .armed
  let s4 := notify (.entryState k t.state new t.date (some (outcome, seconds)))
    (onSlot k (fun x => { x with state := new, occ := if new = .done then none else next }) s3)
  if holds then release true k s4 else s4

/-- The holder's occurrence ends. -/
def endHolder (outcome : EndCode) (s : State) : State :=
  match s.sched.holder with | none => s | some h => endOccurrence h.slot outcome false s

/-- R153: results and reports end the occurrence in these states. -/
def EntryState.ends (x : EntryState) : Bool :=
  match x with
  | .preparing => true | .recording => true | .held => true | _ => false

/-- R153: the outcome of a refusal. -/
def refusalOutcome (r : Reason) : EndCode :=
  match r with
  | .noCassette => .noCassette
  | .noTab => .noTab
  | .atEnd => .tapeEnd
  | _ => .mechFault

/-- R153: the outcome of a discarded command. -/
def discardOutcome (c : DiscardCause) : EndCode :=
  match c with
  | .endLeader => .tapeEnd
  | .supply => .power
  | _ => .mechFault

/-- R153: a refusal reaches the holder. -/
def holderRefused (r : Reason) (s : State) : State :=
  if s.holderState.ends then endHolder (refusalOutcome r) s else s

/-! ## Issuing commands (R153) -/

/-- R153: the next command still to be issued is issued when the one before is closed. A reply of DONE closes it, and SCHED acts on
that as on any other closing. -/
def pump (s : State) : State :=
  match s.sched.holder with
  | none => s
  | some h =>
    if h.waiting then s
    else match h.want with
      | [] => s
      | w :: rest =>
        let r := submit (timerCmd h.slot h.tag w) (onHolder (fun x => { x with want := rest }) s)
        match r.2 with
        | .accepted => onHolder (fun x => { x with waiting := true }) r.1
        | .done => report (.closedTimer h.tag w.what (.done r.1.mech.state)) (onHolder (fun x => { x with waiting := true }) r.1)
        | .refused why => holderRefused why r.1

/-- Commands are added for the holder and issued as they may be. -/
def wantMore (ws : List Wanted) (s : State) : State := pump (onHolder (fun h => { h with want := h.want ++ ws }) s)

/-- No more commands of the holder are wanted than these. -/
def wantOnly (ws : List Wanted) (s : State) : State := pump (onHolder (fun h => { h with want := ws }) s)

/-! ## RECORDING begins (R154, R158, R161) -/

/-- R154, R158: the entry becomes RECORDING; its timers are fixed on the time base from the present reading. -/
def enterRecording (s : State) : State :=
  match s.sched.holder with
  | none => s
  | some h =>
    match (s.slot h.slot).occ with
    | none => s
    | some o =>
      let late := o.late || (decide (o.mode = .fixed) && decide ((o.start + 1) * 1024 ≤ (s.clock.reading : Int)))
      let s1 := onOcc h.slot (fun x => { x with late := late }) s
      let s2 := s1.onSched fun c =>
        match o.mode with
        | .label => { c with schedAt := some (s.crystalAt (o.stop * 1024)), windowAt := some (s.crystalAt (o.winClose * 1024)) }
        | _ => { c with stopAt := some (s.crystalAt (o.stop * 1024)) }
      slotTo h.slot .recording (onHolder (fun x => { x with overrun := false }) s2)

/-- R154, R158, R159: with the deck ready, RECORD is issued without the start-paused flag. -/
def issueRecord (s : State) : State := wantMore [{ what := .record }] (onHolder (fun x => { x with awaitReady := false }) s)

/-- R154: RECORD is issued and the entry becomes RECORDING. -/
def beginRecording (s : State) : State := issueRecord (enterRecording s)

/-! ## The protect policy (R163 to R165) -/

/-- R163: the protect test of a policy: proceed, end with PROTECTED, or skip to a target. -/
inductive ProtectTest | proceed | ends | skipTo (target : Int)
  deriving DecidableEq, Repr

/-- R163, R165: the test at the counter. -/
def protectTest (p : Policy) (s : State) : ProtectTest :=
  match s.guardSpan with
  | none => .proceed
  | some q =>
    match p with
    | .stop => .proceed
    | .refuse => .ends
    | .skip => if q.opened then .ends else .skipTo (q.last + 48)

/-- R153: the commands that lead to REC_PAUSE. -/
def readyCommands (m : MState) : List Wanted :=
  if m = .play ∨ m = .still ∨ m = .cue ∨ m = .review then [{ what := .stop }, { what := .record, paused := true }]
  else [{ what := .record, paused := true }]

/-- R165: a skip starts: FWIND toward the target. -/
def startSkip (target : Int) (first : List Wanted) (s : State) : State :=
  wantMore (first ++ [{ what := .fwind }]) (onHolder (fun h => { h with skip := some target }) s)

/-- The policy of a slot's entry. -/
def State.policy (s : State) (k : Nat) : Policy := match (s.slot k).entry with | none => .stop | some e => e.policy

/-- R154, R158, R159, R161, R165: the deck is ready in REC_PAUSE. After a skip the protect test is applied again, whatever the
entry's state by then (log 32); an entry that a RUN has made RECORDING meanwhile records at once, and a HELD one stays. DESIGN CHOICE
(log 33): an end with PROTECTED here leaves the deck in REC_PAUSE, with no STOP (R163), where R167's first step would issue one. -/
def deckReady (s : State) : State :=
  match s.sched.holder with
  | none => s
  | some h =>
    let s0 := onHolder (fun x => { x with retest := false }) s
    match (if h.retest then protectTest (s.policy h.slot) s else .proceed) with
    | .ends => endOccurrence h.slot .spanProtected true s0
    | .skipTo t => startSkip t [] s0
    | .proceed =>
      match (s.slot h.slot).occ with
      | none => s0
      | some o =>
        match (s.slot h.slot).state, o.mode with
        | .preparing, .fixed => if s.reachedInstant o.start then beginRecording s0 else s0
        | .preparing, _ => beginRecording s0
        | .recording, _ => issueRecord s0
        | _, _ => s0

/-- The deck stands ready for the holder's preparation: its commands are all closed and the mechanism is in REC_PAUSE (R153). DESIGN
CHOICE (log 48): where RECORD start-paused was DONE in the host's RECORD, the deck is not ready while RECORD lasts. -/
def isReady (s : State) : Bool :=
  match s.sched.holder with
  | none => false
  | some h =>
    h.awaitReady && !h.awaitDeck && !h.waiting && h.want.isEmpty && decide (h.skip = none) && (s.slot h.slot).state.ends &&
      decide (s.mech.state = .recPause) && s.mech.junction.isNone

/-- R154: what waits for the deck to be ready goes on once it is. -/
def readyTest (s : State) : State := if isReady s then deckReady s else s

/-! ## Preparation (R151, R152) -/

/-- R151: the deck checks; the protect test is the fifth. -/
def deckChecks (k : Nat) (s : State) : Option EndCode :=
  if s.mech.state = .empty then some .noCassette
  else if s.mech.tab = false then some .noTab
  else if s.mech.state = .jammed then some .mechFault
  else if s.pins.leaderEnd then some .tapeEnd
  else if protectTest (s.policy k) s = .ends then some .spanProtected
  else match (s.slot k).entry with
    | none => some .noPreset
    | some e => if (s.preset e.preset).isNone then some .noPreset else none

/-- R152: the TIMER tune of the entry's preset, with the channel sequence of a BOX preset; none where TUNER refuses it. -/
def timerTuneEntry (k : Nat) (s : State) : Option State :=
  match (s.slot k).entry with
  | none => none
  | some e =>
    match timerTune e.preset s, s.preset e.preset with
    | some s1, some p =>
      match p.box, (s.slot k).occ with
      | some c, some o => some (timerSequence { slot := k, channel := c, deadline := o.start } s1)
      | _, _ => some s1
    | _, _ => none

/-- R151: power is up and MECH has no recovery pending or under way. -/
def deckKnown (s : State) : Bool := s.supplyGood && !s.mech.recoveryPending && !s.mech.recoveryRun

/-- R151 to R153, R165: preparation goes on once the deck is known: the checks, the tune of a fixed entry, and the commands. An entry
that a label has made HELD or RECORDING meanwhile is prepared on (R159, log 32). -/
def prepare (s : State) : State :=
  match s.sched.holder with
  | none => s
  | some h =>
    if h.awaitDeck && (s.slot h.slot).state.ends && deckKnown s then
      match deckChecks h.slot s with
      | some out => endOccurrence h.slot out (decide (out = .spanProtected)) s
      | none =>
        let s1 := onHolder (fun x => { x with awaitDeck := false, moved := true }) s
        match (if s.isLabel h.slot then some s1 else timerTuneEntry h.slot s1) with
        | none => endOccurrence h.slot .noPreset false s1
        | some s2 =>
          match protectTest (s.policy h.slot) s2 with
          | .skipTo t => startSkip t [] s2
          | _ => wantMore (readyCommands s2.mech.state) s2
    else s

/-- R151, R158: the entry enters PREPARING in a mode and preparation begins. -/
def beginPreparing (mode : Mode) (s : State) : State :=
  match s.sched.holder with
  | none => s
  | some h =>
    prepare (onHolder (fun x => { x with awaitDeck := true, awaitReady := true })
      (slotTo h.slot .preparing (onOcc h.slot (fun o => { o with mode := mode }) s)))

/-! ## Grants (R146, R150, R155) -/

/-- R150: what every grant does in the other blocks, in the table's order; the change of the owner is reported back (R11). -/
def grantEffects (k : Nat) (s : State) : State :=
  let s1 := searchCancel true (setOwner (.timer k) s)
  let s2 := scanEnd .preempted (sourceFollow s1)
  timepoint k .lead (powerClaim (s2.onSched fun c => { c with post := none }))

/-- R144, R157: what is kept of a new holder. -/
def newHolder (k tag now : Nat) : Holder :=
  { slot := k, tag := tag, want := [], waiting := false, awaitDeck := false, awaitReady := false, moved := false, skip := none,
    retest := false, awaitLive := false, watchSince := now, recSince := none, overrun := false }

/-- R146, R149, R151, R155, R173: a claim is granted; a fixed entry granted after its start instant carries the late mark. -/
def grant (k : Nat) (s : State) : State :=
  let s1 := s.onSched fun c =>
    { c with holder := some (newHolder k c.nextTag s.now), nextTag := c.nextTag + 1, stopAt := none, schedAt := none,
             windowAt := none, held := none, loss := none }
  if s.isLabel k then
    let s2 := grantEffects k (slotTo k .watching s1)
    match timerTuneEntry k s2 with
    | none => s2
    | some s3 => s3
  else
    let s2 := onOcc k (fun o => { o with late := o.late || decide (o.start * 1024 < (s.clock.reading : Int)) }) s1
    beginPreparing .fixed (grantEffects k (slotTo k .preparing s2))

/-! ## WATCHING (R155, R157, R159, R160) -/

/-- R159, R157: the entry returns to WATCHING in mode LABEL. DESIGN CHOICE (log 48): the scheduled-stop timer that R158 fixed is stopped
with the others and fixed anew when the entry records again; an overrun already marked stays until then (R161). -/
def backToWatching (s : State) : State :=
  match s.sched.holder with
  | none => s
  | some h =>
    let s1 := slotTo h.slot .watching (onOcc h.slot (fun o => { o with mode := .label }) s)
    let s2 := s1.onSched fun c => { c with stopAt := none, schedAt := none, windowAt := none, held := none, loss := none }
    onHolder (fun x => { x with awaitDeck := false, awaitReady := false, skip := none, retest := false, watchSince := s.now }) s2

/-- R160: the outcome where nothing recorded makes MISSED. -/
def unlessRecorded (out : EndCode) (k : Nat) (s : State) : EndCode := if 0 < s.recordedSeconds k then out else .missed

/-- R160: the window closes. -/
def windowClosed (s : State) : State :=
  match s.sched.holder with
  | none => s
  | some h =>
    match (s.slot h.slot).state with
    | .recording => endOccurrence h.slot .short false s
    | .preparing => endOccurrence h.slot .missed false s
    | _ => endOccurrence h.slot (unlessRecorded .short h.slot s) false s

/-- R157: the fallback test. -/
def fallbackTest (s : State) : State :=
  match s.sched.holder with
  | none => s
  | some h =>
    match (s.slot h.slot).occ with
    | none => s
    | some o =>
      if !o.tested && s.reachedInstant o.lead && passed Config.fallbackWatch s.now h.watchSince then
        if o.labelSeen then onOcc h.slot (fun x => { x with tested := true }) s
        else
          let late := decide (o.start * 1024 < (s.clock.reading : Int))
          beginPreparing .fixed (onOcc h.slot (fun x => { x with late := late }) s)
      else s

/-- R155: the flag of a label entry that is BLOCKED or holds the recorder is set when the label state is VALID at the window
opening, which is judged once (log 32). -/
def windowOpening (k : Nat) (s : State) : State :=
  match (s.slot k).occ with
  | none => s
  | some o =>
    if s.isLabel k && ((s.slot k).state.holds || decide ((s.slot k).state = .blocked)) && !o.winSeen && s.reachedInstant o.winOpen then
      onOcc k (fun x => { x with winSeen := true, labelSeen := x.labelSeen || decide (s.ldd.state = .valid) }) s
    else s

/-! ## The holder's instants (R145) -/

/-- R154, R157, R160: what the holder does at the instants of its occurrence. DESIGN CHOICE (log 48): an entry made HELD out of
PREPARING has no window timer yet, and the window close passes without effect until it is RECORDING or WATCHING again. -/
def holderInstants (s : State) : State :=
  match s.sched.holder with
  | none => s
  | some h =>
    match (s.slot h.slot).occ with
    | none => s
    | some o =>
      match (s.slot h.slot).state with
      | .watching => if s.reachedInstant o.winClose then windowClosed s else fallbackTest s
      | .preparing => if s.isLabel h.slot && s.reachedInstant o.winClose then windowClosed s else readyTest s
      | _ => s

/-! ## Missed occurrences and claims (R145 to R149) -/

/-- R149: an occurrence that ends while its entry waits ends with MISSED and no recorded seconds. -/
def missOccurrence (k : Nat) (s : State) : State := endOccurrence k .missed true (onOcc k (fun o => { o with recorded := 0 }) s)

/-- R145, R149: an ARMED or BLOCKED entry whose end instant has passed ends its occurrence with MISSED. -/
def missTest (k : Nat) (s : State) : State :=
  match (s.slot k).occ with
  | none => s
  | some o =>
    if ((s.slot k).state = .armed ∨ (s.slot k).state = .blocked) ∧ s.reachedInstant o.endAt = true then
      missOccurrence k s
    else s

/-- The slot numbers. -/
def slotNumbers : List Nat := (List.range Config.slotCount).map (· + 1)

/-- R145: the slot is BLOCKED, or ARMED and due. -/
def claims (s : State) (k : Nat) : Bool :=
  match (s.slot k).occ with
  | none => false
  | some o =>
    match (s.slot k).state with
    | .blocked => true
    | .armed => s.reachedInstant o.claim && !s.reachedInstant o.endAt
    | _ => false

/-- R148: the claim instant of a slot. -/
def claimOf (s : State) (k : Nat) : Int := match (s.slot k).occ with | none => 0 | some o => o.claim

/-- R148: placed by claim instant, and by lower slot number where equal. -/
def insertClaim (s : State) (k : Nat) : List Nat → List Nat
  | [] => [k]
  | j :: js => if claimOf s j ≤ claimOf s k then j :: insertClaim s k js else k :: j :: js

/-- R148: the wait order of the slots that claim. -/
def waitOrder (s : State) : List Nat := (slotNumbers.filter (claims s)).foldl (fun l k => insertClaim s k l) []

/-- R146: the deck is in panel use. -/
def panelUse (s : State) : Bool :=
  decide (s.mech.owner = .panel) &&
    !(decide (s.mech.state = .empty) || decide (s.mech.state = .idle) || decide (s.mech.state = .halt) ||
      decide (s.mech.state = .jammed))

/-- R158, R147: the holder's label recording is past its scheduled stop, judged on the time base. -/
def inOverrun (s : State) : Bool :=
  match s.sched.holder with
  | none => false
  | some h => decide (s.holderMode = some .label) && (h.overrun || reached s.sched.schedAt s.now)

/-- R146: decisions of the arbiter. -/
inductive Decision | granted | preemptWatch | preemptOverrun | blocked
  deriving DecidableEq, Repr

/-- R146: the claim of a slot is answered. -/
def decideClaim (s : State) (k : Nat) : Decision :=
  match s.sched.holder with
  | none =>
    if panelUse s then
      if s.isLabel k && !(match (s.slot k).occ with | none => true | some o => s.reachedInstant o.lead) then .granted else .blocked
    else .granted
  | some h =>
    if s.isLabel k then .blocked
    else match (s.slot h.slot).state with
      | .watching => .preemptWatch
      | .recording => if inOverrun s then .preemptOverrun else .blocked
      | .held => if inOverrun s then .preemptOverrun else .blocked
      | _ => .blocked

/-- R147: a WATCHING holder is preempted: ARMED with no outcome; its occurrence record is kept. -/
def preemptWatching (s : State) : State :=
  match s.sched.holder with
  | none => s
  | some h => timepoint h.slot .occurrenceEnd ((slotTo h.slot .armed s).onSched fun c => { c with holder := none })

/-- R147: a fixed entry takes the recorder from a WATCHING holder, which is then BLOCKED, the recorder being held. DESIGN CHOICE
(log 49): R186 allows either order; here, and at a release whose evaluation grants an entry, the old slot's timepoints come before
the new slot's LEAD. A deferred sequence of the old slot thus ends ENDED there, never REPLACED (R182). -/
def takeFromWatching (k : Nat) (s : State) : State :=
  match s.sched.holder with
  | none => grant k s
  | some h => slotTo h.slot .blocked (grant k (preemptWatching s))

/-- R146 to R148: the claims in wait order, until one is granted; the rest stay or become BLOCKED. -/
def answerClaims : List Nat → Bool → State → State
  | [], _, s => s
  | k :: ks, granted, s =>
    if granted then answerClaims ks true (slotTo k .blocked s)
    else match decideClaim s k with
      | .granted => answerClaims ks true (grant k s)
      | .preemptWatch => answerClaims ks true (takeFromWatching k s)
      | .preemptOverrun => answerClaims ks true (grant k (endHolder .short s))
      | .blocked => answerClaims ks false (slotTo k .blocked s)

/-! ## The due timer (R145) -/

/-- R145: the instants of an occurrence that a BLOCKED entry and the holder wait for; a fixed entry has no window. -/
def waitInstants (label : Bool) (o : Occurrence) : List Int := (if label then [o.winOpen] else []) ++ [o.lead, o.start, o.endAt]

/-- R145: the instants, in 1/1024 s of reading, that the due timer may be set to. A window close stands at a full minute, whose
boundary is an evaluation of its own. -/
def dueInstants (s : State) : List Int :=
  (slotNumbers.map fun k =>
    match (s.slot k).occ with
    | none => []
    | some o =>
      let times (l : List Int) : List Int := l.map (· * 1024)
      match (s.slot k).state with
      | .armed => times [o.claim]
      | .blocked => times (waitInstants (s.isLabel k) o)
      | .watching =>
        let since := match s.sched.holder with | none => 0 | some h => (s.now - h.watchSince) / Config.cyclesPerTick
        max (o.lead * 1024) ((s.clock.reading : Int) + 10240 - (since : Int)) ::
          times (waitInstants (s.isLabel k) o)
      | x => if x.holds then times (waitInstants (s.isLabel k) o) else []).flatten

/-- R145: the due timer is set to the earliest instant after the reading and within 120 s of it. -/
def setDue (s : State) : State :=
  let now : Int := s.clock.reading
  let ahead := (dueInstants s).filter fun t => decide (now < t) && decide (t ≤ now + 120 * 1024)
  let first := match ahead with | [] => none | t :: ts => some (ts.foldl min t)
  s.onSched fun c => { c with due := first.map s.crystalAt }

/-- R145: an evaluation. -/
def evaluate (s : State) : State :=
  if s.clock.valid then
    let s1 := slotNumbers.foldl (fun x k => missTest k x) s
    let s2 := holderInstants (slotNumbers.foldl (fun x k => windowOpening k x) s1)
    setDue (answerClaims (waitOrder s2) false s2)
  else setDue s

/-! ## Labels (R155 to R161) -/

/-- R155, R157: a report sets the label-seen flag at or after the window opening, and abandons a fallback not yet started. -/
def labelSeen (s : State) : State :=
  match s.sched.holder with
  | none => s
  | some h =>
    match (s.slot h.slot).occ with
    | none => s
    | some o =>
      if s.isLabel h.slot && s.reachedInstant o.winOpen then
        let s1 := onOcc h.slot (fun x => { x with labelSeen := true }) s
        if (s.slot h.slot).state = .preparing ∧ o.mode = .fixed ∧ s.reachedInstant o.start = false ∧ o.labelSeen = false then
          wantOnly (if h.awaitDeck then [] else [{ what := .stop }])
            (backToWatching (onOcc h.slot (fun x => { x with late := false }) s1))
        else s1
      else s

/-- R161: the label-loss timer runs in these states. -/
def lossWatched (s : State) : Bool :=
  match s.holderState with
  | .preparing => decide (s.holderMode = some .label)
  | .recording => decide (s.holderMode = some .label)
  | .held => decide (s.holderMode = some .label)
  | _ => false

/-- R161: a report of LOST or NONE starts the label-loss timer. -/
def labelGone (s : State) : State :=
  if lossWatched s then
    s.onSched fun c => { c with loss := match c.loss with | none => some s.now | some t => some t }
  else s

/-- R155, R161: a report of the label state. -/
def labelReport (st : LabelState) (s : State) : State :=
  match st with
  | .valid => labelSeen (s.onSched fun c => { c with loss := none })
  | _ => labelGone s

/-- R156: a label matches the occurrence of a slot. -/
def labelMatches (l : Label) (prior : Option Nat) (t : Slot) : Bool :=
  match t.occ, t.entry with
  | some o, some e =>
    decide (l.day = o.date.day) && decide (l.month = o.date.month) && decide (l.hour * 60 + l.minute = e.start) &&
      (match prior with | none => true | some c => decide (c = l.network))
  | _, _ => false

/-- R159: the recording is resumed. An occurrence HELD within its preparation fixes its timers now, and RECORD is issued when the
deck is ready, at once if it is. -/
def resumeHeld (s : State) : State :=
  match s.sched.holder with
  | none => s
  | some h =>
    let s1 := s.onSched fun c => { c with held := none }
    if h.awaitReady then readyTest (enterRecording s1)
    else if h.skip.isSome then slotTo h.slot .recording s1
    else wantMore [{ what := .record }] (slotTo h.slot .recording s1)

/-- R159: a matching PAUSE. -/
def pauseHeld (s : State) : State :=
  match s.sched.holder with
  | none => s
  | some h =>
    let s1 := (slotTo h.slot .held s).onSched fun c => { c with held := some s.now }
    match (s.slot h.slot).state with
    | .recording => if h.awaitReady || h.skip.isSome then s1 else wantMore [{ what := .pause }] s1
    | _ => s1

/-- R158 to R160: a label handed as new acts on the holder. -/
def followLabel (l : Label) (prior : Option Nat) (s : State) : State :=
  match s.sched.holder with
  | none => s
  | some h =>
    let t := s.slot h.slot
    match t.occ with
    | none => s
    | some o =>
      if s.isLabel h.slot ∧ o.mode = .label then
        let mine := labelMatches l prior t
        let past := decide (l.status = .stopped) && mine || decide (l.status = .run) && !mine
        match t.state with
        | .watching =>
          if mine ∧ l.status = .run then beginPreparing .label s
          else if past ∧ o.heldOut = true then endOccurrence h.slot (unlessRecorded .ok h.slot s) false s
          else s
        | .preparing =>
          if past then endOccurrence h.slot (unlessRecorded .ok h.slot s) false s
          else if mine ∧ l.status = .pause then pauseHeld s
          else s
        | .recording =>
          if past then endOccurrence h.slot .ok false s
          else if mine ∧ l.status = .pause then pauseHeld s
          else s
        | .held =>
          if past then endOccurrence h.slot .ok false s
          else if mine ∧ l.status = .run then resumeHeld s
          else s
        | _ => s
      else s

/-- R155 to R160: a new label reaches SCHED; it reports VALID too (R123). -/
def labelNew (l : Label) (prior : Option Nat) (s : State) : State := followLabel l prior (labelReport .valid s)

/-! ## Timers (R154, R158, R159, R161, R168) -/

/-- R154: the stop timer. -/
def stopTimeout (s : State) : State :=
  if reached s.sched.stopAt s.now = true ∧ s.holderState = .recording then
    match s.sched.holder with
    | none => s
    | some h =>
      let late := match (s.slot h.slot).occ with | none => false | some o => o.late
      endOccurrence h.slot (if late then .late else .ok) false s
  else s

/-- R158: the scheduled-stop timer: label overrun. -/
def scheduledStopTimeout (s : State) : State :=
  if reached s.sched.schedAt s.now = true ∧ s.sched.holder.isSome = true then
    onHolder (fun h => { h with overrun := true }) (s.onSched fun c => { c with schedAt := none })
  else s

/-- R160: the window timer. -/
def windowTimeout (s : State) : State :=
  if reached s.sched.windowAt s.now = true ∧ s.sched.holder.isSome = true then
    windowClosed (s.onSched fun c => { c with windowAt := none })
  else s

/-- R159: the held timer: STOP, and STOP again from HALT. -/
def heldTimeout (s : State) : State :=
  if s.sched.held.due Config.heldTime s.now = true ∧ s.holderState = .held then
    match s.sched.holder with
    | none => s
    | some h =>
      wantMore [{ what := .stop }, { what := .stop }]
        (backToWatching (onOcc h.slot (fun o => { o with heldOut := true }) s))
  else s

/-- R161: the label-loss timer: mode FALLBACK. DESIGN CHOICE (log 32): the window timer stops with it. -/
def labelLossTimeout (s : State) : State :=
  if s.sched.loss.due Config.labelLossTime s.now = true ∧ lossWatched s = true then
    match s.sched.holder with
    | none => s
    | some h =>
      let past := inOverrun s
      let s1 := onOcc h.slot (fun o => { o with mode := .fallback }) s
      let s2 := s1.onSched fun c => { c with loss := none, windowAt := none, schedAt := none, stopAt := c.schedAt, held := none }
      if past then endOccurrence h.slot .ok false s2
      else match s.holderState with
        | .held => resumeHeld s2
        | _ => s2
  else s

/-- R168: the post-hold timer. -/
def postHoldTimeout (s : State) : State :=
  match s.sched.post with
  | none => s
  | some p =>
    if passed Config.postHoldTime s.now p.since then
      let s1 := s.onSched fun c => { c with post := none }
      if s.sched.holder.isNone ∧ s.mech.owner = .none then
        if p.powerOff = true ∧ s.pwr.power = .timerOn then standbyRequest .sched s1
        else if s.mech.state = .halt ∧ s.mech.inFlight.isNone then
          (submit (timerCmd p.slot s.sched.nextTag { what := .stop }) (s1.onSched fun c => { c with nextTag := c.nextTag + 1 })).1
        else s1
      else s1
    else s

/-- R145: the due timer. -/
def dueTimeout (s : State) : State :=
  if reached s.sched.due s.now then evaluate (s.onSched fun c => { c with due := none }) else s

/-! ## Reports of MECH, MARK and SERVO (R153, R154, R162, R164, R165) -/

/-- R165: the counter has come to the skip target: a skip at preparation leads to ready and the protect test again, one while
recording to RECORD, or to REC_PAUSE where a label has made the entry HELD meanwhile (log 32). -/
def skipReached (s : State) : State :=
  match s.sched.holder with
  | none => s
  | some h =>
    match h.skip with
    | none => s
    | some t =>
      if s.mech.state = .fwind ∧ t ≤ s.pos.counter then
        wantMore [{ what := .record, paused := h.awaitReady || decide ((s.slot h.slot).state = .held) }]
          (onHolder (fun x => { x with skip := none, retest := h.awaitReady }) s)
      else s

/-- R153: a command of an occurrence is closed; results of occurrences that have ended change nothing. -/
def timerClosed (tag : Nat) (r : CloseResult) (s : State) : State :=
  match s.sched.holder with
  | none => s
  | some h =>
    if h.tag = tag then
      let s1 := onHolder (fun x => { x with waiting := false }) s
      match r with
      | .refused why => if s.holderState.ends then holderRefused why s1 else pump s1
      | .discarded why => if s.holderState.ends then endHolder (discardOutcome why) s1 else pump s1
      | _ => readyTest (skipReached (pump s1))
    else s

/-- R153: an end-leader or fault report ends the occurrence, but not in WATCHING. -/
def schedReport (out : EndCode) (s : State) : State := if s.holderState.ends then endHolder out s else s

/-- R164: a span is reached in RECORD. -/
def schedSpan (spanEnd : Option Int) (s : State) : State :=
  match s.sched.holder with
  | none => s
  | some h =>
    if (s.slot h.slot).state = .recording ∧ s.mech.state = .record then
      match s.policy h.slot, spanEnd with
      | .skip, some e => startSkip (e + 48) [{ what := .pause }] s
      | _, _ => endOccurrence h.slot .short false s
    else s

/-- R162: seconds of crystal cycles left on the timer that will stop the recording. -/
def cyclesLeft (s : State) : Nat :=
  match s.holderMode with
  | some .label => (match s.sched.schedAt with | none => 0 | some t => t - s.now)
  | _ => (match s.sched.stopAt with | none => 0 | some t => t - s.now)

/-- R162: automatic speed applies to the entry. -/
def autoApplies (e : Entry) : Bool := decide (e.speed = .auto) || e.allowSlower

/-- R162: the remaining value at a speed is at least the time left. -/
def lasts (s : State) (v : Speed) : Bool :=
  match s.remainingAt v with
  | none => false
  | some n => decide (cyclesLeft s ≤ n * Config.cyclesPerSecond)

/-- R162: the speed to ask for: the fastest slower legal speed that lasts, else the slowest legal speed. -/
def slowerSpeed (s : State) (v : Speed) : Option Speed :=
  let slower := [Speed.s, .h, .t].filter fun x => x.isLegal s.std && decide (v.factor < x.factor)
  match slower.find? (lasts s) with
  | some x => some x
  | none => slower.getLast?

/-- An entry under whose occurrence the mechanism may be in RECORD: RECORDING, or HELD by a PAUSE label while the RECORD in flight runs
on (R153, R159). -/
def EntryState.records (x : EntryState) : Bool :=
  match x with
  | .recording => true | .held => true | _ => false

/-- R162: a check. -/
def speedCheck (s : State) : State :=
  match s.sched.holder with
  | none => s
  | some h =>
    match (s.slot h.slot).entry, (s.slot h.slot).occ with
    | some e, some o =>
      if autoApplies e = true ∧ (s.slot h.slot).state.records = true ∧ 0 < cyclesLeft s ∧ s.pos.estState ≠ .none ∧
          lasts s (o.speed.legal s.std) = false then
        match slowerSpeed s (o.speed.legal s.std) with
        | none => s
        | some v => autoSpeed v s
      else s
    | _, _ => s

/-- R154, R162, R169: MECH has entered RECORD. -/
def schedRecording (s : State) : State :=
  match s.sched.holder with
  | none => s
  | some h =>
    if (s.slot h.slot).state.records = true ∧ s.mech.state = .record then
      let first := match (s.slot h.slot).occ with | none => false | some o => !o.started
      let s1 := onHolder (fun x => { x with recSince := some s.clock.ticks, awaitLive := true }) s
      let s2 := onOcc h.slot (fun o => { o with started := true }) s1
      speedCheck (if first then timepoint h.slot .recordStart s2 else s2)
    else s

/-- R162: the first LIVE estimate after an entry to RECORD. -/
def schedEstimate (s : State) : State :=
  match s.sched.holder with
  | none => s
  | some h =>
    if h.awaitLive = true ∧ s.mech.state = .record then speedCheck (onHolder (fun x => { x with awaitLive := false }) s) else s

/-- R162: the recorded seconds reach the next multiple of 300. -/
def recordedCheck (s : State) : State :=
  match s.sched.holder with
  | none => s
  | some h =>
    match (s.slot h.slot).occ with
    | none => s
    | some o =>
      if (s.slot h.slot).state.records = true ∧ 300 * (o.checks + 1) ≤ s.recordedSeconds h.slot then
        speedCheck (onOcc h.slot (fun x => { x with checks := x.checks + 1 }) s)
      else s

/-- R162: SERVO reports the speed in force. -/
def schedSpeed (v : Speed) (s : State) : State :=
  match s.sched.holder with
  | none => s
  | some h =>
    match (s.slot h.slot).occ with
    | none => s
    | some o => if o.speed = v then s else notify (.entrySpeed h.slot o.speed v) (onOcc h.slot (fun x => { x with speed := v }) s)

/-- R151, R174: supply loss or a failed raise ends with POWER the occurrence that held the recorder at that moment. -/
def schedPower (tag : Option Nat) (s : State) : State :=
  match s.sched.holder with
  | none => s
  | some h => if tag = some h.tag then endOccurrence h.slot .power true s else s

/-- R13: the owning entry is cancelled by a STOP with the cancel-timer flag, which MECH carries out itself. -/
def cancelOwner (s : State) : State :=
  match s.mech.owner with
  | .timer k => endOccurrence k .cancelled true s
  | _ => s

/-! ## Clock steps (R173) -/

/-- R173, R143: one slot is judged after a step; the next occurrence is computed afresh. -/
def stepSlot (k : Nat) (s : State) : State :=
  match (s.slot k).state, (s.slot k).occ with
  | .armed, some o =>
    if s.reachedInstant o.endAt then missOccurrence k s else arm k s
  | .armed, none => arm k s
  | .done, _ => arm k s
  | .blocked, some o =>
    if s.reachedInstant o.endAt then missOccurrence k s
    else if s.reachedInstant o.claim then s else arm k (slotTo k .armed s)
  | _, _ => s

/-- R155, R173: a window opening that a step has put ahead again is to be judged when it is reached. -/
def stepOpening (k : Nat) (s : State) : State :=
  onOcc k (fun o => { o with winSeen := o.winSeen && s.reachedInstant o.winOpen }) s

/-- R173: the step has taken the clock past the occurrence's start instant. DESIGN CHOICE (log 53): from before the start to a reading
later than it. -/
def StepEvent.pastStart (e : StepEvent) (o : Occurrence) (s : State) : Bool :=
  decide ((secondsOf e.old : Int) < o.start) && decide (o.start * 1024 < (s.clock.reading : Int))

/-- R173: WATCHING, and PREPARING before recording: an entry stepped before its claim instant returns to ARMED, with STOP wherever it
had moved the deck, in THREADING too, and releases the recorder. A PREPARING fixed entry stepped past its start takes the late mark,
by a step of less than 1 s past it too. DESIGN CHOICE (log 53): a later step does not take the mark away. -/
def stepHolder (e : StepEvent) (s : State) : State :=
  match s.sched.holder with
  | none => s
  | some h =>
    match (s.slot h.slot).occ with
    | none => s
    | some o =>
      if (s.slot h.slot).state = .watching ∨ (s.slot h.slot).state = .preparing then
        if s.reachedInstant o.claim = false then
          let s1 := slotTo h.slot .armed s
          let s2 := if h.moved then
              (submit (timerCmd h.slot s.sched.nextTag { what := .stop }) (s1.onSched fun c => { c with nextTag := c.nextTag + 1 })).1
            else s1
          release false h.slot s2
        else if s.reachedInstant o.endAt then
          if s.isLabel h.slot then windowClosed s else endOccurrence h.slot .missed false s
        else if (s.slot h.slot).state = .preparing ∧ s.isLabel h.slot = false ∧ e.pastStart o s = true then
          onOcc h.slot (fun x => { x with late := true }) s
        else s
      else s

/-- R173: SCHED at a step event; a WRAP first clears every last occurrence date. The new date-time and the new clock state stand in
CLOCK (R137, step 1), where the evaluation reads them. -/
def schedStepped (e : StepEvent) (s : State) : State :=
  let s1 := s.onSched fun c =>
    { c with due := none, slots := if e.cause = .wrap then c.slots.map (fun t => { t with lastDate := none }) else c.slots }
  evaluate (slotNumbers.foldl (fun x k => stepSlot k x) (stepHolder e (slotNumbers.foldl (fun x k => stepOpening k x) s1)))

end Sys2Proof.Machine
end

