-- ==== Sys2Proof/Machine/Programme.lean ====
section
/-!
DEFINITION. Sys2Proof/Machine/Programme.lean: the requests of the Programme Scheduler: ENTRY_WRITE, ENTRY_READ and ENTRY_CONTROL
(sections 8.1 and 8.10), and the scheduler after a reset (R174).
-/

namespace Sys2Proof.Machine

/-! ## ENTRY_WRITE (R140) -/

/-- Repeats by their codes. -/
def repeatOf (n : Nat) : Option Repeat :=
  match n with
  | 0 => some .once | 1 => some .daily | 2 => some .weekdays | 3 => some .weekly | _ => none

/-- Entry speeds by their codes. -/
def speedChoiceOf (n : Nat) : Option SpeedChoice :=
  match n with
  | 0 => some (.fixed .s) | 1 => some (.fixed .h) | 2 => some (.fixed .t) | 3 => some .auto | _ => none

/-- Protect policies by their codes. -/
def policyOf (n : Nat) : Option Policy :=
  match n with
  | 0 => some .stop | 1 => some .skip | 2 => some .refuse | _ => none

/-- R140: AUTO is legal under both standards; a fixed speed is corrected. -/
def SpeedChoice.legal (std : Standard) : SpeedChoice → SpeedChoice
  | .auto => .auto
  | .fixed v => .fixed (v.legal std)

/-- R140, check 4: the date of a ONCE entry and the weekday of a WEEKLY one. -/
def dayFieldsGood (rep : Repeat) (r : EntryRecord) : Bool :=
  match rep with
  | .once => (match r.date with | none => false | some d => dateLegal d)
  | .weekly => (match r.weekday with | none => false | some w => decide (w ≤ 6))
  | _ => true

/-- R140, check 4: the times of day. -/
def timesGood (r : EntryRecord) : Bool :=
  decide (r.startHour ≤ 23) && decide (r.startMinute ≤ 59) && decide (r.stopHour ≤ 23) && decide (r.stopMinute ≤ 59) &&
    !(decide (r.startHour = r.stopHour) && decide (r.startMinute = r.stopMinute))

/-- R140, R213: the entry a record stands for under a line standard, its dropped and corrected fields taken; none where a field
is out of range or the entry malformed. The preset's use is judged beside it. -/
def entryOf (std : Standard) (r : EntryRecord) : Option Entry :=
  match repeatOf r.repeatCode, speedChoiceOf r.speedCode, policyOf r.policyCode with
  | some rep, some v, some p =>
    let e : Entry :=
      { enabled := r.enabled, repeats := rep,
        date := (match rep with | .once => r.date | _ => none),
        weekday := (match rep with | .weekly => r.weekday | _ => none),
        start := r.startHour * 60 + r.startMinute, stop := r.stopHour * 60 + r.stopMinute, preset := r.preset,
        speed := SpeedChoice.legal std v, allowSlower := r.allowSlower, labelFollow := r.labelFollow, policy := p,
        markFlag := !r.markGiven || r.markFlag, powerOff := r.powerOffAfter }
    if dayFieldsGood rep r && timesGood r && !(decide (e.date = some lastTime.date) && e.crosses) then some e else none
  | _, _, _ => none

/-- R140: the lowest-numbered EMPTY slot. -/
def State.emptySlot (s : State) : Option Nat := slotNumbers.find? fun k => decide ((s.slot k).state = .empty)

/-- R140: the slot a write uses. -/
def State.writeSlot (s : State) (n : Nat) : Option Nat := if n = 0 then s.emptySlot else some n

/-- An instant of an occurrence as a date-time; one before the calendar is given as its first second (log 21). -/
def instantTime (t : Int) : DateTime := timeOfSeconds t.toNat

/-- The start and stop of a slot's occurrence, as ENTRY_WRITE and ENTRY_READ give them. -/
def startStopBytes (t : Slot) : List Byte :=
  optMinuteBytes (t.occ.map fun o => instantTime o.start) ++ optMinuteBytes (t.occ.map fun o => instantTime o.stop)

/-- R140: a write that has passed its checks. -/
def storeEntry (k : Nat) (e : Entry) (s : State) : State :=
  let s1 := onSlot k (fun t => { t with entry := some e, lastDate := none, outcome := .none, recSeconds := 0, occ := none }) s
  report .evaluate (if e.enabled then arm k s1 else slotTo k .disabled s1)

/-- R140: ENTRY_WRITE. -/
def entryWrite (n : Nat) (r : EntryRecord) (s : State) : State × Answer :=
  if s.clock.valid = false then refuse s .clockInvalid
  else if Config.slotCount < n then refuse s .invalidArg
  else match s.writeSlot n with
    | none => refuse s .tableFull
    | some k =>
      if (s.slot k).state.holds then refuse s .busy
      else match entryOf s.std r with
        | none => refuse s .invalidArg
        | some e =>
          if (s.preset e.preset).isNone then refuse s .invalidArg
          else
            let s1 := storeEntry k e s
            done s1 ([byte k, byte (s1.slot k).state.code] ++ startStopBytes (s1.slot k))

/-! ## ENTRY_READ (R141, R213) -/

/-- Section 11.9: the 12 bytes of a stored entry; bit 5 of the first is set. -/
def entryBytes (e : Entry) : List Byte :=
  let bit (b : Bool) (n : Nat) : Nat := if b then n else 0
  [byte (bit e.enabled 1 + bit e.allowSlower 2 + bit e.labelFollow 4 + bit e.markFlag 8 + bit e.powerOff 16 + 32),
    byte e.repeats.code] ++ optDateBytes e.date ++
  [(match e.weekday with | none => 0xFF | some w => byte w), byte (e.start / 60), byte (e.start % 60), byte (e.stop / 60),
    byte (e.stop % 60), byte e.preset, byte (SpeedChoice.code e.speed + 16 * e.policy.code)]

/-- Section 11.9, offsets 31 to 40: the window of a label entry's occurrence. -/
def windowBytes (t : Slot) : List Byte :=
  let o := match t.entry with | none => none | some e => if e.labelFollow then t.occ else none
  optMinuteBytes (o.map fun x => instantTime x.winOpen) ++ optMinuteBytes (o.map fun x => instantTime x.winClose)

/-- Section 11.9, offsets 41 to 46: what ENTRY_READ gives of the holder's occurrence. -/
def holderBytes (k : Nat) (s : State) : List Byte :=
  match (s.slot k).state.holds, (s.slot k).occ with
  | true, some o => [byte o.mode.code, byte (speedCode o.speed), flag o.late] ++ be24 (s.recordedSeconds k)
  | _, _ => [0, 0xFF, 0, 0, 0, 0]

/-- The 47 bytes of an ENTRY_READ reply (section 11.9). -/
def entryData (k : Nat) (s : State) : List Byte :=
  let t := s.slot k
  [byte k, byte t.state.code] ++ (match t.entry with | none => List.replicate 12 0 | some e => entryBytes e) ++
    optDateBytes t.lastDate ++ [byte t.outcome.code] ++ be24 t.recSeconds ++ startStopBytes t ++ windowBytes t ++
    holderBytes k s

/-- R141, R170: a slot 1..16. -/
def slotNumber (k : Nat) : Bool := decide (1 ≤ k) && decide (k ≤ Config.slotCount)

/-- R141: ENTRY_READ. -/
def entryRead (k : Nat) (s : State) : State × Answer :=
  if slotNumber k then done s (entryData k s) else refuse s .invalidArg

/-! ## ENTRY_CONTROL (R170 to R172) -/

/-- R170: CANCEL applies to an entry in these states. -/
def EntryState.cancels (x : EntryState) : Bool := x.holds || decide (x = .blocked)

/-- R170: the occurrence is cancelled. -/
def cancelEntry (k : Nat) (s : State) : State := endOccurrence k .cancelled false s

/-- R170: CANCEL. -/
def entryCancel (k : Nat) (s : State) : State × Answer :=
  if slotNumber k = false then refuse s .invalidArg
  else if (s.slot k).state.cancels then done (report .evaluate (cancelEntry k s))
  else refuse s .badState

/-- R170: the slot becomes EMPTY, its fields and kept results cleared. -/
def clearSlot (k : Nat) (s : State) : State :=
  onSlot k (fun _ => Slot.reset) (slotTo k .empty s)

/-- R170: DELETE. -/
def entryDelete (k : Nat) (s : State) : State × Answer :=
  if slotNumber k = false then refuse s .invalidArg
  else
    let s1 := if (s.slot k).state.cancels then cancelEntry k s else s
    done (report .evaluate (clearSlot k s1))

/-- R171: DISABLE. -/
def entryDisable (k : Nat) (s : State) : State × Answer :=
  if slotNumber k = false then refuse s .invalidArg
  else if (s.slot k).state.holds then refuse s .busy
  else match (s.slot k).state with
    | .empty => refuse s .badState
    | .disabled => done (report .evaluate s)
    | _ => done (report .evaluate (onSlot k (fun t => { t with occ := none }) (slotTo k .disabled s)))

/-- R171: ENABLE. -/
def entryEnable (k : Nat) (s : State) : State × Answer :=
  if slotNumber k = false then refuse s .invalidArg
  else if s.clock.valid = false then refuse s .clockInvalid
  else match (s.slot k).state with
    | .empty => refuse s .badState
    | .disabled => done (report .evaluate (arm k s))
    | _ => done (report .evaluate s)

/-- R172: the new stop is later than the reading and at most 24 hours after it. -/
def stopInReach (stop : Nat) (s : State) : Bool :=
  decide (s.clock.reading < stop * 1024) && decide (stop * 1024 ≤ s.clock.reading + 86400 * 1024)

/-- R172: the occurrence's stop is moved and its governing timer fixed afresh. -/
def moveStop (k stop : Nat) (s : State) : State :=
  let label : Bool := match (s.slot k).occ with | none => false | some o => decide (o.mode = .label)
  let s1 := onOcc k (fun o => { o with stop := stop, endAt := if s.isLabel k then max (stop : Int) o.winClose else stop }) s
  let at0 := s1.crystalAt ((stop : Int) * 1024)
  onHolder (fun h => { h with overrun := false })
    (s1.onSched fun c => if label = true then { c with schedAt := some at0 } else { c with stopAt := some at0 })

/-- R172: EXTEND. -/
def entryExtend (k : Nat) (t : DateTime) (s : State) : State × Answer :=
  if slotNumber k = false then refuse s .invalidArg
  else if (s.slot k).state = .recording ∨ (s.slot k).state = .held then
    let stop := secondsOf { t with second := 0 }
    if timeLegal { t with second := 0 } && stopInReach stop s then
      done (report .evaluate (moveStop k stop s)) (minuteBytes t)
    else refuse s .invalidArg
  else refuse s .badState

/-! ## Reset (R174) -/

/-- R174: a slot after a PIN or RESTART reset, at the present reading; seconds are the recorded seconds of its occurrence. -/
def slotAfterReset (seconds reading : Nat) (t : Slot) : Slot :=
  let ended := if t.state.holds then
      { t with lastDate := t.date, outcome := .reset, recSeconds := seconds,
               state := match t.entry with | some e => if e.repeats = .once then .done else .armed | none => .done }
    else if t.state = .blocked then { t with state := .armed }
    else t
  match ended.state, ended.entry with
  | .armed, some e =>
    match nextOcc e ended.lastDate reading with
    | some o => { ended with occ := some o }
    | none => { ended with occ := none, state := .done }
  | _, _ => { ended with occ := none }

/-- R174: the scheduler after a PIN or RESTART reset. -/
def schedAfterReset (s : State) : Sched :=
  { Sched.reset with
    slots := slotNumbers.map fun k => slotAfterReset (s.recordedSeconds k) s.clock.reading (s.slot k) }

end Sys2Proof.Machine
end

