-- ==== Sys2Proof/Machine/Reports.lean ====
section
/-!
DEFINITION. Sys2Proof/Machine/Reports.lean: what each block does with a report another block has handed it within the same step, and
the end of every step: the reports are worked off oldest first (log 9), the rest timers follow (R19, R20), and an idle transmitter
chooses its next frame (R203).
-/

namespace Sys2Proof.Machine

/-- R13: a stored cancel-timer STOP comes to its execution: the owning entry is cancelled, then MECH carries out the STOP. -/
def cancelStop (c : Cmd) (s : State) : State :=
  let r := submit c (cancelOwner s)
  match r.2 with
  | .refused why => closeCmd c (.refused why) r.1
  | .done => settle (closeCmd c (.done r.1.mech.state) r.1)
  | .accepted => r.1

/-- A report reaches the block it is for. -/
def handleReport (r : Report) (s : State) : State :=
  match r with
  | .closedSearch tag c res => searchClosed tag c res s
  | .closedTimer tag _ res => timerClosed tag res s
  | .cancelStop c => cancelStop c s
  | .evaluate => evaluate s
  | .leaderSearch => searchLeader s
  | .interrupted why => searchInterrupted why s
  | .leaderSched => schedReport .tapeEnd s
  | .faultSched => schedReport .mechFault s
  | .spanReached e => schedSpan e s
  | .recordEntered => schedRecording s
  | .liveEstimate => schedEstimate s
  | .speedInForce v => schedSpeed v s
  | .recoveryEnded => prepare (powerRecovered s)
  | .stopEnded ok => stopRelease ok s
  | .supplyUp => prepare s
  | .supplyHigh => supplyRises s
  | .supplyLost tag => schedPower tag s
  | .labelState st => evaluate (labelReport st s)
  | .newLabel l prior => evaluate (labelNew l prior s)
  | .minute => evaluate s
  | .stepped e => schedStepped e s
  | .skipReached => skipReached s

/-- The oldest report leaves its queue. -/
def State.nextReport (s : State) (rest : List Report) : State := { s with reports := rest }

/-- The reports are worked off oldest first; the fuel bounds how many one step handles (log 9). -/
def drain : Nat → State → State
  | 0, s => s
  | n + 1, s =>
    match s.reports with
    | [] => s
    | r :: rest => drain n (handleReport r (s.nextReport rest))

/-- How many reports one step handles at most (log 9). -/
def drainFuel : Nat := 256

/-- R203: the frame an idle transmitter chooses. -/
def chooseFrame (l : Link) : Option Sending :=
  if l.bootPending then some .boot
  else if l.reply.isSome then some .reply
  else if l.notices.isEmpty then none
  else some .notice

/-- R203: the transmitter, when IDLE, chooses a frame. -/
def transmit (s : State) : State :=
  s.onLink fun l => { l with sending := match l.sending with | some x => some x | none => chooseFrame l }

/-- The end of every step. -/
def finish (s : State) : State := transmit (restTimers (drain drainFuel s))

/-- R196: while RESET_N is held low the part takes no event; otherwise the event's effect, then the end of the step. -/
def run (f : State → State) (s : State) : State := if s.pins.resetLow then s else finish (f s)

/-- As run, for an event that also moves an input line, whose level is taken even while RESET_N is low (log 4). -/
def runPin (pin : Pins → Pins) (f : State → State) (s : State) : State := run f (s.onPins pin)

end Sys2Proof.Machine
end

