-- ==== Sys2Proof/Machine/Frames.lean ====
section
/-!
DEFINITION. Sys2Proof/Machine/Frames.lean: the tape's frames as they reach SERVO, POS, MARK and MECH in turn: replayed and written
control pulses, capstan pulses, frame edges, and the 0.6 s gaps (R40, R52 to R57, R60, R75).
-/

namespace Sys2Proof.Machine

/-- R25, R60: the memory stop of a counted frame that crosses the target. -/
def memoryTest (before after : Int) (s : State) : State :=
  if crossesTarget s.mech.state s.pos.target before after then memoryStop s else s

/-- R165: SCHED watches each counted frame of a skip. -/
def skipTest (s : State) : State :=
  match s.sched.holder with
  | none => s
  | some h => if h.skip.isSome then report .skipReached s else s

/-- What the blocks do once a frame has been counted from one value to the next (R16, R17, R25, R60, R89, R165). DESIGN CHOICE
(log 25): the memory stop is tested before a search's target, so a frame that reaches both ends a counter search INTERRUPTED. -/
def afterCount (before after : Int) (s : State) : State :=
  junctionTest (skipTest (searchCounter (memoryTest before after s)))

/-! ## Capstan frames (R54, R55) -/

/-- R55: the accumulator pays out frame by frame; fuel bounds the count. -/
def payFrames : Nat → State → State
  | 0, s => s
  | n + 1, s =>
    match owedFrame s.pos with
    | none => s
    | some forward =>
      let s1 := payFrame forward s
      payFrames n (afterCount s.pos.counter s1.pos.counter s1)

/-- The frames the accumulator owes, and one more. -/
def framesOwed (s : State) : Nat := s.pos.acc.natAbs / 480 + 1

/-- R54, R55: POS at a capstan pulse. -/
def capstanCount (s : State) : State :=
  match s.pos.motion with
  | none => s
  | some m =>
    if capstanDrawn s.mech.state then
      let v := signedIncrement m (capstanIncrement s)
      match s.pos.source with
      | .control => addGapSum v s
      | .capstan => let s1 := addAccumulator v s; payFrames (framesOwed s1) s1
      | .none => s
    else s

/-- R36, R54, R55: a capstan FG pulse. DESIGN CHOICE (log 25): MECH acts on the loops first, so a pulse whose lock ends a lock wait
or a pre-roll is not counted. -/
def capstanPulse (period : Nat) (s : State) : State := capstanCount (junctionTest (capstanFg period s))

/-- R54, R56: 0.6 s of a motion without a control pulse. In RECORD the source stays CONTROL (R53). -/
def posGap (s : State) : State :=
  if s.pos.gap.due Config.pulseGap s.now = true ∧ s.pos.source = .control ∧ s.pos.motion.isSome = true then
    if s.mech.state = .fwind ∨ s.mech.state = .rwind then toNone s
    else if capstanDrawn s.mech.state then let s1 := toCapstan s; payFrames (framesOwed s1) s1
    else s
  else s

/-! ## Control pulses (R40, R53, R75) -/

/-- R40, R53, R75: a replayed control pulse of a motion, in turn at SERVO, POS and MARK; in PLAY it is the frame boundary, which
comes first (log 25). -/
def motionPulse (forward : Bool) (duty : Nat) (phase : Int) (interval envelope : Nat) (s : State) : State :=
  let s0 := if s.mech.state = .play then frameBoundary envelope s else s
  let s1 := servoPulse phase interval s0
  let s2 := countPulse forward s1
  let read := markReplayed forward (dutyClass duty) (searchPulse s2)
  afterCount s1.pos.counter s2.pos.counter (handleMarks read.2 read.1)

/-- R40, R53: a replayed control pulse of the overshoot that follows a motion: SERVO hands it on with the direction in which the tape
still moves, and POS counts it. Nothing else follows the count: a memory stop (R60), the end of a search's motion (R89), of a
junction operation (R16, R17) and of a skip (R165) are reached in their motions, and MARK reads in motions only (R75), its head
leaving the pulse as it stands. -/
def overshootPulse (forward : Bool) (phase : Int) (interval : Nat) (s : State) : State :=
  (countPulse forward (servoPulse phase interval s)).onMark fun m => { m with headDuty := none }

/-- R40, R53: a replayed control pulse: of a motion, or of the overshoot after one. In RECORD none is replayed. DESIGN CHOICE (log 52):
a pulse that comes with the tape never drawn since it was threaded, or off the drum, reaches no block. -/
def replayedPulse (duty : Nat) (phase : Int) (interval envelope : Nat) (s : State) : State :=
  if s.mech.state = .record then s
  else
    match s.pos.motion, s.pos.coast with
    | some m, _ => motionPulse m.forward duty phase interval envelope s
    | none, some forward => overshootPulse forward phase interval s
    | none, none => s

/-- R40, R78, R81, R86: a control pulse written in RECORD. -/
def writtenPulse (s : State) : State :=
  let s1 := countPulse true s
  afterCount s.pos.counter s1.pos.counter (recordGuard (markWritten s1))

/-- R40: a reference frame edge: the frame boundary in RECORD and REC_PAUSE, and in RECORD a written pulse. -/
def referenceEdge (envelope : Nat) (s : State) : State :=
  let s1 := frameBoundary envelope s
  junctionTest (if s1.mech.state = .record then writtenPulse s1 else s1)

/-- R38, R40: a vertical sync pulse. -/
def vsync (src : Source) (interval envelope : Nat) (s : State) : State :=
  let r := syncPulse src interval s
  if r.2 then referenceEdge envelope r.1 else junctionTest r.1

/-- R40: no control pulse has been replayed within the last 0.6 s. -/
def pulsesGone (s : State) : Bool :=
  match s.servo.pulseSeen with
  | none => true
  | some t => passed Config.pulseGap s.now t

/-- R38, R40: the internal frame edge serves as the frame boundary where the state's boundary is the internal edge. DESIGN CHOICE
(log 3): the sender gives the moment of each edge, unchecked against the crystal count. -/
def internalEdge (envelope : Nat) (s : State) : State :=
  if inSession s.mech.state then
    if s.servo.reference = .internal then referenceEdge envelope s else s
  else if s.mech.state = .play ∧ pulsesGone s = false then s
  else frameBoundary envelope s

/-- R75, R83: MARK's gap watch runs out, in a motion. -/
def markGapTimeout (s : State) : State :=
  if s.mark.reader.gap.due Config.pulseGap s.now = true ∧ s.mech.state ≠ .record then
    let r := markGap s
    junctionTest (handleMarks r.2 r.1)
  else s

end Sys2Proof.Machine
end

