-- ==== Sys2Proof/Machine/Reset.lean ====
section
/-!
DEFINITION. Sys2Proof/Machine/Reset.lean: the three resets (R196, R197) over every block's own table (R32, R51, R73, R94, R115, R128,
R139, R174, R187, R210), and RESET_N low.
-/

namespace Sys2Proof.Machine

/-- R196: the reset-cause record. -/
def resetRecord (kind : ResetKind) (wasStandby : Bool) (c : Clock) : ResetRecord :=
  { cause := kind, wasStandby := wasStandby, clockValid := c.valid }

/-- R196, R197: POWER_ON; the input lines keep their levels (log 4), and commands that wait stay waiting. -/
def powerOnState (s : State) : State :=
  { State.reset with pins := { s.pins with resetLow := false }, mech := Mech.reset s.pins.cassetteIn, pending := s.pending }

/-- R196: POWER_ON. -/
def powerOnReset (s : State) : State := report .evaluate (powerOnState s)

/-- R197: PWR after PIN and RESTART; the crystal count starts again at 0. -/
def pwrKept (kind : ResetKind) (wasStandby : Bool) (c : Clock) (p : Pwr) : Pwr :=
  { power := p.power,
    phase := (match p.phase with | .stopping => .up | x => x),
    timer := (match p.phase with | .raising => some 0 | _ => none),
    onMark := p.onMark, onCause := p.onCause,
    resetMark := decide (p.power = .timerOn) || decide (p.phase = .stopping),
    record := resetRecord kind wasStandby c, stopCause := p.stopCause, onOpen := false, stopOpen := false, resetFrom := none }

/-- R196, R197: every block after PIN and RESTART. -/
def keptState (kind : ResetKind) (wasStandby : Bool) (s : State) : State :=
  { pins := { s.pins with resetLow := false },
    mech := Mech.reset s.pins.cassetteIn,
    servo := Servo.reset s.link.settings.recordSpeed s.servo.tracking.mode s.servo.tracking.manual,
    pos := Pos.reset,
    mark := Mark.reset,
    tuner := tunerKept s.tuner,
    ldd := Ldd.reset,
    clock := clockKept s.clock,
    sched := schedAfterReset s,
    box := boxReset (some s.box),
    pwr := pwrKept kind wasStandby s.clock s.pwr,
    link := Link.reset s.link.settings,
    reports := [],
    pending := s.pending }

/-- R188, R197: supply-good at the end of a reset. With the phase UP it counts as asserted from here; a raise meets a SUP_GOOD
that is already high (log 11). -/
def supplyAfterReset (s : State) : State :=
  match s.pwr.phase with
  | .up => tunerInit (recover s)
  | .raising => if s.pins.supGood then supplyUp s else s
  | _ => s

/-- R145, R174, R197: PIN or RESTART, with the evaluation at its end. It comes before the end of a recovery run that has nothing
to move, so that an entry it grants keeps the supply up. -/
def keptReset (kind : ResetKind) (wasStandby : Bool) (s : State) : State :=
  supplyAfterReset (report .evaluate (keptState kind wasStandby s))

/-- The power state is STANDBY. -/
def State.inStandby (s : State) : Bool := decide (s.pwr.power = .standby)

/-- R196: RESET_N goes low: motor, amplifier and emitter outputs are inactive, no byte is sent, and the time in RECORD ends. -/
def resetLow (s : State) : State :=
  if s.pins.resetLow then s
  else
    let s1 := (recordStopped s).onMech fun m => { m with motor := .off, reel := .off, recAmp := false }
    let s2 := s1.onServo fun v => { v with drum := v.drum.halted, capstan := Capstan.reset }
    let s3 := (s2.onBox fun b => { b with sending := false }).onLink fun l => { l with sending := none }
    (s3.onPwr fun p => { p with resetFrom := some s.inStandby }).onPins fun p => { p with resetLow := true }

/-- R196: RESET_N returns high; without a low before it the command stands for the whole pulse (log 10). -/
def pinReset (s : State) : State :=
  let s1 := resetLow s
  keptReset .pin (s1.pwr.resetFrom.getD s1.inStandby) s1

/-- R139: the crystal while RESET_N is low: the clock runs on, and nothing is sent or handed on (log 10). -/
def clockAlone (f : State → State) (s : State) : State := { s with clock := (f s).clock }

end Sys2Proof.Machine
end

