-- ==== Sys2Proof/Machine/Link.lean ====
section
/-!
DEFINITION. Sys2Proof/Machine/Link.lean: the Link Interface (chapter 11): the receiver, the judgement and holding of frames, the taking
of requests and their replies, the transmitter's end of a frame, STATUS and the settings record.
-/

namespace Sys2Proof.Machine

/-! ## STATUS (R206, R207) -/

/-- Section 11.9: the 24 bytes of a STATUS reply. -/
def statusData (s : State) : List Byte :=
  let l := s.link
  let m := s.mech
  [byte s.pwr.power.code, byte s.pwr.phase.code, byte m.state.code,
    byte (if m.state = .shifting then m.target.code else m.state.code), byte m.owner.code, byte m.owner.slotOf] ++
  sbe24 s.pos.counter ++
  [byte (weight l.signalOk 1 + weight l.tapeEnd 2 + weight l.servoSlip 4 + weight l.labelLost 8 + weight s.pos.approx 16),
    byte s.tuner.state.code, byte s.ldd.state.code, byte s.clock.state.code, byte m.fault.code, byte l.framing, byte l.drop,
    byte l.overflow, byte s.servo.slip] ++
  be16 s.ldd.good ++ be16 s.ldd.bad ++ be16 s.ldd.toggles

/-- R206, R207: the flags are re-latched and the overflow count set to 0. -/
def relatch (s : State) : State :=
  s.onLink fun l =>
    { l with signalOk := !s.servo.envelope.noSignal, tapeEnd := s.supplyGood && s.pins.leaderEnd, servoSlip := false,
             labelLost := decide (s.ldd.state = .lost), overflow := 0 }

/-- R207: STATUS. -/
def statusRequest (s : State) : State × Answer := done (relatch s) (statusData s)

/-! ## The settings record (R208, R209) -/

/-- Section 11.9: the switches byte. -/
def switchesByte (x : Settings) : Byte :=
  byte (weight x.autoRewind 1 + weight x.autoplay 2 + weight x.indexStart 4 + weight x.autoClock 8 + weight x.keyWake 16 +
    weight x.casWake 32 + weight x.counterNotices 64 + weight x.remainingNotices 128)

/-- The codes of the line standards (section 11.9). -/
def standardCode : Standard → Nat
  | .a => 0 | .b => 1

/-- Section 11.9: the five bytes of the record. -/
def settingsData (s : State) : List Byte :=
  let x := s.link.settings
  [byte (standardCode x.currentStd), byte (standardCode x.pendingStd), byte (speedCode x.recordSpeed), switchesByte x,
    byte (x.boxFeed.getD 0)]

/-- A line standard by its code. -/
def standardOf (n : Nat) : Option Standard :=
  match n with | 0 => some .a | 1 => some .b | _ => none

/-- A speed by its code. -/
def speedOf (n : Nat) : Option Speed :=
  match n with | 0 => some .s | 1 => some .h | 2 => some .t | _ => none

/-- R209: every field the mask names exists and has a value within its range. -/
def settingsGood (r : SettingsBytes) : Bool :=
  decide (r.mask.toNat < 16) && (!bitOf r.mask 0 || (standardOf r.standard.toNat).isSome) &&
    (!bitOf r.mask 1 || (speedOf r.speed.toNat).isSome) && (!bitOf r.mask 3 || decide (r.feed.toNat ≤ Config.presetCount))

/-- R209: the record with the fields the mask names. -/
def settingsMasked (r : SettingsBytes) (x : Settings) : Settings :=
  let x1 := if bitOf r.mask 0 then { x with pendingStd := (standardOf r.standard.toNat).getD x.pendingStd } else x
  let x2 := if bitOf r.mask 1 then { x1 with recordSpeed := (speedOf r.speed.toNat).getD x1.recordSpeed } else x1
  let x3 := if bitOf r.mask 2 then
      { x2 with autoRewind := bitOf r.switches 0, autoplay := bitOf r.switches 1, indexStart := bitOf r.switches 2,
                autoClock := bitOf r.switches 3, keyWake := bitOf r.switches 4, casWake := bitOf r.switches 5,
                counterNotices := bitOf r.switches 6, remainingNotices := bitOf r.switches 7 }
    else x2
  if bitOf r.mask 3 then { x3 with boxFeed := if r.feed = 0 then none else some r.feed.toNat } else x3

/-- R208: the record speed held is legal under the current standard. -/
def speedCorrected (x : Settings) : Settings := { x with recordSpeed := x.recordSpeed.legal x.currentStd }

/-- R28, R209: the record after a write; in EMPTY a change of the pending standard makes it current at once, and the speed is corrected
against it. DESIGN CHOICE (log 22): a speed written with it is corrected once, against the standard then current. -/
def settingsWritten (empty : Bool) (r : SettingsBytes) (x : Settings) : Settings :=
  let x1 := settingsMasked r x
  speedCorrected (if empty && decide (x1.pendingStd ≠ x.pendingStd) then { x1 with currentStd := x1.pendingStd } else x1)

/-- R209: SETTINGS_WRITE. -/
def settingsWrite (r : SettingsBytes) (s : State) : State × Answer :=
  if settingsGood r then
    let s1 := s.onLink fun l => { l with settings := settingsWritten (decide (s.mech.state = .empty)) r l.settings }
    done s1 (settingsData s1)
  else refuse s .invalidArg

/-- R209: SETTINGS_READ. -/
def settingsRead (s : State) : State × Answer := done s (settingsData s)

/-! ## MECH requests (R6, R13, R92) -/

/-- R13: a cancel-timer STOP that reaches the owner check of a recorder held by TIMER. -/
def cancelsTimer (c : MechCmd) (cancel : Bool) (s : State) : Bool :=
  decide (c = .stop) && cancel && s.mech.owner.isTimer && decide (s.mech.state ≠ .jammed) && !s.mech.standbyStop &&
    !(s.mech.recoveryPending && !s.supplyGood)

/-- R92, R13, R14: a request of kind MECH. -/
def mechRequest (c : MechCmd) (paused cancel : Bool) (s : State) : State × Answer :=
  let s1 := searchCancel false s
  let s2 := if cancelsTimer c cancel s1 then cancelOwner s1 else s1
  let r := submit { what := c, paused := paused, cancel := cancel, origin := .panel } s2
  match r.2 with
  | .done => done r.1
  | .accepted => accepted r.1
  | .refused why => refuse r.1 why (refusalData why r.1)

/-! ## Requests and replies (R201) -/

/-- R201: a request in the hands of its owning block. RESTART has no answer, and an event is no request. -/
def serve (i : Instr) (s : State) : Option (State × Answer) :=
  match i with
  | .play => some (mechRequest .play false false s)
  | .record f => some (mechRequest .record f false s)
  | .pause => some (mechRequest .pause false false s)
  | .stop f => some (mechRequest .stop false f s)
  | .cue => some (mechRequest .cue false false s)
  | .review => some (mechRequest .review false false s)
  | .fwind => some (mechRequest .fwind false false s)
  | .rwind => some (mechRequest .rwind false false s)
  | .eject => some (mechRequest .eject false false s)
  | .indexSearch n f => some (indexSearch n f s)
  | .counterSearch v f => some (counterSearch v f s)
  | .blankSearch => some (blankSearch s)
  | .indexScan => some (indexScan s)
  | .markList n => some (markList n s)
  | .markWrite t v => some (markWrite t v s)
  | .markErase => some (markErase s)
  | .tracking m v => some (trackingRequest m v s)
  | .zero => some (zeroCounter s)
  | .setMemory v => some (setMemory v s)
  | .clearMemory => some (clearMemory s)
  | .position => some (positionRequest s)
  | .tunePreset n => some (tunePreset n s)
  | .tuneChannel p c => some (tuneChannel p c s)
  | .tuneDirect f => some (tuneDirect f s)
  | .tuneUp => some (tuneStep (upOrder s.selectedPreset) s)
  | .tuneDown => some (tuneStep (downOrder s.selectedPreset) s)
  | .source v => some (sourceRequest v s)
  | .presetWrite n r => some (presetWrite n r s)
  | .presetRead n => some (presetRead n s)
  | .scanStart p => some (scanStart p s)
  | .scanStop => some (scanStop s)
  | .clockSet t v => some (clockSet t v s)
  | .clockRead => some (clockRead s)
  | .entryWrite n r => some (entryWrite n r s)
  | .entryRead n => some (entryRead n s)
  | .cancel n => some (entryCancel n s)
  | .delete n => some (entryDelete n s)
  | .disable n => some (entryDisable n s)
  | .enable n => some (entryEnable n s)
  | .extend n t => some (entryExtend n t s)
  | .boxProfileLoad p => some (boxProfileLoad p s)
  | .boxProfileClear => some (boxProfileClear s)
  | .boxProfileRead n => some (boxProfileRead n s)
  | .boxKey n => some (boxKey n s)
  | .outletConfig a b => some (outletConfig a b s)
  | .outletOn => some (outletSwitch true s)
  | .outletOff => some (outletSwitch false s)
  | .outletRead => some (outletRead s)
  | .powerRequestOn => some (powerOn s)
  | .powerRequestStandby => some (powerStandby s)
  | .powerRequestRead => some (powerRead s)
  | .status => some (statusRequest s)
  | .settingsWrite r => some (settingsWrite r s)
  | .settingsRead => some (settingsRead s)
  | _ => none

/-- R201: the reply is formed in the reply slot. -/
def replyWith (kind : Byte) (r : State × Answer) : State :=
  r.1.onLink fun l => { l with reply := some { kind := kind, result := r.2.result, reason := r.2.reason, data := r.2.data } }

/-- R196, R201: a taken frame: RESTART resets, any other is answered. A MECH request coded outside the codes arrives at its taking, and
cancels a search before it is refused (R92). -/
def answerFrame (f : HeldFrame) (s : State) : State :=
  match f with
  | .bad kind => replyWith kind (refuse s .badFrame)
  | .unknown kind => replyWith kind (refuse s .unknown)
  | .malformed kind arrives => replyWith kind (refuse (if arrives then searchCancel false s else s) .invalidArg)
  | .request .restart => keptReset .restart s.inStandby s
  | .request i =>
    match serve i s with
    | some r => replyWith (kindOf i) r
    | none => s

/-- R201: the oldest frame is taken when the reply slot is empty. -/
def takeNext (s : State) : State :=
  match s.link.reply, s.link.holding with
  | none, f :: rest => answerFrame f (s.onLink fun l => { l with holding := rest })
  | _, _ => s

/-! ## Complete frames (R199, R200) -/

/-- R191, R199: a frame that wakes the deck. -/
def HeldFrame.wakes (f : HeldFrame) : Bool :=
  match f with
  | .bad _ => false
  | .unknown _ => false
  | .malformed _ _ => true
  | .request .powerRequestStandby => false
  | .request .powerRequestRead => false
  | .request .restart => false
  | .request _ => true

/-- R191: the wake of a frame completed in STANDBY. -/
def linkWake (f : HeldFrame) (s : State) : State := if f.wakes then wakeByFrame s else s

/-- R199, R200: a judged frame is held, and taken at once where the reply slot is empty. DESIGN CHOICE (log 51): one that wakes the deck
is so handled with the supply still down (R191), and a SUP_GOOD that is high already is acted on after it. -/
def arrive (f : HeldFrame) (s : State) : State :=
  if Config.holdingPlaces ≤ s.link.holding.length then s.onLink fun l => { l with drop := satInc 255 l.drop }
  else supplySeen (s.asleep && f.wakes) (takeNext ((linkWake f s).onLink fun l => { l with holding := l.holding ++ [f] }))

/-- R92, R201: a MECH request whose payload is not shorter than its layout: the command code and, for RECORD and STOP, the flag
(log 27). A shorter one does not reach MECH. -/
def mechArrives (kind : Byte) (payload : List Byte) : Bool :=
  match payload with
  | [] => false
  | c :: rest => decide (kind = 0x01) && (decide (c ≠ 1 ∧ c ≠ 3) || !rest.isEmpty)

/-- R199: the judgement of a frame with a good sum. -/
def judgeKind (kind : Byte) (payload : List Byte) : HeldFrame :=
  if requestKind kind then
    match parseRequest kind payload with
    | some i => .request i
    | none => .malformed kind (mechArrives kind payload)
  else .unknown kind

/-- R199: the judgement of a complete frame. -/
def judgeFrame (len : Nat) (kind : Byte) (payload : List Byte) (check : Byte) : HeldFrame :=
  if byte len + kind + payload.sum + check = 0 then judgeKind kind payload else .bad kind

/-! ## The receiver (R198) -/

/-- The receiver enters a state, its gap timer started where it is not HUNT. -/
def receiverTo (r : Receiver) (s : State) : State :=
  s.onLink fun l => { l with receiver := r, gap := (match r with | .hunt => none | _ => some s.now) }

/-- R198: a frame is abandoned and counted. -/
def abandon (next : Receiver) (s : State) : State :=
  receiverTo next (s.onLink fun l => { l with framing := satInc 255 l.framing })

/-- R199: the frame is complete with its check byte. -/
def completeFrame (len : Nat) (kind : Byte) (bytes : List Byte) (check : Byte) (s : State) : State :=
  arrive (judgeFrame len kind bytes.reverse check) (receiverTo .hunt s)

/-- R198: a byte received. -/
def receiveByte (b : Byte) (s : State) : State :=
  match s.link.receiver with
  | .hunt => if b = 0xA6 then receiverTo .length s else s
  | .length =>
    if b.toNat ≤ 60 then receiverTo (.kind b.toNat) s
    else abandon (if b = 0xA6 then .length else .hunt) s
  | .kind len => receiverTo (if len = 0 then .check 0 b [] else .payload len b []) s
  | .payload len kind bytes =>
    receiverTo (if bytes.length + 1 < len then .payload len kind (b :: bytes) else .check len kind (b :: bytes)) s
  | .check len kind bytes => completeFrame len kind bytes b s

/-- R199: FRAME_COMPLETE, the byte that is received in CHECK. -/
def frameCompleted (check : Byte) (s : State) : State :=
  match s.link.receiver with
  | .check len kind bytes => completeFrame len kind bytes check s
  | _ => s

/-- R198: FRAME_ABANDONED, by a byte out of range in LENGTH or one without its stop bit outside HUNT. -/
def frameAbandoned (why : FrameFault) (s : State) : State :=
  match why, s.link.receiver with
  | .badLength b, .length => receiveByte b s
  | .badLength _, _ => s
  | .missingStop, .hunt => s
  | .missingStop, _ => abandon .hunt s

/-- R198: more than 10 ms without a byte. -/
def receiveGap (s : State) : State :=
  if s.link.receiver ≠ .hunt ∧ s.link.gap.over Config.receiveGap s.now = true then abandon .hunt s else s

/-! ## The transmitter (R203) -/

/-- R203: the last byte of the frame being sent has gone; the next frame in the holding may be taken (R201). -/
def frameSent (s : State) : State :=
  match s.link.sending with
  | none => s
  | some .boot => s.onLink fun l => { l with sending := none, bootPending := false }
  | some .notice => s.onLink fun l => { l with sending := none, notices := l.notices.tail }
  | some .reply => takeNext (s.onLink fun l => { l with sending := none, reply := none })

end Sys2Proof.Machine
end

