-- ==== Sys2Proof/Machine/BoxEvents.lean ====
section
/-!
DEFINITION. Sys2Proof/Machine/BoxEvents.lean: the meanings of the events and requests of the Box Control Unit (chapter 9).
-/

namespace Sys2Proof.Machine

/-- R175: BOX_PROFILE LOAD. -/
def execBoxProfileLoad (profile : BoxProfile) (s : State) : Host.Outcome State Fault Refusal :=
  .next (run (arrive (.request (.boxProfileLoad profile))) s)

/-- R175: BOX_PROFILE CLEAR. -/
def execBoxProfileClear (s : State) : Host.Outcome State Fault Refusal :=
  .next (run (arrive (.request .boxProfileClear)) s)

/-- R214: BOX_PROFILE READ. -/
def execBoxProfileRead (part : Nat) (s : State) : Host.Outcome State Fault Refusal :=
  .next (run (arrive (.request (.boxProfileRead part))) s)

/-- R179: BOX_KEY. -/
def execBoxKey (key : Nat) (s : State) : Host.Outcome State Fault Refusal :=
  .next (run (arrive (.request (.boxKey key))) s)

/-- R177: the last gap of the frame being sent ends. -/
def execIrFrameSent (s : State) : Host.Outcome State Fault Refusal :=
  .next (run boxFrameSent s)

/-- R182: the retry timer. -/
def execIrRetryTimerExpiry (s : State) : Host.Outcome State Fault Refusal :=
  .next (run boxRetry s)

/-- R184: OUTLET CONFIG. -/
def execOutletConfig (onPoint : Nat) (offPoint : Nat) (s : State) : Host.Outcome State Fault Refusal :=
  .next (run (arrive (.request (.outletConfig onPoint offPoint))) s)

/-- R184: OUTLET ON. -/
def execOutletOn (s : State) : Host.Outcome State Fault Refusal :=
  .next (run (arrive (.request .outletOn)) s)

/-- R184: OUTLET OFF. -/
def execOutletOff (s : State) : Host.Outcome State Fault Refusal :=
  .next (run (arrive (.request .outletOff)) s)

/-- R184: OUTLET READ. -/
def execOutletRead (s : State) : Host.Outcome State Fault Refusal :=
  .next (run (arrive (.request .outletRead)) s)

/-- R185: the minimum-on timer. -/
def execMinimumOnTimerExpiry (s : State) : Host.Outcome State Fault Refusal :=
  .next (run outletMinimum s)

end Sys2Proof.Machine
end

