-- ==== Sys2Proof/Machine/ClockEvents.lean ====
section
/-!
DEFINITION. Sys2Proof/Machine/ClockEvents.lean: the meanings of the events and requests of the Clock (chapter 7).
-/

namespace Sys2Proof.Machine

/-- R139: an event of the crystal, which is counted while RESET_N is low too (log 10). -/
def runClock (f : State → State) (s : State) : State := if s.pins.resetLow then clockAlone f s else finish (f s)

/-- R129, R136: the fraction reaches the length of the second; the cycles left of it are counted (log 2). -/
def execSecondBoundary (s : State) : Host.Outcome State Fault Refusal :=
  .next (runClock (fun x => clockBoundary (clockToBoundary x)) s)

/-- R133: CLOCK_SET. -/
def execClockSet (time : Option DateTime) (trim : Option Int) (s : State) : Host.Outcome State Fault Refusal :=
  .next (run (arrive (.request (.clockSet time trim))) s)

/-- R134: CLOCK_READ. -/
def execClockRead (s : State) : Host.Outcome State Fault Refusal :=
  .next (run (arrive (.request .clockRead)) s)

end Sys2Proof.Machine
end

