-- ==== Sys2Proof/Machine/LineEvents.lean ====
section
/-!
DEFINITION. Sys2Proof/Machine/LineEvents.lean: the meanings of the events of the broadcast line data (chapter 6).
-/

namespace Sys2Proof.Machine

/-- R117: a packet as sliced. -/
def execLineDataPacket (packet : Packet) (s : State) : Host.Outcome State Fault Refusal :=
  .next (run (linePacket packet) s)

/-- R121: the label timer. -/
def execLabelTimerExpiry (s : State) : Host.Outcome State Fault Refusal :=
  .next (run labelTimer s)

end Sys2Proof.Machine
end

