-- ==== Sys2Proof/Machine/LinkEvents.lean ====
section
/-!
DEFINITION. Sys2Proof/Machine/LinkEvents.lean: the meanings of the events and requests of the Link Interface (chapter 11).
-/

namespace Sys2Proof.Machine

/-- R199: the check byte of a frame is received. -/
def execFrameComplete (check : Byte) (s : State) : Host.Outcome State Fault Refusal :=
  .next (run (frameCompleted check) s)

/-- R198: a byte abandons the frame. -/
def execFrameAbandoned (why : FrameFault) (s : State) : Host.Outcome State Fault Refusal :=
  .next (run (Machine.frameAbandoned why) s)

/-- R198: more than 10 ms within a frame without a byte. -/
def execReceiveGapTimeout (s : State) : Host.Outcome State Fault Refusal :=
  .next (run receiveGap s)

/-- R199, R201: a frame of a kind arrives whose sum is wrong. -/
def execBadFrame (kind : Byte) (s : State) : Host.Outcome State Fault Refusal :=
  .next (run (arrive (.bad kind)) s)

/-- R199, R201: a frame of a kind arrives with a good sum and no payload. -/
def execUnknownFrame (kind : Byte) (s : State) : Host.Outcome State Fault Refusal :=
  .next (run (arrive (judgeKind kind [])) s)

/-- R203: the last byte of the frame being sent has gone. -/
def execTxFrameEnd (s : State) : Host.Outcome State Fault Refusal :=
  .next (run frameSent s)

/-- R207: STATUS. -/
def execStatus (s : State) : Host.Outcome State Fault Refusal :=
  .next (run (arrive (.request .status)) s)

/-- R209: SETTINGS_WRITE. -/
def execSettingsWrite (bytes : SettingsBytes) (s : State) : Host.Outcome State Fault Refusal :=
  .next (run (arrive (.request (.settingsWrite bytes))) s)

/-- R209: SETTINGS_READ. -/
def execSettingsRead (s : State) : Host.Outcome State Fault Refusal :=
  .next (run (arrive (.request .settingsRead)) s)

/-- R198: a byte arrives. -/
def execByteReceived (b : Byte) (s : State) : Host.Outcome State Fault Refusal :=
  .next (run (receiveByte b) s)

end Sys2Proof.Machine
end

