-- ==== Sys2Proof/Machine/MarkEvents.lean ====
section
/-!
DEFINITION. Sys2Proof/Machine/MarkEvents.lean: the meanings of the events and requests of MARK (chapter 4): the reader, the writer and the searches.
-/

namespace Sys2Proof.Machine

/-- R75, R83: MARK's gap watch. -/
def execMarkGapTimeout (s : State) : Host.Outcome State Fault Refusal :=
  .next (run Machine.markGapTimeout s)

/-- R79: MARK LIST. -/
def execMarkList (first : Nat) (s : State) : Host.Outcome State Fault Refusal :=
  .next (run (arrive (.request (.markList first))) s)

/-- R80: MARK WRITE. -/
def execMarkWrite (type : Nat) (value : Nat) (s : State) : Host.Outcome State Fault Refusal :=
  .next (run (arrive (.request (.markWrite type value))) s)

/-- R84: MARK ERASE. -/
def execMarkErase (s : State) : Host.Outcome State Fault Refusal :=
  .next (run (arrive (.request .markErase)) s)

/-- R87, R88: SEARCH INDEX_SEARCH. -/
def execIndexSearch (n : Int) (playAfter : Bool) (s : State) : Host.Outcome State Fault Refusal :=
  .next (run (arrive (.request (.indexSearch n playAfter))) s)

/-- R87: SEARCH COUNTER_SEARCH. -/
def execCounterSearch (target : Int) (playAfter : Bool) (s : State) : Host.Outcome State Fault Refusal :=
  .next (run (arrive (.request (.counterSearch target playAfter))) s)

/-- R90: SEARCH BLANK_SEARCH. -/
def execBlankSearch (s : State) : Host.Outcome State Fault Refusal :=
  .next (run (arrive (.request .blankSearch)) s)

/-- R91: SEARCH INDEX_SCAN. -/
def execIndexScan (s : State) : Host.Outcome State Fault Refusal :=
  .next (run (arrive (.request .indexScan)) s)

/-- R90: the 2 s of a blank search. -/
def execBlankTimerExpiry (s : State) : Host.Outcome State Fault Refusal :=
  .next (run blankTimeout s)

/-- R91: the 8 s of an index scan. -/
def execScanPlayTimerExpiry (s : State) : Host.Outcome State Fault Refusal :=
  .next (run scanPlayTimeout s)

end Sys2Proof.Machine
end

