-- ==== Sys2Proof/Machine/MechCommands.lean ====
section
/-!
DEFINITION. Sys2Proof/Machine/MechCommands.lean: the meanings of the mechanism commands of the host, requests of kind MECH (section 1.4, R6 to R9, R13, R14, R18).
-/

namespace Sys2Proof.Machine

/-- R7: PLAY. -/
def execPlay (s : State) : Host.Outcome State Fault Refusal :=
  .next (run (arrive (.request .play)) s)

/-- R9: RECORD, with or without the start-paused flag. -/
def execRecord (startPaused : Bool) (s : State) : Host.Outcome State Fault Refusal :=
  .next (run (arrive (.request (.record startPaused))) s)

/-- R8: PAUSE. -/
def execPause (s : State) : Host.Outcome State Fault Refusal :=
  .next (run (arrive (.request .pause)) s)

/-- R7, R13: STOP, with or without the cancel-timer flag. -/
def execStop (cancelTimer : Bool) (s : State) : Host.Outcome State Fault Refusal :=
  .next (run (arrive (.request (.stop cancelTimer))) s)

/-- R7: CUE. -/
def execCue (s : State) : Host.Outcome State Fault Refusal :=
  .next (run (arrive (.request .cue)) s)

/-- R7: REVIEW. -/
def execReview (s : State) : Host.Outcome State Fault Refusal :=
  .next (run (arrive (.request .review)) s)

/-- R7: FWIND. -/
def execFwind (s : State) : Host.Outcome State Fault Refusal :=
  .next (run (arrive (.request .fwind)) s)

/-- R7: RWIND. -/
def execRwind (s : State) : Host.Outcome State Fault Refusal :=
  .next (run (arrive (.request .rwind)) s)

/-- R7, R28, R5: EJECT. -/
def execEject (s : State) : Host.Outcome State Fault Refusal :=
  .next (run (arrive (.request .eject)) s)

end Sys2Proof.Machine
end

