-- ==== Sys2Proof/Machine/MechEvents.lean ====
section
/-!
DEFINITION. Sys2Proof/Machine/MechEvents.lean: the meanings of the events of the mechanism (chapter 1): cam lines, switches, leader sensors, rest timers, stall.
-/

namespace Sys2Proof.Machine

/-- R191: a change of the cassette-in switch wakes the deck in STANDBY, where the cassette wake is enabled. -/
def cassetteWake (s : State) : State :=
  if s.inStandby && s.link.settings.casWake then wake .cassette s else s

/-- R1: the cam lines come to a code; at the target of a movement the movement ends. -/
def execCamTargetReached (code : CamCode) (s : State) : Host.Outcome State Fault Refusal :=
  .next (runPin (fun p => { p with cam := code }) (camReports code) s)

/-- R4: the timeout of the movement under way. -/
def execCamTimeout (s : State) : Host.Outcome State Fault Refusal :=
  .next (run Machine.camTimeout s)

/-- R27, R191: the cassette-in switch closes, over a cassette whose tab switch reads tab (log 5). -/
def execCassetteInClose (tab : Bool) (s : State) : Host.Outcome State Fault Refusal :=
  .next (runPin (fun p => { p with cassetteIn := true, tabSwitch := tab }) (fun x => cassetteWake (cassetteClosed x)) s)

/-- R28, R191: the cassette-in switch opens. DESIGN CHOICE (log 5): the tab switch then reads absent. -/
def execCassetteInOpen (s : State) : Host.Outcome State Fault Refusal :=
  .next (runPin (fun p => { p with cassetteIn := false, tabSwitch := false }) (fun x => cassetteWake (cassetteOpened x)) s)

/-- R21: the end-leader sensor becomes covered, or clear (log 5). -/
def execEndLeaderCovered (covered : Bool) (s : State) : Host.Outcome State Fault Refusal :=
  .next (runPin (fun p => { p with leaderEnd := covered }) (fun x => if covered then endLeaderTest x else x) s)

/-- R16, R22: the start-leader sensor becomes covered, or clear (log 5). -/
def execStartLeaderCovered (covered : Bool) (s : State) : Host.Outcome State Fault Refusal :=
  .next (runPin (fun p => { p with leaderStart := covered }) (fun x => if covered then Machine.startLeaderCovered x else x) s)

/-- R19: the still timer. -/
def execStillTimerExpiry (s : State) : Host.Outcome State Fault Refusal :=
  .next (run stillTimeout s)

/-- R20: the halt timer. -/
def execHaltTimerExpiry (s : State) : Host.Outcome State Fault Refusal :=
  .next (run haltTimeout s)

/-- R23: the watched reel exceeds its stall threshold. -/
def execReelStall (s : State) : Host.Outcome State Fault Refusal :=
  .next (run Machine.reelStall s)

end Sys2Proof.Machine
end

