-- ==== Sys2Proof/Machine/PositionEvents.lean ====
section
/-!
DEFINITION. Sys2Proof/Machine/PositionEvents.lean: the meanings of the events and requests of POS (chapter 3).
-/

namespace Sys2Proof.Machine

/-- R54, R56: 0.6 s of a motion without a control pulse. -/
def execPosGapTimeout (s : State) : Host.Outcome State Fault Refusal :=
  .next (run posGap s)

/-- R58: COUNTER_OP ZERO. -/
def execZero (s : State) : Host.Outcome State Fault Refusal :=
  .next (run (arrive (.request .zero)) s)

/-- R59: COUNTER_OP SET_MEMORY. -/
def execSetMemory (target : Int) (s : State) : Host.Outcome State Fault Refusal :=
  .next (run (arrive (.request (.setMemory target))) s)

/-- R59: COUNTER_OP CLEAR_MEMORY. -/
def execClearMemory (s : State) : Host.Outcome State Fault Refusal :=
  .next (run (arrive (.request .clearMemory)) s)

/-- R67: POSITION. -/
def execPosition (s : State) : Host.Outcome State Fault Refusal :=
  .next (run (arrive (.request .position)) s)

/-- R61, R23: a reel sensor pulse, with the interval before it in ticks (log 8). -/
def execReelPulse (reel : Reel) (interval : Nat) (s : State) : Host.Outcome State Fault Refusal :=
  .next (run (Machine.reelPulse reel interval) s)

/-- R68: a full second of a motion. -/
def execCounterNoticeTimer (s : State) : Host.Outcome State Fault Refusal :=
  .next (run counterTimer s)

/-- R68: a full ten seconds of a motion. -/
def execRemainingNoticeTimer (s : State) : Host.Outcome State Fault Refusal :=
  .next (run remainingTimer s)

end Sys2Proof.Machine
end

