-- ==== Sys2Proof/Machine/PowerEvents.lean ====
section
/-!
DEFINITION. Sys2Proof/Machine/PowerEvents.lean: the meanings of the events and requests of the Power Controller, and the resets (chapter 10).
-/

namespace Sys2Proof.Machine

/-- R188: SUP_GOOD rises; it is taken in RAISING. -/
def execSupGoodRise (s : State) : Host.Outcome State Fault Refusal :=
  .next (runPin (fun p => { p with supGood := true }) supplyRises s)

/-- R188: the supply timer. -/
def execSupplyTimerExpiry (s : State) : Host.Outcome State Fault Refusal :=
  .next (run supplyTimeout s)

/-- R190: SUP_GOOD falls; it is taken in UP and STOPPING. -/
def execSupplyFailure (s : State) : Host.Outcome State Fault Refusal :=
  .next (runPin (fun p => { p with supGood := false }) supplyFailed s)

/-- R191 to R193: a power-key closure held for 30 ms. -/
def execPowerKeyPress (s : State) : Host.Outcome State Fault Refusal :=
  .next (run powerKey s)

/-- R195: POWER ON. -/
def execPowerRequestOn (s : State) : Host.Outcome State Fault Refusal :=
  .next (run (arrive (.request .powerRequestOn)) s)

/-- R193, R195: POWER STANDBY. -/
def execPowerRequestStandby (s : State) : Host.Outcome State Fault Refusal :=
  .next (run (arrive (.request .powerRequestStandby)) s)

/-- R195: POWER READ. -/
def execPowerRequestRead (s : State) : Host.Outcome State Fault Refusal :=
  .next (run (arrive (.request .powerRequestRead)) s)

/-- R196, R197: power is applied to the standby rail. -/
def execPowerOnReset (s : State) : Host.Outcome State Fault Refusal :=
  .next (finish (Machine.powerOnReset s))

/-- R196, R197: RESET_N returns high after being held low. -/
def execPinReset (s : State) : Host.Outcome State Fault Refusal :=
  .next (finish (Machine.pinReset s))

/-- R196, R201: RESTART; it resets when it is taken, without a reply. -/
def execRestart (s : State) : Host.Outcome State Fault Refusal :=
  .next (run (arrive (.request .restart)) s)

/-- R196: RESET_N goes low. -/
def execResetLineLow (s : State) : Host.Outcome State Fault Refusal :=
  .next (resetLow s)

end Sys2Proof.Machine
end

