-- ==== Sys2Proof/Machine/SchedEvents.lean ====
section
/-!
DEFINITION. Sys2Proof/Machine/SchedEvents.lean: the meanings of the events and requests of the Programme Scheduler (chapter 8).
-/

namespace Sys2Proof.Machine

/-- R140: ENTRY_WRITE. -/
def execEntryWrite (slot : Nat) (entry : EntryRecord) (s : State) : Host.Outcome State Fault Refusal :=
  .next (run (arrive (.request (.entryWrite slot entry))) s)

/-- R141: ENTRY_READ. -/
def execEntryRead (slot : Nat) (s : State) : Host.Outcome State Fault Refusal :=
  .next (run (arrive (.request (.entryRead slot))) s)

/-- R170: ENTRY_CONTROL CANCEL. -/
def execCancel (slot : Nat) (s : State) : Host.Outcome State Fault Refusal :=
  .next (run (arrive (.request (.cancel slot))) s)

/-- R170: ENTRY_CONTROL DELETE. -/
def execDelete (slot : Nat) (s : State) : Host.Outcome State Fault Refusal :=
  .next (run (arrive (.request (.delete slot))) s)

/-- R171: ENTRY_CONTROL DISABLE. -/
def execDisable (slot : Nat) (s : State) : Host.Outcome State Fault Refusal :=
  .next (run (arrive (.request (.disable slot))) s)

/-- R171: ENTRY_CONTROL ENABLE. -/
def execEnable (slot : Nat) (s : State) : Host.Outcome State Fault Refusal :=
  .next (run (arrive (.request (.enable slot))) s)

/-- R172: ENTRY_CONTROL EXTEND. -/
def execExtend (slot : Nat) (newStop : DateTime) (s : State) : Host.Outcome State Fault Refusal :=
  .next (run (arrive (.request (.extend slot newStop))) s)

/-- R145: the due timer. -/
def execDueTimerExpiry (s : State) : Host.Outcome State Fault Refusal :=
  .next (run dueTimeout s)

/-- R154: the stop timer. -/
def execStopTimerExpiry (s : State) : Host.Outcome State Fault Refusal :=
  .next (run stopTimeout s)

/-- R158: the scheduled-stop timer. -/
def execScheduledStopExpiry (s : State) : Host.Outcome State Fault Refusal :=
  .next (run scheduledStopTimeout s)

/-- R160: the window timer. -/
def execWindowTimerExpiry (s : State) : Host.Outcome State Fault Refusal :=
  .next (run windowTimeout s)

/-- R159: the held timer. -/
def execHeldTimerExpiry (s : State) : Host.Outcome State Fault Refusal :=
  .next (run heldTimeout s)

/-- R161: the label-loss timer. -/
def execLabelLossTimerExpiry (s : State) : Host.Outcome State Fault Refusal :=
  .next (run labelLossTimeout s)

/-- R168: the post-hold timer. -/
def execPostHoldTimerExpiry (s : State) : Host.Outcome State Fault Refusal :=
  .next (run postHoldTimeout s)

/-- R162: the recorded seconds reach the next multiple of 300. -/
def execRecordedSecondsCheck (s : State) : Host.Outcome State Fault Refusal :=
  .next (run recordedCheck s)

end Sys2Proof.Machine
end

