-- ==== Sys2Proof/Machine/ServoEvents.lean ====
section
/-!
DEFINITION. Sys2Proof/Machine/ServoEvents.lean: the meanings of the events of SERVO and the TRACKING request (chapter 2); a change of the loops may end a lock wait or pre-roll (R17).
-/

namespace Sys2Proof.Machine

/-- R34: a drum FG pulse, its period in nanoseconds (log 8). -/
def execDrumFgPulse (period : Nat) (s : State) : Host.Outcome State Fault Refusal :=
  .next (run (fun x => junctionTest (drumFg period x)) s)

/-- R34: a drum PG pulse, its phase error in millionths of a frame (log 8). -/
def execDrumPgPulse (phase : Int) (s : State) : Host.Outcome State Fault Refusal :=
  .next (run (fun x => junctionTest (drumPg phase x)) s)

/-- R34: a drum FG pulse is missing. -/
def execDrumFgOverdue (s : State) : Host.Outcome State Fault Refusal :=
  .next (run (fun x => junctionTest (drumFgMissing x)) s)

/-- R34: a drum PG pulse is missing. -/
def execDrumPgOverdue (s : State) : Host.Outcome State Fault Refusal :=
  .next (run (fun x => junctionTest (drumPgMissing x)) s)

/-- R36, R54, R55: a capstan FG pulse, its period in nanoseconds (log 8). -/
def execCapstanFgPulse (period : Nat) (s : State) : Host.Outcome State Fault Refusal :=
  .next (run (capstanPulse period) s)

/-- R35: the drum lock timer. -/
def execDrumLockTimeout (s : State) : Host.Outcome State Fault Refusal :=
  .next (run Machine.drumLockTimeout s)

/-- R37: the capstan lock timer. -/
def execCapstanLockTimeout (s : State) : Host.Outcome State Fault Refusal :=
  .next (run Machine.capstanLockTimeout s)

/-- R41: the record gate. -/
def execRecordGateTimeout (s : State) : Host.Outcome State Fault Refusal :=
  .next (run gateTimeout s)

/-- R42: the record guard of the loops. -/
def execRecordGuardTimeout (s : State) : Host.Outcome State Fault Refusal :=
  .next (run guardTimeout s)

/-- R38, R40: a vertical sync pulse of a source, with the interval before it in nanoseconds and the envelope level then present (log 8). -/
def execVsyncPulse (src : Source) (interval : Nat) (envelope : Nat) (s : State) : Host.Outcome State Fault Refusal :=
  .next (run (vsync src interval envelope) s)

/-- R38: three field periods without a sync pulse of a source. -/
def execSyncAbsentTimeout (src : Source) (s : State) : Host.Outcome State Fault Refusal :=
  .next (run (fun x => junctionTest (syncAbsent src x)) s)

/-- R38, R40: the internal frame edge, with the envelope level then present (log 8). -/
def execInternalFrameEdge (envelope : Nat) (s : State) : Host.Outcome State Fault Refusal :=
  .next (run (internalEdge envelope) s)

/-- R40: a replayed control pulse: its duty in parts per thousand, its phase in millionths of a frame, the interval before it in nanoseconds and the envelope level then present (log 8). -/
def execControlPulseReplayed (duty : Nat) (phase : Int) (interval : Nat) (envelope : Nat) (s : State) : Host.Outcome State Fault Refusal :=
  .next (run (replayedPulse duty phase interval envelope) s)

/-- R36: 0.6 s without a replayed control pulse. -/
def execPhaseModeGapTimeout (s : State) : Host.Outcome State Fault Refusal :=
  .next (run (fun x => junctionTest (phaseGap x)) s)

/-- R44: 1 s without a control pulse in PLAY. -/
def execPlaySpeedGapTimeout (s : State) : Host.Outcome State Fault Refusal :=
  .next (run speedGap s)

/-- R47: TRACKING. -/
def execTracking (mode : TrackingArg) (value : Option Int) (s : State) : Host.Outcome State Fault Refusal :=
  .next (run (arrive (.request (.tracking mode value))) s)

end Sys2Proof.Machine
end

