-- ==== Sys2Proof/Machine/TunerEvents.lean ====
section
/-!
DEFINITION. Sys2Proof/Machine/TunerEvents.lean: the meanings of the events and requests of TUNER (chapter 5).
-/

namespace Sys2Proof.Machine

/-- R95, R96, R102: the transaction in flight ends; answer is what a READ of STATUS returned, none where it failed. -/
def execTunerTransactionEnd (answer : Option ModuleStatus) (s : State) : Host.Outcome State Fault Refusal :=
  .next (run (transactionEnd answer) s)

/-- R98: the INIT wait. -/
def execInitWaitExpiry (s : State) : Host.Outcome State Fault Refusal :=
  .next (run initWaited s)

/-- R101: the settle timer. -/
def execSettleTimerExpiry (s : State) : Host.Outcome State Fault Refusal :=
  .next (run settleExpired s)

/-- R104: the watch timer. -/
def execWatchTimerExpiry (s : State) : Host.Outcome State Fault Refusal :=
  .next (run watchExpired s)

/-- R108: TUNE PRESET. -/
def execTunePreset (n : Nat) (s : State) : Host.Outcome State Fault Refusal :=
  .next (run (arrive (.request (.tunePreset n))) s)

/-- R108: TUNE CHANNEL. -/
def execTuneChannel (plan : Nat) (channel : Nat) (s : State) : Host.Outcome State Fault Refusal :=
  .next (run (arrive (.request (.tuneChannel plan channel))) s)

/-- R108: TUNE DIRECT. -/
def execTuneDirect (steps : Nat) (s : State) : Host.Outcome State Fault Refusal :=
  .next (run (arrive (.request (.tuneDirect steps))) s)

/-- R108: TUNE UP. -/
def execTuneUp (s : State) : Host.Outcome State Fault Refusal :=
  .next (run (arrive (.request .tuneUp)) s)

/-- R108: TUNE DOWN. -/
def execTuneDown (s : State) : Host.Outcome State Fault Refusal :=
  .next (run (arrive (.request .tuneDown)) s)

/-- R109: SOURCE. -/
def execSource (src : Source) (s : State) : Host.Outcome State Fault Refusal :=
  .next (run (arrive (.request (.source src))) s)

/-- R107, R212: PRESET_WRITE. -/
def execPresetWrite (n : Nat) (entry : PresetRecord) (s : State) : Host.Outcome State Fault Refusal :=
  .next (run (arrive (.request (.presetWrite n entry))) s)

/-- R107: PRESET_READ. -/
def execPresetRead (n : Nat) (s : State) : Host.Outcome State Fault Refusal :=
  .next (run (arrive (.request (.presetRead n))) s)

/-- R111: SCAN START. -/
def execScanStart (plan : Nat) (s : State) : Host.Outcome State Fault Refusal :=
  .next (run (arrive (.request (.scanStart plan))) s)

/-- R111: SCAN STOP. -/
def execScanStop (s : State) : Host.Outcome State Fault Refusal :=
  .next (run (arrive (.request .scanStop)) s)

/-- R112: the 60 ms wait after a lock within a scan. -/
def execScanConfirmExpiry (s : State) : Host.Outcome State Fault Refusal :=
  .next (run scanConfirm s)

end Sys2Proof.Machine
end

