-- ==== Sys2Proof/Machine/Dispatch.lean ====
section
/-!
DEFINITION. Sys2Proof/Machine/Dispatch.lean: exec, one arm per command, each one direct call of its meaning.
-/

namespace Sys2Proof.Machine

def exec (i : Instr) (s : State) : Host.Outcome State Fault Refusal :=
  match i with
  -- Mechanism commands of the host (requests of kind MECH, section 1.4)
  | .play => Sys2Proof.Machine.execPlay s
  | .record startPaused => Sys2Proof.Machine.execRecord startPaused s
  | .pause => Sys2Proof.Machine.execPause s
  | .stop cancelTimer => Sys2Proof.Machine.execStop cancelTimer s
  | .cue => Sys2Proof.Machine.execCue s
  | .review => Sys2Proof.Machine.execReview s
  | .fwind => Sys2Proof.Machine.execFwind s
  | .rwind => Sys2Proof.Machine.execRwind s
  | .eject => Sys2Proof.Machine.execEject s
  -- Events of the mechanism (chapter 1)
  | .camTargetReached code => Sys2Proof.Machine.execCamTargetReached code s
  | .camTimeout => Sys2Proof.Machine.execCamTimeout s
  | .cassetteInClose tab => Sys2Proof.Machine.execCassetteInClose tab s
  | .cassetteInOpen => Sys2Proof.Machine.execCassetteInOpen s
  | .endLeaderCovered covered => Sys2Proof.Machine.execEndLeaderCovered covered s
  | .startLeaderCovered covered => Sys2Proof.Machine.execStartLeaderCovered covered s
  | .stillTimerExpiry => Sys2Proof.Machine.execStillTimerExpiry s
  | .haltTimerExpiry => Sys2Proof.Machine.execHaltTimerExpiry s
  | .reelStall => Sys2Proof.Machine.execReelStall s
  -- Servo and tracking (chapter 2)
  | .drumFgPulse period => Sys2Proof.Machine.execDrumFgPulse period s
  | .drumPgPulse phase => Sys2Proof.Machine.execDrumPgPulse phase s
  | .drumFgOverdue => Sys2Proof.Machine.execDrumFgOverdue s
  | .drumPgOverdue => Sys2Proof.Machine.execDrumPgOverdue s
  | .capstanFgPulse period => Sys2Proof.Machine.execCapstanFgPulse period s
  | .drumLockTimeout => Sys2Proof.Machine.execDrumLockTimeout s
  | .capstanLockTimeout => Sys2Proof.Machine.execCapstanLockTimeout s
  | .recordGateTimeout => Sys2Proof.Machine.execRecordGateTimeout s
  | .recordGuardTimeout => Sys2Proof.Machine.execRecordGuardTimeout s
  | .vsyncPulse src interval envelope => Sys2Proof.Machine.execVsyncPulse src interval envelope s
  | .syncAbsentTimeout src => Sys2Proof.Machine.execSyncAbsentTimeout src s
  | .internalFrameEdge envelope => Sys2Proof.Machine.execInternalFrameEdge envelope s
  | .controlPulseReplayed duty phase interval envelope => Sys2Proof.Machine.execControlPulseReplayed duty phase interval envelope s
  | .phaseModeGapTimeout => Sys2Proof.Machine.execPhaseModeGapTimeout s
  | .playSpeedGapTimeout => Sys2Proof.Machine.execPlaySpeedGapTimeout s
  | .tracking mode value => Sys2Proof.Machine.execTracking mode value s
  -- Position (chapter 3)
  | .posGapTimeout => Sys2Proof.Machine.execPosGapTimeout s
  | .zero => Sys2Proof.Machine.execZero s
  | .setMemory target => Sys2Proof.Machine.execSetMemory target s
  | .clearMemory => Sys2Proof.Machine.execClearMemory s
  | .position => Sys2Proof.Machine.execPosition s
  | .reelPulse reel interval => Sys2Proof.Machine.execReelPulse reel interval s
  | .counterNoticeTimer => Sys2Proof.Machine.execCounterNoticeTimer s
  | .remainingNoticeTimer => Sys2Proof.Machine.execRemainingNoticeTimer s
  -- Marks and searches (chapter 4)
  | .markGapTimeout => Sys2Proof.Machine.execMarkGapTimeout s
  | .markList first => Sys2Proof.Machine.execMarkList first s
  | .markWrite type value => Sys2Proof.Machine.execMarkWrite type value s
  | .markErase => Sys2Proof.Machine.execMarkErase s
  | .indexSearch n playAfter => Sys2Proof.Machine.execIndexSearch n playAfter s
  | .counterSearch target playAfter => Sys2Proof.Machine.execCounterSearch target playAfter s
  | .blankSearch => Sys2Proof.Machine.execBlankSearch s
  | .indexScan => Sys2Proof.Machine.execIndexScan s
  | .blankTimerExpiry => Sys2Proof.Machine.execBlankTimerExpiry s
  | .scanPlayTimerExpiry => Sys2Proof.Machine.execScanPlayTimerExpiry s
  -- Tuner (chapter 5)
  | .tunerTransactionEnd answer => Sys2Proof.Machine.execTunerTransactionEnd answer s
  | .initWaitExpiry => Sys2Proof.Machine.execInitWaitExpiry s
  | .settleTimerExpiry => Sys2Proof.Machine.execSettleTimerExpiry s
  | .watchTimerExpiry => Sys2Proof.Machine.execWatchTimerExpiry s
  | .tunePreset n => Sys2Proof.Machine.execTunePreset n s
  | .tuneChannel plan channel => Sys2Proof.Machine.execTuneChannel plan channel s
  | .tuneDirect steps => Sys2Proof.Machine.execTuneDirect steps s
  | .tuneUp => Sys2Proof.Machine.execTuneUp s
  | .tuneDown => Sys2Proof.Machine.execTuneDown s
  | .source src => Sys2Proof.Machine.execSource src s
  | .presetWrite n entry => Sys2Proof.Machine.execPresetWrite n entry s
  | .presetRead n => Sys2Proof.Machine.execPresetRead n s
  | .scanStart plan => Sys2Proof.Machine.execScanStart plan s
  | .scanStop => Sys2Proof.Machine.execScanStop s
  | .scanConfirmExpiry => Sys2Proof.Machine.execScanConfirmExpiry s
  -- Line data (chapter 6)
  | .lineDataPacket packet => Sys2Proof.Machine.execLineDataPacket packet s
  | .labelTimerExpiry => Sys2Proof.Machine.execLabelTimerExpiry s
  -- Clock (chapter 7)
  | .secondBoundary => Sys2Proof.Machine.execSecondBoundary s
  | .clockSet time trim => Sys2Proof.Machine.execClockSet time trim s
  | .clockRead => Sys2Proof.Machine.execClockRead s
  -- Timed recordings (chapter 8)
  | .entryWrite slot entry => Sys2Proof.Machine.execEntryWrite slot entry s
  | .entryRead slot => Sys2Proof.Machine.execEntryRead slot s
  | .cancel slot => Sys2Proof.Machine.execCancel slot s
  | .delete slot => Sys2Proof.Machine.execDelete slot s
  | .disable slot => Sys2Proof.Machine.execDisable slot s
  | .enable slot => Sys2Proof.Machine.execEnable slot s
  | .extend slot newStop => Sys2Proof.Machine.execExtend slot newStop s
  | .dueTimerExpiry => Sys2Proof.Machine.execDueTimerExpiry s
  | .stopTimerExpiry => Sys2Proof.Machine.execStopTimerExpiry s
  | .scheduledStopExpiry => Sys2Proof.Machine.execScheduledStopExpiry s
  | .windowTimerExpiry => Sys2Proof.Machine.execWindowTimerExpiry s
  | .heldTimerExpiry => Sys2Proof.Machine.execHeldTimerExpiry s
  | .labelLossTimerExpiry => Sys2Proof.Machine.execLabelLossTimerExpiry s
  | .postHoldTimerExpiry => Sys2Proof.Machine.execPostHoldTimerExpiry s
  -- Set-top box and outlet (chapter 9)
  | .boxProfileLoad profile => Sys2Proof.Machine.execBoxProfileLoad profile s
  | .boxProfileClear => Sys2Proof.Machine.execBoxProfileClear s
  | .boxProfileRead part => Sys2Proof.Machine.execBoxProfileRead part s
  | .boxKey key => Sys2Proof.Machine.execBoxKey key s
  | .irFrameSent => Sys2Proof.Machine.execIrFrameSent s
  | .irRetryTimerExpiry => Sys2Proof.Machine.execIrRetryTimerExpiry s
  | .outletConfig onPoint offPoint => Sys2Proof.Machine.execOutletConfig onPoint offPoint s
  | .outletOn => Sys2Proof.Machine.execOutletOn s
  | .outletOff => Sys2Proof.Machine.execOutletOff s
  | .outletRead => Sys2Proof.Machine.execOutletRead s
  | .minimumOnTimerExpiry => Sys2Proof.Machine.execMinimumOnTimerExpiry s
  -- Power (chapter 10)
  | .supGoodRise => Sys2Proof.Machine.execSupGoodRise s
  | .supplyTimerExpiry => Sys2Proof.Machine.execSupplyTimerExpiry s
  | .supplyFailure => Sys2Proof.Machine.execSupplyFailure s
  | .powerKeyPress => Sys2Proof.Machine.execPowerKeyPress s
  | .powerRequestOn => Sys2Proof.Machine.execPowerRequestOn s
  | .powerRequestStandby => Sys2Proof.Machine.execPowerRequestStandby s
  | .powerRequestRead => Sys2Proof.Machine.execPowerRequestRead s
  | .powerOnReset => Sys2Proof.Machine.execPowerOnReset s
  | .pinReset => Sys2Proof.Machine.execPinReset s
  | .restart => Sys2Proof.Machine.execRestart s
  -- Link (chapter 11)
  | .frameComplete check => Sys2Proof.Machine.execFrameComplete check s
  | .frameAbandoned why => Sys2Proof.Machine.execFrameAbandoned why s
  | .receiveGapTimeout => Sys2Proof.Machine.execReceiveGapTimeout s
  | .badFrame kind => Sys2Proof.Machine.execBadFrame kind s
  | .unknownFrame kind => Sys2Proof.Machine.execUnknownFrame kind s
  | .txFrameEnd => Sys2Proof.Machine.execTxFrameEnd s
  | .status => Sys2Proof.Machine.execStatus s
  | .settingsWrite bytes => Sys2Proof.Machine.execSettingsWrite bytes s
  | .settingsRead => Sys2Proof.Machine.execSettingsRead s
  | .recordedSecondsCheck => Sys2Proof.Machine.execRecordedSecondsCheck s
  | .byteReceived b => Sys2Proof.Machine.execByteReceived b s
  | .resetLineLow => Sys2Proof.Machine.execResetLineLow s

end Sys2Proof.Machine
end

