-- ==== Sys2Proof/Machine/Step.lean ====
section
/-!
DEFINITION. Sys2Proof/Machine/Step.lean: one step of the part: the command at the front of the queue, or one cycle of the crystal when
nothing waits (log 2). The part is a block that is handed commands: it fetches nothing, so withFetchWord puts a command in the queue.
-/

namespace Sys2Proof.Machine

/-- One step: the front command with the queue's rest; with nothing waiting, one cycle of the crystal (R129, log 2). -/
def step (s : State) : Host.Outcome State Fault Refusal :=
  match s.pending with
  | [] => .next (runClock clockCycle s)
  | c :: rest => exec c { s with pending := rest }

/-- The command a word spells is put at the front of the queue; the table gives its rows no bits, so no word spells one. -/
def State.withFetchWord (s : State) (nbits w : Nat) : State :=
  match decodeTableWord nbits w with
  | none => s
  | some c => { s with pending := c :: s.pending }

end Sys2Proof.Machine
end

