-- ==== Sys2Proof/Safety.lean ====
section
/-!
DEFINITION. Sys2Proof/Safety.lean: what counts as a sound state and a safe step, in the terms the statements use: when a command is
heard and answered at once, the end of a step that hands nothing on, and the invariants that every step keeps.
-/

namespace Sys2Proof.Machine

/-! ## When a command is heard -/

/-- Between two steps with RESET_N high: the part hears events (R196), and no report waits. -/
abbrev State.hears (s : State) : Prop := s.pins.resetLow = false ∧ s.reports = []

/-- The part can take a request and answer it at once (R201), out of STANDBY, where no request wakes the deck (R191). -/
abbrev State.takes (s : State) : Prop :=
  s.hears ∧ s.pwr.power ≠ .standby ∧ s.link.reply = none ∧ s.link.holding = []

/-- MECH can execute a command on its arrival (R6): no recovery, standby stop, movement, command or search is under way. -/
abbrev State.deckFree (s : State) : Prop :=
  s.mech.recoveryPending = false ∧ s.mech.standbyStop = false ∧ s.mech.inFlight = none ∧ s.mech.slot = none ∧
    s.mech.state.transition = false ∧ s.mark.search = none

/-- No entry of the programme has an occurrence to come or under way (R143): an evaluation finds nothing to do. -/
abbrev State.noOccurrence (s : State) : Prop := (∀ t ∈ s.sched.slots, t.occ = none) ∧ s.sched.holder = none

/-- The programme table holds this in a slot 1..16. -/
abbrev State.hasSlot (n : Nat) (k : Slot) (s : State) : Prop := 1 ≤ n ∧ n ≤ 16 ∧ s.sched.slots[n - 1]? = some k

/-- No entry but the one of this slot has an occurrence (R143). -/
abbrev State.onlyOccurrence (n : Nat) (s : State) : Prop := ∀ t ∈ s.sched.slots.set (n - 1) Slot.reset, t.occ = none

/-- The packet is a good LABEL packet that LDD, active, confirms and hands to SCHED as a new label (R116, R117, R119, R120). -/
abbrev State.newLabelIn (p : Packet) (l : Label) (s : State) : Prop :=
  s.ldd.active = true ∧ p.payload.foldl (· ^^^ ·) p.kind = p.check ∧ p.kind = 1 ∧ judgeLabel p.label = some l ∧
    s.ldd.candidate = some l ∧ ∀ old ∈ s.ldd.last, l.toggle ≠ old.toggle

/-- R156: the label's day, month and time are those of the occurrence's date and the entry's start, and the network code learned
before it, if any, is its own. -/
abbrev State.labelIsOf (l : Label) (e : Entry) (o : Occurrence) (s : State) : Prop :=
  l.day = o.date.day ∧ l.month = o.date.month ∧ l.hour * 60 + l.minute = e.start ∧
    ∀ n ∈ s.ldd.tuned, ∀ c ∈ s.presetCode n, c = l.network

/-- A place is free in the notice queue for so many notices (R204). -/
abbrev State.roomFor (n : Nat) (s : State) : Prop := s.link.notices.length + n ≤ Config.noticePlaces

/-! ## The end of a step -/

/-- The end of a step in which no block has handed another a report: the rest timers follow (R19, R20), and an idle transmitter
chooses its next frame (R203). -/
def State.closed (s : State) : State := transmit (restTimers s)

/-- A reply stands in the reply slot (R201). -/
def State.answered (kind : Byte) (result : Result) (reason : Reason) (data : List Byte) (s : State) : State :=
  s.onLink fun l => { l with reply := some { kind := kind, result := result, reason := reason, data := data } }

/-- The request is refused and no block's state changes (R202). -/
def refusedWith (i : Instr) (kind : Byte) (why : Reason) (data : List Byte) (s : State) : Prop :=
  exec i s = .next (s.answered kind .refused why data).closed

/-! ## What a step leaves alone -/

/-- MECH is as it was, but for the rest timers, which follow at the end of every step (R19, R20). -/
abbrev sameMech (s t : State) : Prop := t.mech = { s.mech with still := t.mech.still, halt := t.mech.halt }

/-- LINK is as it was, but for the frame an idle transmitter may have chosen at the end of the step (R203). -/
abbrev sameLink (s t : State) : Prop := t.link = { s.link with sending := t.link.sending }

/-- The lines, TUNER, LDD, CLOCK, SCHED, BOX, PWR and the commands that wait are as they were. -/
abbrev sameOuter (s t : State) : Prop :=
  t.pins = s.pins ∧ t.tuner = s.tuner ∧ t.ldd = s.ldd ∧ t.clock = s.clock ∧ t.sched = s.sched ∧ t.box = s.box ∧ t.pwr = s.pwr ∧
    t.pending = s.pending

/-- The tape's blocks (the lines, MECH but for the rest timers, SERVO, POS and MARK) and the commands that wait are as they
were. -/
abbrev sameTape (s t : State) : Prop :=
  t.pins = s.pins ∧ sameMech s t ∧ t.servo = s.servo ∧ t.pos = s.pos ∧ t.mark = s.mark ∧ t.pending = s.pending

/-- All but MECH's rest timers, SCHED and LINK is as it was. -/
abbrev sameBesideSched (s t : State) : Prop :=
  sameTape s t ∧ t.tuner = s.tuner ∧ t.ldd = s.ldd ∧ t.clock = s.clock ∧ t.box = s.box ∧ t.pwr = s.pwr

/-! ## Invariants -/

/-- R3: the record amplifier is enabled in RECORD and in no other state. -/
abbrev State.ampOnlyInRecord (s : State) : Prop := s.mech.recAmp = true → s.mech.state = .record

/-- R130, R131, R133, R136: CLOCK holds a real date-time of the calendar, a trim within −31..31 and a trim count of 0..15. -/
abbrev State.clockSound (s : State) : Prop :=
  timeLegal s.clock.time = true ∧ -31 ≤ s.clock.trim ∧ s.clock.trim ≤ 31 ∧ s.clock.trimCount ≤ 15

/-- R142, R76, R107, R178, R200, R204, R208: the 16 slots, 80 presets and at most 32 marks, 8 frames of the IR queue, 2 held frames and
12 notices; the record speed is legal under the current line standard. -/
abbrev State.placesKept (s : State) : Prop :=
  s.sched.slots.length = 16 ∧ s.tuner.presets.length = 80 ∧ s.mark.list.length ≤ 32 ∧ s.box.queue.length ≤ 8 ∧
    s.link.holding.length ≤ 2 ∧ s.link.notices.length ≤ 12 ∧ s.link.settings.recordSpeed.isLegal s.link.settings.currentStd = true

/-- R146: at most one entry is in WATCHING, PREPARING, RECORDING or HELD, the holder, which has an occurrence; the recorder owner is
TIMER of its slot, and is TIMER of no other. -/
abbrev State.recorderHeldOnce (s : State) : Prop :=
  s.sched.slots.length = 16 ∧
  (∀ h ∈ s.sched.holder, 1 ≤ h.slot ∧ h.slot ≤ 16 ∧ (s.slot h.slot).state.holds = true ∧ (s.slot h.slot).occ.isSome = true ∧
    s.mech.owner = .timer h.slot) ∧
  (∀ n < 16, (s.slot (n + 1)).state.holds = true → s.sched.holder.map Holder.slot = some (n + 1)) ∧
  (s.mech.owner.isTimer = true → s.sched.holder.isSome = true)

/-- R16, R17, R19, R20: a junction operation runs in REC_PAUSE only, the still timer in STILL and REC_PAUSE only, and the halt timer in
HALT only. -/
abbrev State.restSound (s : State) : Prop :=
  (s.mech.junction.isSome = true → s.mech.state = .recPause) ∧
  (s.mech.still.isSome = true → s.mech.state = .still ∨ s.mech.state = .recPause) ∧
  (s.mech.halt.isSome = true → s.mech.state = .halt)

/-- R188, R189, R191, R29, R30, R97: in STANDBY the supply is down, a raise has the ON mark set, and no entry holds the recorder, but
for one whose loss of the supply is still to be reported to SCHED within the step (R174); while the supply is down the mechanism is
EMPTY or IDLE, moving nowhere, with no command in flight and recovery pending, and the tuner is OFF with no scan, bus
transaction or timer. -/
abbrev State.supplySound (s : State) : Prop :=
  (s.pwr.power = .standby → s.supplyGood = false ∧ (s.pwr.phase = .raising → s.pwr.onMark = true) ∧
    ∀ h ∈ s.sched.holder, Report.supplyLost (some h.tag) ∈ s.reports) ∧
  (s.supplyGood = false → (s.mech.state = .empty ∨ s.mech.state = .idle) ∧ s.mech.camTarget = none ∧ s.mech.camTimer = none ∧
    s.mech.inFlight = none ∧ s.mech.slot = none ∧ s.pos.motion = none ∧ s.mech.recoveryPending = true ∧ s.tuner.state = .off ∧
    s.tuner.scan = none ∧ s.tuner.bus = [] ∧ s.tuner.next = .none ∧ s.tuner.initTimer = none ∧ s.tuner.settle = none ∧
    s.tuner.watch = none)

end Sys2Proof.Machine
end

