-- ==== Sys2Proof/Certificates/Slice0/Obligations.lean ====
section
/-!
DEFINITION. Sys2Proof/Certificates/Slice0/Obligations.lean: the statements for the provers, one def Obligations.<Name> : Prop each, from the
numbered rules of the manual. OBLIGATIONS.json lists them with their rules; the witnesses of their hypotheses stand in
Sys2Proof/Tests/Slice0.lean.
-/

open Sys2Proof Sys2Proof.Machine

/-- One step runs the command at the front of the queue. The model's choice of log 23 (the commands that wait, and the step that
takes the front). For every command c and state s, a step of s with c at the front of its queue is exec c on s with the queue's
rest. (Derived from notes/assumptions/23.) -/
def Obligations.StepRunsTheFrontCommand : Prop :=
  ∀ (c : Instr) (rest : List Instr) (s : State), step { s with pending := c :: rest } = exec c { s with pending := rest }

/-- With no command waiting a step is one cycle of the crystal. The model's choice of log 2: a step with an empty queue adds one
cycle to the crystal count. Within a second the fraction of the clock goes on by one cycle and no other register changes; no
command's effect happens. At the last cycle of a second, in which the fraction reaches the second's length, the step makes the
second boundary exactly as SECOND_BOUNDARY does, whether RESET_N is low or high. (Derived from R129, R136, R196,
notes/assumptions/2.) -/
def Obligations.IdleStepIsOneCrystalCycle : Prop :=
  (∀ (s : State), s.pending = [] → s.reports = [] → s.clock.fraction + 1 < s.clock.length →
    ∃ t, step s = .next t ∧
      t.clock = { s.clock with crystal := s.clock.crystal + 1, fraction := s.clock.fraction + 1 } ∧
      t.pins = s.pins ∧ t.servo = s.servo ∧ t.pos = s.pos ∧ t.mark = s.mark ∧ t.tuner = s.tuner ∧ t.ldd = s.ldd ∧
      t.sched = s.sched ∧ t.box = s.box ∧ t.pwr = s.pwr ∧ t.pending = [] ∧
      t.mech = { s.mech with still := t.mech.still, halt := t.mech.halt } ∧
      t.link = { s.link with sending := t.link.sending } ∧ (∀ x, s.link.sending = some x → t.link.sending = some x)) ∧
  (∀ (s : State), s.pending = [] → s.clock.fraction + 1 = s.clock.length → step s = exec .secondBoundary s)

/-- From IDLE each motion command of the host is answered ACCEPTED and starts THREADING toward its target, from a threaded state
SHIFTING. For PLAY, RECORD (either flag), CUE, REVIEW, FWIND and RWIND from a free recorder that passes the checks of R6: in
IDLE the step completes in THREADING with the cam driven toward HALT_POS, and from a state of R7's and R9's shift rows (PLAY and
CUE from HALT, REVIEW, FWIND, RWIND; REVIEW from HALT, PLAY, STILL, CUE, FWIND, RWIND; FWIND and RWIND from HALT, PLAY, STILL,
CUE, REVIEW, REC_PAUSE; RECORD from HALT, FWIND, RWIND) in SHIFTING with the cam driven toward the target's position, FWD_POS,
REV_POS or WIND_POS. The timeout is counted from now, the command's target kept, the command in flight, the owner PANEL, the
fault code NONE, drives and record amplifier off and the reply ACCEPTED; the counter, the mark list, TUNER, LDD, CLOCK, BOX and
PWR are unchanged. No MARK write runs at a shift. The hypothesis that the programme has no occurrence keeps SCHED from claiming
the recorder at the change of owner. (Derived from R3, R4, R5, R6, R7, R9, R11, R201.) -/
def Obligations.MotionCommandsThreadFromIdle : Prop :=
  (∀ (i : Instr) (w : MechCmd) (paused : Bool) (target : MState) (s : State),
    (i, w, paused, target) ∈ [(Instr.play, MechCmd.play, false, MState.play), (.record false, .record, false, .recPause),
      (.record true, .record, true, .recPause), (.cue, .cue, false, .cue), (.review, .review, false, .review),
      (.fwind, .fwind, false, .fwind), (.rwind, .rwind, false, .rwind)] →
    s.takes → s.deckFree → s.noOccurrence → s.mech.state = .idle → (s.mech.owner = .none ∨ s.mech.owner = .panel) →
    (w = .record → s.mech.tab = true ∧ s.insideSpan = false) →
    (w ≠ .review ∧ w ≠ .rwind → s.pins.leaderEnd = false) → (w = .review ∨ w = .rwind → s.pins.leaderStart = false) →
    ∃ t, exec i s = .next t ∧ t.mech.state = .threading ∧ t.mech.target = target ∧ t.mech.camTarget = some 3 ∧
      t.mech.camTimer = some s.now ∧ (s.mech.lastCode = some 1 → t.mech.motor = .fwd) ∧ t.mech.reel = .off ∧
      t.mech.recAmp = false ∧ t.mech.fault = .none ∧ t.mech.owner = .panel ∧ t.mech.slot = none ∧
      t.mech.inFlight = some { what := w, paused := paused, origin := .panel } ∧
      t.link.reply = some { kind := 1, result := .accepted, reason := .none, data := [] } ∧
      t.pins = s.pins ∧ t.pos.counter = s.pos.counter ∧ t.mark.list = s.mark.list ∧ t.tuner = s.tuner ∧ t.ldd = s.ldd ∧
      t.clock = s.clock ∧ t.box = s.box ∧ t.pwr = s.pwr ∧ t.sched.slots = s.sched.slots ∧ t.pending = s.pending) ∧
  (∀ (i : Instr) (w : MechCmd) (paused : Bool) (target : MState) (code : CamCode) (starts : List MState) (s : State),
    (i, w, paused, target, code, starts) ∈
      [(Instr.play, MechCmd.play, false, MState.play, (4 : CamCode), [MState.halt, .review, .fwind, .rwind]),
       (.record false, .record, false, .recPause, 4, [.halt, .fwind, .rwind]),
       (.record true, .record, true, .recPause, 4, [.halt, .fwind, .rwind]),
       (.cue, .cue, false, .cue, 4, [.halt, .review, .fwind, .rwind]),
       (.review, .review, false, .review, 5, [.halt, .play, .still, .cue, .fwind, .rwind]),
       (.fwind, .fwind, false, .fwind, 6, [.halt, .play, .still, .cue, .review, .recPause]),
       (.rwind, .rwind, false, .rwind, 6, [.halt, .play, .still, .cue, .review, .recPause])] →
    s.takes → s.deckFree → s.noOccurrence → s.mech.state ∈ starts → s.mech.junction = none → s.mark.writer = .idle →
    (s.mech.owner = .none ∨ s.mech.owner = .panel) → (w = .record → s.mech.tab = true ∧ s.insideSpan = false) →
    (w ≠ .review ∧ w ≠ .rwind → s.pins.leaderEnd = false) → (w = .review ∨ w = .rwind → s.pins.leaderStart = false) →
    ∃ t, exec i s = .next t ∧ t.mech.state = .shifting ∧ t.mech.target = target ∧ t.mech.camTarget = some code ∧
      t.mech.camTimer = some s.now ∧ t.mech.reel = .off ∧ t.mech.recAmp = false ∧ t.mech.fault = .none ∧
      t.mech.owner = .panel ∧ t.mech.slot = none ∧ t.mech.inFlight = some { what := w, paused := paused, origin := .panel } ∧
      t.pos.motion = none ∧ t.link.reply = some { kind := 1, result := .accepted, reason := .none, data := [] } ∧
      t.pins = s.pins ∧ t.pos.counter = s.pos.counter ∧ t.mark.list = s.mark.list ∧ t.tuner = s.tuner ∧ t.ldd = s.ldd ∧
      t.clock = s.clock ∧ t.box = s.box ∧ t.pwr = s.pwr ∧ t.sched.slots = s.sched.slots ∧ t.pending = s.pending)

/-- A command that moves no cam is answered DONE with its target entered at once, or ACCEPTED with a junction operation begun. Under
owner PANEL, PLAY from STILL or CUE, CUE from PLAY or STILL, FWIND from RWIND, RWIND from FWIND and PAUSE between PLAY and STILL
complete with the target state entered, its reel drive set, no command in flight, no cam movement started and the reply DONE;
the counter, the mark list, TUNER, LDD, CLOCK, BOX, PWR and SCHED are unchanged. PAUSE in RECORD switches the record amplifier
off, enters REC_PAUSE and draws the tape back in reverse at the recording speed: the backspace, counted from the present
counter. With a tab, no known span and a clear end leader, PAUSE, and RECORD without its flag, in REC_PAUSE begin the pre-roll:
the tape runs forward, the amplifier off, the record gate started. Both are ACCEPTED and in flight. RECORD with its flag in
REC_PAUSE is answered DONE and changes the fault code at most. (Derived from R3, R6, R7, R8, R9, R16, R17, R33, R41.) -/
def Obligations.CommandsReachedAtOnceAreDone : Prop :=
  (∀ (i : Instr) (w : MechCmd) (m target : MState) (s : State),
    (i, w, m, target) ∈ [(Instr.play, MechCmd.play, MState.still, MState.play), (.play, .play, .cue, .play),
      (.cue, .cue, .play, .cue), (.cue, .cue, .still, .cue), (.fwind, .fwind, .rwind, .fwind),
      (.rwind, .rwind, .fwind, .rwind), (.pause, .pause, .play, .still), (.pause, .pause, .still, .play)] →
    s.takes → s.deckFree → s.mech.state = m → s.mech.owner = .panel → s.pins.leaderEnd = false → s.pins.leaderStart = false →
    ∃ t, exec i s = .next t ∧ t.mech.state = target ∧ t.mech.reel = reelOf target none ∧ t.mech.recAmp = false ∧
      t.mech.inFlight = none ∧ t.mech.slot = none ∧ t.mech.owner = .panel ∧ t.mech.fault = .none ∧
      t.mech.motor = s.mech.motor ∧ t.mech.camTarget = s.mech.camTarget ∧
      t.link.reply = some { kind := 1, result := .done, reason := .none, data := [] } ∧
      t.pins = s.pins ∧ t.pos.counter = s.pos.counter ∧ t.mark.list = s.mark.list ∧ t.tuner = s.tuner ∧ t.ldd = s.ldd ∧
      t.clock = s.clock ∧ t.box = s.box ∧ t.pwr = s.pwr ∧ t.sched = s.sched ∧ t.pending = s.pending) ∧
  (∀ (i : Instr) (w : MechCmd) (m : MState) (j : Junction) (forward : Bool) (v : Speed) (s : State),
    (i, w, m, j, forward) ∈ [(Instr.pause, MechCmd.pause, MState.record, Junction.backspace, false),
      (.pause, .pause, .recPause, .preRoll, true), (.record false, .record, .recPause, .preRoll, true)] →
    s.takes → s.deckFree → s.mech.state = m → s.mech.junction = none → s.mech.owner = .panel → s.sched.holder = none →
    s.servo.recSpeed = some v →
    (j = .preRoll → s.mech.tab = true ∧ s.insideSpan = false ∧ s.pins.leaderEnd = false) →
    ∃ t, exec i s = .next t ∧ t.mech.state = .recPause ∧ t.mech.junction = some j ∧ t.mech.junctionAt = s.pos.counter ∧
      t.mech.reel = (if forward then .takeUp else .supply) ∧ t.mech.recAmp = false ∧ t.mech.fault = .none ∧
      t.mech.inFlight = some { what := w, origin := .panel } ∧ t.mech.slot = none ∧ t.mech.owner = .panel ∧
      t.mech.motor = s.mech.motor ∧ t.mech.camTarget = s.mech.camTarget ∧
      t.servo.capstan.target = some { speed := v, fast := false, reverse := !forward } ∧ t.servo.recSpeed = some v ∧
      (j = .preRoll → s.servo.gate = none → t.servo.gate = some s.now) ∧ (j = .backspace → t.servo.gate = none) ∧
      t.pos.motion = some { forward := forward, start := s.now } ∧
      t.link.reply = some { kind := 1, result := .accepted, reason := .none, data := [] } ∧
      t.pins = s.pins ∧ t.pos.counter = s.pos.counter ∧ t.mark.list = s.mark.list ∧ t.tuner = s.tuner ∧ t.ldd = s.ldd ∧
      t.clock = s.clock ∧ t.box = s.box ∧ t.pwr = s.pwr ∧ t.sched = s.sched ∧ t.pending = s.pending) ∧
  (∀ s : State, s.takes → s.deckFree → s.mech.state = .recPause → s.mech.junction = none → s.mech.owner = .panel →
    s.mech.tab = true → s.insideSpan = false → s.pins.leaderEnd = false →
    exec (.record true) s = .next ((s.onMech fun m => { m with fault := .none }).answered 1 .done .none []).closed)

/-- STOP shifts to HALT_POS or unthreads to IDLE, EJECT unthreads or ejects, and a STOP with the cancel-timer flag cancels the
owning entry. Without a TIMER owner: STOP from a threaded motion, pause or still state starts SHIFTING to HALT; from HALT it
starts UNTHREADING to IDLE; EJECT from IDLE starts EJECTING; from a threaded state it starts UNTHREADING on the way to EMPTY.
The command is in flight, the reply ACCEPTED, reel drive and record amplifier are off, and the timeout counts from now. STOP in
IDLE or EMPTY changes no mechanism state and is answered DONE. TUNER, LDD, CLOCK, BOX, PWR, the counter and the mark list are
unchanged. The cancel-timer flag has no effect there. Under owner TIMER of a ONCE entry, alone with an occurrence, STOP with
that flag ends the occurrence with CANCELLED and its recorded seconds (at most 86,399) and the recorder is released. In RECORD
with the entry RECORDING and nothing in flight the owner becomes PANEL and the STOP is in flight toward HALT; in THREADING
toward REC_PAUSE with the entry PREPARING it stands in the pending slot, the command in flight going on. (Derived from R3, R4,
R7, R12, R13, R14, R28, R167, R169.) -/
def Obligations.StopAndEjectMoveTheCam : Prop :=
  (∀ (i : Instr) (w : MechCmd) (b : Bool) (new target : MState) (code : CamCode) (s : State),
    ((i = .stop b ∧ w = .stop ∧ new = .shifting ∧ target = .halt ∧ code = 3 ∧
        s.mech.state ∈ [MState.play, .still, .record, .recPause, .cue, .review, .fwind, .rwind]) ∨
      (i = .stop b ∧ w = .stop ∧ new = .unthreading ∧ target = .idle ∧ code = 1 ∧ s.mech.state = .halt) ∨
      (i = .eject ∧ b = false ∧ w = .eject ∧ new = .ejecting ∧ target = .empty ∧ code = 0 ∧ s.mech.state = .idle) ∨
      (i = .eject ∧ b = false ∧ w = .eject ∧ new = .unthreading ∧ target = .empty ∧ code = 1 ∧
        s.mech.state.threaded = true)) →
    s.takes → s.deckFree → s.mech.owner.isTimer = false →
    ∃ t, exec i s = .next t ∧ t.mech.state = new ∧ t.mech.target = target ∧ t.mech.camTarget = some code ∧
      t.mech.camTimer = some s.now ∧ t.mech.reel = .off ∧ t.mech.recAmp = false ∧ t.mech.fault = .none ∧
      t.mech.owner = s.mech.owner ∧ t.mech.slot = none ∧ t.mech.inFlight = some { what := w, cancel := b, origin := .panel } ∧
      t.link.reply = some { kind := 1, result := .accepted, reason := .none, data := [] } ∧
      t.pins = s.pins ∧ t.pos.counter = s.pos.counter ∧ t.mark.list = s.mark.list ∧ t.tuner = s.tuner ∧ t.ldd = s.ldd ∧
      t.clock = s.clock ∧ t.box = s.box ∧ t.pwr = s.pwr ∧ t.pending = s.pending) ∧
  (∀ (b : Bool) (s : State), s.takes → s.deckFree → s.mech.owner.isTimer = false →
    (s.mech.state = .idle ∨ s.mech.state = .empty) →
    exec (.stop b) s = .next ((s.onMech fun m => { m with fault := .none }).answered 1 .done .none []).closed) ∧
  (∀ (s : State) (n : Nat) (k : Slot) (h : Holder) (e : Entry) (o : Occurrence), s.takes → s.hasSlot n k →
    s.onlyOccurrence n → s.sched.holder = some h → h.slot = n → k.entry = some e → e.repeats = .once → k.occ = some o →
    s.mech.owner = .timer n → s.mech.slot = none → s.mech.junction = none → s.mech.standbyStop = false →
    s.mech.recoveryPending = false → s.mark.search = none →
    let stop : Cmd := { what := .stop, cancel := true, origin := .panel }
    let ticks := o.recorded + (match h.recSince with | none => 0 | some t => s.clock.ticks - t)
    let cancelled (t : State) : Prop :=
      t.sched.slots = s.sched.slots.set (n - 1) { k with state := .done, lastDate := some o.date, outcome := .cancelled,
                                                         recSeconds := min (ticks / 1024) 86399, occ := none } ∧
      t.sched.holder = none ∧ t.sched.stopAt = none ∧ t.sched.schedAt = none ∧ t.sched.windowAt = none ∧ t.sched.held = none ∧
      t.sched.loss = none ∧ t.sched.post = some { since := s.now, slot := n, powerOff := e.powerOff } ∧
      t.mech.owner = .panel ∧ t.link.reply = some { kind := 1, result := .accepted, reason := .none, data := [] } ∧
      t.pins = s.pins ∧ t.pos.counter = s.pos.counter ∧ t.mark.list = s.mark.list ∧ t.clock = s.clock ∧ t.pending = s.pending
    (s.mech.state = .record → k.state = .recording → s.mech.inFlight = none →
      ∃ t, exec (.stop true) s = .next t ∧ cancelled t ∧ t.mech.state = .shifting ∧ t.mech.target = .halt ∧
        t.mech.camTarget = some 3 ∧ t.mech.camTimer = some s.now ∧ t.mech.reel = .off ∧ t.mech.recAmp = false ∧
        t.mech.inFlight = some stop ∧ t.mech.slot = none) ∧
    (∀ c, s.mech.state = .threading → s.mech.target = .recPause → k.state = .preparing → s.mech.inFlight = some c →
      ∃ t, exec (.stop true) s = .next t ∧ cancelled t ∧ t.mech.state = .threading ∧ t.mech.target = .recPause ∧
        t.mech.camTarget = s.mech.camTarget ∧ t.mech.camTimer = s.mech.camTimer ∧ t.mech.inFlight = some c ∧
        t.mech.slot = some stop))

/-- A mechanism command that fails a check of R6 is refused with that check's reason and changes no block's state. For the host's
nine commands arriving with nothing in flight, in the order of R6: in JAMMED every command but EJECT gives MECH_FAULT with the
fault code; under owner TIMER every command but STOP with the cancel-timer flag gives TIMER_ACTIVE; in EMPTY every command but
STOP gives NO_CASSETTE; a state the command is not taken from gives BAD_STATE; RECORD without a tab gives NO_TAB and inside a
known span PROTECTED; a forward target with the end leader covered gives AT_END and a reverse one with the start leader covered
AT_START. Apart from the reply and the rest timers nothing changes. (Derived from R5, R6, R12, R202, Chapter 1 section 1.4.) -/
def Obligations.RefusedMechCommandsChangeNothing : Prop :=
  ∀ (i : Instr) (s : State), s.takes → s.deckFree →
    (s.mech.state = .jammed →
      i ∈ [Instr.play, .record false, .record true, .pause, .stop false, .stop true, .cue, .review, .fwind, .rwind] →
      refusedWith i 1 .mechFault [byte s.mech.fault.code] s) ∧
    (s.mech.state ≠ .jammed → s.mech.owner.isTimer = true →
      i ∈ [Instr.play, .record false, .record true, .pause, .stop false, .cue, .review, .fwind, .rwind, .eject] →
      refusedWith i 1 .timerActive [] s) ∧
    (s.mech.state = .empty → s.mech.owner.isTimer = false →
      i ∈ [Instr.play, .record false, .record true, .pause, .cue, .review, .fwind, .rwind, .eject] →
      refusedWith i 1 .noCassette [] s) ∧
    (s.mech.owner.isTimer = false →
      ((s.mech.state = .record ∨ s.mech.state = .recPause) ∧ i ∈ [Instr.play, .cue, .review]) ∨
        (s.mech.state = .record ∧ i ∈ [Instr.fwind, .rwind]) ∨
        (s.mech.state ∈ [MState.play, .still, .cue, .review] ∧ i ∈ [Instr.record false, .record true]) ∨
        (s.mech.state ∈ [MState.idle, .halt, .cue, .review, .fwind, .rwind] ∧ i = .pause) →
      refusedWith i 1 .badState [] s) ∧
    (s.mech.owner.isTimer = false → s.mech.state ∈ [MState.idle, .halt, .fwind, .rwind, .recPause] →
      i ∈ [Instr.record false, .record true] →
      (s.mech.tab = false → refusedWith i 1 .noTab [] s) ∧
      (s.mech.tab = true → s.insideSpan = true → refusedWith i 1 .spanProtected [] s) ∧
      (s.mech.tab = true → s.insideSpan = false → s.pins.leaderEnd = true → refusedWith i 1 .atEnd [] s)) ∧
    (s.mech.owner.isTimer = false → s.mech.state ∈ [MState.idle, .halt, .play, .still, .cue, .review, .fwind, .rwind] →
      (s.pins.leaderEnd = true → i ∈ [Instr.play, .cue, .fwind] → refusedWith i 1 .atEnd [] s) ∧
      (s.pins.leaderStart = true → i ∈ [Instr.review, .rwind] → refusedWith i 1 .atStart [] s))

/-- A command that arrives while another is in flight is stored, and replaces a stored one; PAUSE and STOP cut a junction operation
short. With a command in flight, no standby stop and no TIMER owner, each mechanism command of the host is answered ACCEPTED and
stands in the slot; a PANEL command it replaces is closed with MECH_SUPERSEDED. The command in flight and every other register
stay as they were. During a junction operation this is so for all but STOP, and PAUSE in a pre-roll or in the lock wait of a
RECORD without its flag. Those act at once, closing the PANEL command in flight with MECH_SUPERSEDED, and the stored one after
it: that PAUSE holds the tape still in REC_PAUSE and is answered DONE; STOP starts the shift to HALT_POS and is in flight.
(Derived from R8, R10, R14, R18, Chapter 1 section 1.6.) -/
def Obligations.PendingSlotHoldsTheLatestCommand : Prop :=
  (∀ (i : Instr) (w : MechCmd) (paused cancel : Bool) (s : State),
    (i, w, paused, cancel) ∈ [(Instr.play, MechCmd.play, false, false), (.record false, .record, false, false),
      (.record true, .record, true, false), (.pause, .pause, false, false), (.stop false, .stop, false, false),
      (.stop true, .stop, false, true), (.cue, .cue, false, false), (.review, .review, false, false),
      (.fwind, .fwind, false, false), (.rwind, .rwind, false, false), (.eject, .eject, false, false)] →
    s.takes → s.mech.inFlight.isSome = true → s.mech.standbyStop = false →
    s.mech.recoveryPending = false → s.mech.owner.isTimer = false → s.mark.search = none →
    (s.mech.junction = none ∨ (w ≠ .stop ∧ w ≠ .pause) ∨ (w = .pause ∧ (s.mech.junction = some .backspace ∨
      (s.mech.junction = some .lockWait ∧ ∀ c, s.mech.inFlight = some c → c.paused = true)))) →
    let store (x : State) : State :=
      x.onMech fun m => { m with slot := some { what := w, paused := paused, cancel := cancel, origin := .panel } }
    (s.mech.slot = none → exec i s = .next ((store s).answered 1 .accepted .none []).closed) ∧
    (∀ old, s.mech.slot = some old → old.origin = .panel → old.silent = false →
      exec i s = .next ((store (notify (.mechSuperseded old.what .panel) s)).answered 1 .accepted .none []).closed)) ∧
  (∀ (j : Junction) (c : Cmd) (s : State), s.takes → s.mech.state = .recPause → s.mech.junction = some j →
    s.mech.inFlight = some c → c.origin = .panel → c.silent = false → s.mech.standbyStop = false →
    s.mech.recoveryPending = false → s.mech.owner.isTimer = false → s.mark.search = none → s.sched.holder = none → s.roomFor 2 →
    let closes : List Notice := .mechSuperseded c.what .panel ::
      (match s.mech.slot with | none => [] | some old => [.mechSuperseded old.what .panel])
    (∀ old, s.mech.slot = some old → old.origin = .panel ∧ old.silent = false) →
    let cut (t : State) : Prop :=
      t.mech.junction = none ∧ t.mech.slot = none ∧ t.mech.reel = .off ∧ t.mech.recAmp = false ∧ t.mech.fault = .none ∧
      t.mech.owner = s.mech.owner ∧ t.servo.gate = none ∧ t.pos.motion = none ∧ t.pos.counter = s.pos.counter ∧
      t.mark.list = s.mark.list ∧ t.link.notices.take (s.link.notices.length + closes.length) = s.link.notices ++ closes ∧
      t.pins = s.pins ∧ t.tuner = s.tuner ∧ t.ldd = s.ldd ∧ t.clock = s.clock ∧ t.sched = s.sched ∧ t.box = s.box ∧
      t.pwr = s.pwr ∧ t.pending = s.pending
    (j = .preRoll ∨ (j = .lockWait ∧ c.paused = false) →
      ∃ t, exec .pause s = .next t ∧ cut t ∧ t.mech.state = .recPause ∧ t.mech.inFlight = none ∧
        t.mech.camTarget = s.mech.camTarget ∧
        t.link.reply = some { kind := 1, result := .done, reason := .none, data := [] }) ∧
    (∀ b, ∃ t, exec (.stop b) s = .next t ∧ cut t ∧ t.mech.state = .shifting ∧ t.mech.target = .halt ∧
      t.mech.camTarget = some 3 ∧ t.mech.camTimer = some s.now ∧
      t.mech.inFlight = some { what := .stop, cancel := b, origin := .panel } ∧
      t.link.reply = some { kind := 1, result := .accepted, reason := .none, data := [] }))

/-- A movement ends at its target code, a junction operation on its frames and locked loops; the next work or the command's end
follows. In a movement no recovery run started, another code than its target only becomes the code last reported (7 not even
that). THREADING for a motion state goes on at HALT_POS as SHIFTING with its own timeout. SHIFTING to PLAY, CUE, REVIEW, FWIND
or RWIND enters the state and closes the PANEL command with MECH_DONE; a stored STOP is then executed; a covered end leader
discards PLAY, CUE and FWIND with MECH_DISCARDED (END_LEADER), which is the model's choice of log 12, and sends TAPE_END.
REC_PAUSE begins the lock wait and its gate. HALT, IDLE and EMPTY (switch open) close the command and free a PANEL recorder.
With the drum locking and the capstan LOCKED, the lock wait and a pre-roll 30 frames on enter RECORD, the amplifier on, with the
automatic INDEX (R81), or end in REC_PAUSE for a start-paused RECORD; without both LOCKED, or short of the frames, they go on.
The backspace ends 30 frames back or at the start leader. (Derived from R1, R3, R4, R10, R11, R15, R16, R17, R21, R28, R41,
notes/assumptions/12.) -/
def Obligations.CamArrivalEndsTheMovement : Prop :=
  (∀ (code : CamCode) (c : CamCode) (s : State), s.hears → s.mech.camTarget = some c → code ≠ c → s.mech.recoveryRun = false →
    exec (.camTargetReached code) s = .next ((s.onPins fun p => { p with cam := code }).onMech fun m =>
      { m with lastCode := if code = 7 then m.lastCode else some code }).closed) ∧
  (∀ (target : MState) (code : CamCode) (c : Cmd) (s : State),
    (target, code) ∈ [(MState.play, (4 : CamCode)), (.cue, 4), (.recPause, 4), (.review, 5), (.fwind, 6), (.rwind, 6)] →
    s.hears → s.mech.state = .threading → s.mech.target = target → s.mech.camTarget = some 3 → s.mech.inFlight = some c →
    ∃ t, exec (.camTargetReached 3) s = .next t ∧ t.mech.state = .shifting ∧ t.mech.target = target ∧
      t.mech.camTarget = some code ∧ t.mech.camTimer = some s.now ∧ t.mech.motor = .fwd ∧ t.mech.inFlight = some c ∧
      t.mech.slot = s.mech.slot ∧ t.mech.owner = s.mech.owner ∧ t.link.reply = s.link.reply ∧ t.tuner = s.tuner ∧
      t.clock = s.clock ∧ t.sched = s.sched ∧ t.pos.counter = s.pos.counter) ∧
  (∀ (target : MState) (code : CamCode) (c : Cmd) (s : State),
    (target, code) ∈ [(MState.play, (4 : CamCode)), (.cue, 4), (.review, 5), (.fwind, 6), (.rwind, 6)] →
    s.hears → s.mech.state = .shifting → s.mech.target = target → s.mech.camTarget = some code →
    s.mech.inFlight = some c → c.origin = .panel → c.silent = false → s.mech.slot = none → s.pins.leaderEnd = false →
    s.pos.motion = none → s.mark.writer = .idle → s.servo.reference = .internal → s.roomFor 1 →
    ∃ t, exec (.camTargetReached code) s = .next t ∧ t.mech.state = target ∧ t.mech.motor = .off ∧ t.mech.camTarget = none ∧
      t.mech.camTimer = none ∧ t.mech.reel = reelOf target none ∧ t.mech.inFlight = none ∧ t.mech.owner = s.mech.owner ∧
      t.link.notices = s.link.notices ++ [.mechDone c.what .panel target] ∧ t.tuner = s.tuner ∧ t.clock = s.clock ∧
      t.sched = s.sched ∧ t.pos.counter = s.pos.counter) ∧
  (∀ (c : Cmd) (s : State), s.hears → s.mech.state = .shifting → s.mech.target = .recPause → s.mech.camTarget = some 4 →
    s.mech.inFlight = some c → s.pins.leaderEnd = false →
    ∃ t, exec (.camTargetReached 4) s = .next t ∧ t.mech.state = .recPause ∧ t.mech.junction = some .lockWait ∧
      t.mech.junctionAt = s.pos.counter ∧ t.mech.motor = .off ∧ t.mech.camTarget = none ∧ t.mech.camTimer = none ∧
      t.mech.reel = .takeUp ∧ t.mech.recAmp = false ∧ t.mech.inFlight = some c ∧ t.mech.slot = s.mech.slot ∧
      t.mech.owner = s.mech.owner ∧ (s.servo.gate = none → t.servo.gate = some s.now) ∧
      t.pos.motion = some { forward := true, start := s.now } ∧ t.pos.counter = s.pos.counter ∧ t.tuner = s.tuner ∧
      t.clock = s.clock ∧ t.sched = s.sched) ∧
  (∀ (m target : MState) (code : CamCode) (c : Cmd) (s : State),
    (m, target, code) ∈ [(MState.shifting, MState.halt, (3 : CamCode)), (.threading, .halt, 3), (.unthreading, .idle, 1),
      (.ejecting, .empty, 0)] →
    s.hears → s.mech.state = m → s.mech.target = target → s.mech.camTarget = some code → s.mech.inFlight = some c →
    c.origin = .panel → c.silent = false → s.mech.slot = none → s.mech.owner = .panel → s.mech.recoveryRun = false →
    s.mech.standbyStop = false → s.pos.motion = none → s.mark.writer = .idle → s.servo.reference = .internal →
    s.noOccurrence → s.roomFor 1 →
    (target = .empty → s.pins.cassetteIn = true → exec (.camTargetReached 0) s = .next ((s.onPins fun p => { p with cam := 0 }).onMech
      fun x => { x with lastCode := some 0, motor := .off, camTarget := none, ejectRead := true }).closed) ∧
    ((target = .empty → s.pins.cassetteIn = false) →
      ∃ t, exec (.camTargetReached code) s = .next t ∧ t.mech.state = target ∧ t.mech.motor = .off ∧ t.mech.camTarget = none ∧
        t.mech.camTimer = none ∧ t.mech.reel = .off ∧ t.mech.recAmp = false ∧ t.mech.inFlight = none ∧ t.mech.owner = .none ∧
        t.link.notices = s.link.notices ++ [.mechDone c.what .panel target] ∧
        (target ≠ .empty → t.pos.counter = s.pos.counter ∧ t.mark.list = s.mark.list ∧ t.mech.tab = s.mech.tab) ∧
        (target = .empty → t.pos = Pos.reset ∧ t.mark.list = [] ∧ t.mech.tab = false ∧ t.mech.fault = .none) ∧
        t.tuner = s.tuner ∧ t.clock = s.clock ∧ t.sched.slots = s.sched.slots ∧ t.sched.holder = none ∧ t.pwr = s.pwr)) ∧
  (∀ (target : MState) (code : CamCode) (c d : Cmd) (s : State),
    (target, code) ∈ [(MState.play, (4 : CamCode)), (.cue, 4), (.review, 5), (.fwind, 6), (.rwind, 6)] →
    s.hears → s.mech.state = .shifting → s.mech.target = target → s.mech.camTarget = some code →
    s.mech.inFlight = some c → c.origin = .panel → c.silent = false → s.mech.recoveryPending = false → s.pos.motion = none →
    s.mark.writer = .idle → s.servo.reference = .internal → s.sched.holder = none → s.roomFor 2 →
    (s.mech.slot = some d → d.what = .stop → d.origin = .panel → s.mech.owner.isTimer = false → s.pins.leaderEnd = false →
      ∃ t, exec (.camTargetReached code) s = .next t ∧ t.mech.state = .shifting ∧ t.mech.target = .halt ∧
        t.mech.camTarget = some 3 ∧ t.mech.camTimer = some s.now ∧ t.mech.inFlight = some d ∧ t.mech.slot = none ∧
        t.mech.reel = .off ∧ t.link.notices.take (s.link.notices.length + 1) = s.link.notices ++ [.mechDone c.what .panel target] ∧
        t.pos.counter = s.pos.counter ∧ t.tuner = s.tuner ∧ t.clock = s.clock ∧ t.sched = s.sched) ∧
    (target ∈ [MState.play, .cue, .fwind] → s.pins.leaderEnd = true → s.mark.search = none →
      ∃ t, exec (.camTargetReached code) s = .next t ∧ t.mech.state = .shifting ∧ t.mech.target = .halt ∧
        t.mech.camTarget = some 3 ∧ t.mech.camTimer = some s.now ∧ t.mech.inFlight = none ∧ t.mech.slot = s.mech.slot ∧
        t.mech.reel = .off ∧ t.mech.cause = some .endLeader ∧ t.link.tapeEnd = true ∧
        t.link.notices.take (s.link.notices.length + 2) =
          s.link.notices ++ [.mechDiscarded c.what .panel .endLeader, .tapeEnd target] ∧
        t.pos.counter = s.pos.counter ∧ t.tuner = s.tuner ∧ t.clock = s.clock ∧ t.sched = s.sched)) ∧
  (∀ (j : Junction) (c : Cmd) (v : Speed) (phase : Int) (s : State), s.hears → s.mech.state = .recPause →
    s.mech.junction = some j → (j = .lockWait ∨ j = .preRoll) → s.mech.inFlight = some c → c.origin = .panel →
    c.silent = false → s.mech.slot = none → s.mark.search = none → s.sched.holder = none → s.servo.recSpeed = some v →
    s.servo.drum.state = .speed → s.servo.drum.pgGood = 7 → phase.natAbs ≤ 50000 →
    (s.servo.capstan.state ≠ .locked ∨ (j = .preRoll ∧ s.pos.counter < s.mech.junctionAt + 30) →
      ∃ t, exec (.drumPgPulse phase) s = .next t ∧ t.servo.drum.state = .locked ∧ sameMech s t ∧ sameOuter s t ∧
        t.mark = s.mark ∧ sameLink s t ∧ t.pos.counter = s.pos.counter) ∧
    (s.servo.capstan.state = .locked → s.servo.capstan.target = some { speed := v, fast := false, reverse := false } →
      s.roomFor 3 →
      (c.paused = false ∨ j = .preRoll → (j = .preRoll → s.mech.junctionAt + 30 ≤ s.pos.counter) → s.pins.leaderEnd = false →
        s.guardSpan = none →
        ∃ t, exec (.drumPgPulse phase) s = .next t ∧ t.mech.state = .record ∧ t.mech.recAmp = true ∧ t.mech.junction = none ∧
          t.mech.reel = .takeUp ∧ t.mech.inFlight = none ∧ t.mech.owner = s.mech.owner ∧ t.servo.gate = none ∧
          t.pos.motion = some { forward := true, start := s.now } ∧ t.pos.counter = s.pos.counter ∧
          t.mark.list = s.mark.list ∧ t.mark.writer = (if s.link.settings.indexStart = true ∧ s.mark.writer = .idle then
            .writing .index 0 .panel 0 none true else s.mark.writer) ∧
          .mechDone c.what .panel .record ∈ t.link.notices ∧ t.tuner = s.tuner ∧ t.clock = s.clock ∧ t.sched = s.sched) ∧
      (c.paused = true → j = .lockWait →
        ∃ t, exec (.drumPgPulse phase) s = .next t ∧ t.mech.state = .recPause ∧ t.mech.recAmp = false ∧ t.mech.junction = none ∧
          t.mech.reel = .off ∧ t.mech.inFlight = none ∧ t.mech.owner = s.mech.owner ∧ t.servo.gate = none ∧
          t.pos.motion = none ∧ t.pos.counter = s.pos.counter ∧ t.mark.list = s.mark.list ∧
          .mechDone c.what .panel .recPause ∈ t.link.notices ∧ t.tuner = s.tuner ∧ t.clock = s.clock ∧ t.sched = s.sched))) ∧
  (∀ (c : Cmd) (m : Motion) (duty interval env : Nat) (phase : Int) (s : State), s.hears → s.mech.state = .recPause →
    s.mech.junction = some .backspace → s.mech.inFlight = some c → c.origin = .panel → c.silent = false →
    s.mech.slot = none → s.mark.search = none → s.sched.holder = none → s.mark.writer = .idle →
    s.mark.reader.phase ≠ .inRun → s.pos.motion = some m → m.forward = false → - counterLimit s.std < s.pos.counter →
    s.pos.counter ≤ counterLimit s.std → s.roomFor 3 →
    let held (t : State) : Prop :=
      t.mech.state = .recPause ∧ t.mech.junction = none ∧ t.mech.reel = .off ∧ t.mech.recAmp = false ∧ t.mech.inFlight = none ∧
      t.mech.owner = s.mech.owner ∧ t.pos.motion = none ∧ t.mark.list = s.mark.list ∧
      .mechDone c.what .panel .recPause ∈ t.link.notices ∧ t.tuner = s.tuner ∧ t.clock = s.clock ∧ t.sched = s.sched
    (s.pos.counter - 1 ≤ s.mech.junctionAt - 30 →
      ∃ t, exec (.controlPulseReplayed duty phase interval env) s = .next t ∧ t.pos.counter = s.pos.counter - 1 ∧ held t) ∧
    (s.mech.junctionAt - 30 < s.pos.counter - 1 →
      ∃ t, exec (.controlPulseReplayed duty phase interval env) s = .next t ∧ t.pos.counter = s.pos.counter - 1 ∧
        sameMech s t ∧ t.mark.list = s.mark.list ∧ sameOuter s t) ∧
    (∃ t, exec (.startLeaderCovered true) s = .next t ∧ t.pos.counter = s.pos.counter ∧ held t))

/-- A movement that an event started settles with MECH_STATE and its cause, frees a PANEL recorder, or runs the stored command
or auto-rewind. With no command in flight, a shift that reaches HALT_POS settles in HALT with the slot empty: MECH_STATE (HALT)
carries the cause REST, END_LEADER, START_LEADER, MEMORY_STOP or PROTECT_STOP, and none is sent after a servo fault; a PANEL
owner becomes NONE, the halt timer starts. After an end leader with AUTO_REWIND set and an owner other than TIMER an RWIND of
the owner PANEL, without reply or closing notice, shifts to WIND_POS instead; that HALT is kept, with MECH_STATE, where the
covered start leader refuses it is the model's choice of log 41. A stored STOP is executed in HALT: UNTHREADING to IDLE; that
the owner, PANEL too, is kept there is the model's choice of log 25 (the owner settles after the stored command, where R11 and
R25 could free it at HALT_POS); MECH_STATE of REST, MEMORY_STOP and PROTECT_STOP is sent before it by the model's choice of log
31, and that of a leader is not. An UNTHREADING that reaches SEATED is IDLE: after the halt timer with MECH_STATE (IDLE, REST),
at the end of a recovery run with MECH_STATE (IDLE, RECOVERY) and the tab read, the counter and the mark list kept. A recovery
run that reaches EJECT goes on: INSERTING where the switch is closed, and EMPTY with MECH_STATE (EMPTY, RECOVERY) where it is
open. No search, MARK write, standby stop or occurrence is under way. (Derived from R10, R11, R15, Chapter 1 section 1.8, R21,
R22, R24, R25, R29, notes/assumptions/25, notes/assumptions/31, notes/assumptions/41.) -/
def Obligations.EventMovementsSettleWithTheirCause : Prop :=
  (∀ (d : Cmd) (s : State), s.hears → s.mech.state = .shifting → s.mech.target = .halt → s.mech.camTarget = some 3 →
    s.mech.inFlight = none → s.mech.standbyStop = false → s.mech.recoveryPending = false → s.mark.search = none →
    s.mark.writer = .idle → s.pos.motion = none → s.servo.reference = .internal → s.noOccurrence → s.roomFor 1 →
    let told : List Notice := match s.mech.cause with | none => [] | some c => [.mechState .halt c]
    let kept (t : State) : Prop :=
      t.mech.cause = none ∧ t.mech.slot = none ∧ t.mech.reel = .off ∧ t.mech.recAmp = false ∧
      t.pos.counter = s.pos.counter ∧ t.mark.list = s.mark.list ∧ t.tuner = s.tuner ∧ t.ldd = s.ldd ∧ t.clock = s.clock ∧
      t.sched.slots = s.sched.slots ∧ t.sched.holder = none ∧ t.box = s.box ∧ t.pwr = s.pwr
    (s.mech.slot = none →
      (s.mech.cause = some .endLeader →
        s.link.settings.autoRewind = false ∨ s.mech.owner.isTimer = true ∨ s.pins.leaderStart = true) →
      ∃ t, exec (.camTargetReached 3) s = .next t ∧ kept t ∧ t.mech.state = .halt ∧ t.mech.motor = .off ∧
        t.mech.camTarget = none ∧ t.mech.camTimer = none ∧ t.mech.inFlight = none ∧
        t.mech.owner = (if s.mech.owner = .panel then .none else s.mech.owner) ∧ t.mech.fault = s.mech.fault ∧
        t.link.notices = s.link.notices ++ told ∧
        (s.mech.owner.isTimer = false → s.mech.halt = none → t.mech.halt = some { elapsed := 0, since := some s.now })) ∧
    (s.mech.slot = none → s.mech.cause = some .endLeader → s.link.settings.autoRewind = true →
      s.mech.owner.isTimer = false → s.pins.leaderStart = false →
      ∃ t, exec (.camTargetReached 3) s = .next t ∧ kept t ∧ t.mech.state = .shifting ∧ t.mech.target = .rwind ∧
        t.mech.camTarget = some 6 ∧ t.mech.camTimer = some s.now ∧ t.mech.fault = .none ∧ t.mech.owner = .panel ∧
        t.mech.inFlight = some { what := .rwind, origin := .panel, silent := true } ∧ t.link.notices = s.link.notices) ∧
    (s.mech.slot = some d → d.what = .stop → d.origin = .panel → s.mech.owner.isTimer = false →
      ∃ t, exec (.camTargetReached 3) s = .next t ∧ kept t ∧ t.mech.state = .unthreading ∧ t.mech.target = .idle ∧
        t.mech.camTarget = some 1 ∧ t.mech.camTimer = some s.now ∧ t.mech.inFlight = some d ∧ t.mech.fault = .none ∧
        t.mech.owner = s.mech.owner ∧ t.link.notices = s.link.notices ++
          (if s.mech.cause = some .endLeader ∨ s.mech.cause = some .startLeader then [] else told))) ∧
  (∀ s : State, s.hears → s.mech.state = .unthreading → s.mech.target = .idle → s.mech.camTarget = some 1 →
    s.mech.inFlight = none → s.mech.slot = none → s.mech.standbyStop = false → s.mark.search = none → s.mark.writer = .idle →
    s.pos.motion = none → s.servo.reference = .internal → s.noOccurrence → s.roomFor 1 →
    let freed : Owner := if s.mech.owner = .panel then .none else s.mech.owner
    let kept (t : State) : Prop :=
      t.mech.reel = .off ∧ t.mech.recAmp = false ∧ t.mech.inFlight = none ∧ t.mech.slot = none ∧ t.tuner = s.tuner ∧
      t.clock = s.clock ∧ t.sched.slots = s.sched.slots ∧ t.sched.holder = none ∧ t.pwr = s.pwr
    (s.mech.recoveryRun = true → s.pwr.resetMark = false) →
    ((s.mech.recoveryRun = true ∨ s.mech.cause = some .rest) →
      ∃ t, exec (.camTargetReached 1) s = .next t ∧ kept t ∧ t.mech.state = .idle ∧ t.mech.motor = .off ∧
        t.mech.camTarget = none ∧ t.mech.camTimer = none ∧ t.mech.owner = freed ∧ t.mech.recoveryRun = false ∧
        t.mech.tab = (if s.mech.recoveryRun then s.pins.tabSwitch else s.mech.tab) ∧ t.mech.fault = s.mech.fault ∧
        t.pos.counter = s.pos.counter ∧ t.mark.list = s.mark.list ∧
        t.link.notices = s.link.notices ++ [.mechState .idle (if s.mech.recoveryRun then .recovery else .rest)]) ∧
    (s.mech.recoveryRun = true →
      (s.pins.cassetteIn = true → ∃ t, exec (.camTargetReached 0) s = .next t ∧ kept t ∧ t.mech.state = .inserting ∧
        t.mech.target = .idle ∧ t.mech.camTarget = some 1 ∧ t.mech.camTimer = some s.now ∧ t.mech.recoveryRun = true ∧
        t.mech.owner = s.mech.owner ∧ t.link.notices = s.link.notices) ∧
      (s.pins.cassetteIn = false → ∃ t, exec (.camTargetReached 0) s = .next t ∧ kept t ∧ t.mech.state = .empty ∧
        t.mech.motor = .off ∧ t.mech.camTarget = none ∧ t.mech.camTimer = none ∧ t.mech.owner = freed ∧
        t.mech.recoveryRun = false ∧ t.mech.tab = false ∧ t.pos = Pos.reset ∧ t.mark.list = [] ∧
        t.link.notices = s.link.notices ++ [.mechState .empty .recovery])))

/-- A movement that does not arrive in time jams the mechanism, and a watched reel that stops unthreads it, each with its fault. For
each transition with its length (insert 3.0 s, thread 4.0 s, unthread 4.0 s, eject 3.0 s, shift 1.5 s), once that time has
passed since the movement's start: JAMMED, motor, reel drive and record amplifier off, fault code CAM_TIMEOUT, the PANEL command
in flight closed with MECH_DISCARDED (CAM_TIMEOUT), then MECH_FAULT; with no command in flight (INSERTING, and every movement
that an event started) MECH_FAULT alone. That the expiry changes nothing before that time is the model's choice (log 3). In
every motion (PLAY, RECORD, CUE, REVIEW, FWIND, RWIND and the three junction operations of REC_PAUSE) the stall threshold is 12
s before two pulses of the watched reel, then twice its last interval clamped to 1 s..12 s. At or within it, and with no motion
at all, nothing changes; past it reel drive and record amplifier are off, the PANEL command in flight and then the stored one
are closed with MECH_DISCARDED (REEL_STALL), the fault code is REEL_STALL, MECH_FAULT (REEL_STALL) with the state is sent and
UNTHREADING to IDLE starts. No entry holds the recorder and no search runs, so the reports to SCHED and MARK are without effect.
(Derived from R4, R10, R23, Chapter 1 section 1.10, notes/assumptions/3.) -/
def Obligations.MovementTimeoutsAndReelStallsEndInFault : Prop :=
  (∀ (m : MState) (ms t0 : Nat) (s : State),
      (m, ms) ∈ [(MState.inserting, 3000), (.threading, 4000), (.unthreading, 4000), (.ejecting, 3000), (.shifting, 1500)] →
      s.hears → s.mech.state = m → s.mech.camTimer = some t0 →
      ((s.now - t0) * 1000 < ms * 32768 → exec .camTimeout s = .next s.closed) ∧
      (ms * 32768 ≤ (s.now - t0) * 1000 → (∀ c, s.mech.inFlight = some c → c.origin = .panel ∧ c.silent = false) →
        s.mech.slot = none → s.mech.recoveryRun = false → s.mech.standbyStop = false → s.mark.search = none →
        s.sched.holder = none → s.pos.motion = none → s.mark.writer = .idle → s.servo.reference = .internal → s.roomFor 2 →
        let closes : List Notice := match s.mech.inFlight with | none => [] | some c => [.mechDiscarded c.what .panel .camTimeout]
        ∃ t, exec .camTimeout s = .next t ∧ t.mech.state = .jammed ∧ t.mech.motor = .off ∧ t.mech.reel = .off ∧
          t.mech.recAmp = false ∧ t.mech.fault = .camTimeout ∧ t.mech.camTarget = none ∧ t.mech.camTimer = none ∧
          t.mech.inFlight = none ∧ t.mech.slot = none ∧ t.mech.owner = s.mech.owner ∧
          t.link.notices = s.link.notices ++ closes ++ [.mechFault .camTimeout .jammed] ∧
          t.sched = s.sched ∧ t.tuner = s.tuner ∧ t.clock = s.clock ∧ t.pos.counter = s.pos.counter ∧ t.mark.list = s.mark.list)) ∧
  (∀ (s : State) (m : MState) (j : Option Junction) (x : Motion), s.hears → s.mech.state = m → s.mech.junction = j →
    (m = .recPause ∧ j.isSome = true ∨ m ∈ [MState.play, .record, .cue, .review, .fwind, .rwind] ∧ j = none) →
    s.pos.motion = some x →
    let threshold := if s.mech.stall.pulses < 2 then 12288 else clampNat 1024 12288 (2 * s.mech.stall.interval)
    (s.now - s.mech.stall.last ≤ threshold * 32 → exec .reelStall s = .next s.closed) ∧
    (threshold * 32 < s.now - s.mech.stall.last → (∀ c, s.mech.inFlight = some c → c.origin = .panel ∧ c.silent = false) →
      (∀ c, s.mech.slot = some c → c.origin = .panel ∧ c.silent = false) → s.mark.search = none → s.sched.holder = none →
      s.mark.writer = .idle → s.servo.reference = .internal → s.link.settings.counterNotices = false → s.roomFor 3 →
      let closes (o : Option Cmd) : List Notice :=
        match o with | none => [] | some c => [.mechDiscarded c.what .panel .reelStall]
      ∃ t, exec .reelStall s = .next t ∧ t.mech.state = .unthreading ∧ t.mech.target = .idle ∧ t.mech.camTarget = some 1 ∧
        t.mech.camTimer = some s.now ∧ t.mech.reel = .off ∧ t.mech.recAmp = false ∧ t.mech.fault = .reelStall ∧
        t.mech.junction = none ∧ t.mech.inFlight = none ∧ t.mech.slot = none ∧ t.mech.owner = s.mech.owner ∧
        t.pos.motion = none ∧ t.pos.counter = s.pos.counter ∧
        t.link.notices = s.link.notices ++ closes s.mech.inFlight ++ closes s.mech.slot ++ [.mechFault .reelStall m] ∧
        t.mark.list = s.mark.list ∧ t.sched = s.sched ∧ t.tuner = s.tuner ∧ t.clock = s.clock)) ∧
  (∀ s : State, s.hears → s.pos.motion = none → exec .reelStall s = .next s.closed)

/-- The cassette-in switch starts INSERTING, which seats in IDLE; opening it, or an EJECT in JAMMED, leads back to EMPTY.
Closing in EMPTY with supply-good and out of STANDBY starts INSERTING toward SEATED with its timeout; without supply-good only
the lines change. INSERTING at code 1 is IDLE: the tab is read, the counter 0 and exact, class and estimate gone, the
memory-stop target kept, the mark list empty, the tracking offset and manual value 0 from the next boundary, MECH_STATE (IDLE,
INSERTED); with AUTOPLAY, no tab and owner NONE a PLAY of the owner PANEL then threads. At the end of a recovery run the target
is gone too and the cause is RECOVERY alone. Opening in INSERTING reverses the motor: EJECTING. Opening in EJECTING after the
cam has read EJECT makes the mechanism EMPTY: the held tab absent, the fault code NONE, the counter 0, target and mark list
gone, a pending line standard current, the record speed corrected to one legal under it, and a PANEL EJECT in flight closed with
MECH_DONE (EMPTY). EJECT in JAMMED is EMPTY at once, DONE, with the cam at EJECT and the switch open; else it is ACCEPTED and
starts EJECTING from the codes 0 and 1 (at 0 the cam stands and only the switch is awaited) and UNTHREADING toward EMPTY from
any other. The switch opening in JAMMED with the cam at EJECT frees the mechanism too; by either way EJECT is then the code last
reported, so that the next INSERTING is driven forward. The model's choices: the tab line becomes absent where the switch opens
(log 5); the target is kept at a seating and deleted by a recovery run that seats (log 43), whose one notice has the cause
RECOVERY (log 41); EJECT in JAMMED with the cam at EJECT and the switch open is DONE and EMPTY at once (log 31); and the code
read at an EJECT in JAMMED, or at the switch opening there, is the last reported one (log 6, read from R1). (Derived from R1,
R5, Chapter 1 section 1.11, R29, R59, Chapter 3 section 3.8, R208, notes/assumptions/5, notes/assumptions/6,
notes/assumptions/31, notes/assumptions/41, notes/assumptions/43.) -/
def Obligations.CassetteSwitchSeatsAndFrees : Prop :=
  (∀ (tab : Bool) (s : State), s.hears → s.pwr.power ≠ .standby → s.mech.state = .empty →
    (s.supplyGood = false → exec (.cassetteInClose tab) s =
      .next (s.onPins fun p => { p with cassetteIn := true, tabSwitch := tab }).closed) ∧
    (s.supplyGood = true → ∃ t, exec (.cassetteInClose tab) s = .next t ∧ t.mech.state = .inserting ∧ t.mech.target = .idle ∧
      t.mech.camTarget = some 1 ∧ t.mech.camTimer = some s.now ∧ (s.mech.lastCode = some 0 → t.mech.motor = .fwd) ∧
      t.pins = { s.pins with cassetteIn := true, tabSwitch := tab } ∧ t.mech.owner = s.mech.owner ∧
      t.mech.tab = s.mech.tab ∧ t.tuner = s.tuner ∧ t.clock = s.clock ∧ t.sched = s.sched ∧ t.pwr = s.pwr)) ∧
  (∀ s : State, s.hears → s.mech.state = .inserting → s.mech.camTarget = some 1 → s.mech.inFlight = none → s.mech.slot = none →
    s.mech.standbyStop = false → s.pos.motion = none → s.mark.writer = .idle → s.servo.reference = .internal → s.roomFor 1 →
    let seated (t : State) (why : StateCause) (target : Option Int) : Prop :=
      t.mech.tab = s.pins.tabSwitch ∧ t.pos = { Pos.reset with target := target } ∧ t.mark.list = [] ∧
      t.servo.tracking.pending = some 0 ∧ t.servo.tracking.manual = 0 ∧
      t.link.notices = s.link.notices ++ [.mechState .idle why] ∧ t.tuner = s.tuner ∧ t.clock = s.clock ∧ t.sched.slots = s.sched.slots ∧
      t.pwr = s.pwr
    let rests (t : State) : Prop :=
      t.mech.state = .idle ∧ t.mech.motor = .off ∧ t.mech.camTarget = none ∧ t.mech.camTimer = none ∧ t.mech.inFlight = none ∧
      t.mech.owner = s.mech.owner ∧ t.mech.fault = s.mech.fault
    (s.mech.recoveryRun = false → s.mech.owner ≠ .panel →
      (s.link.settings.autoplay = false ∨ s.pins.tabSwitch = true ∨ s.mech.owner ≠ .none) →
      ∃ t, exec (.camTargetReached 1) s = .next t ∧ seated t .inserted s.pos.target ∧ rests t) ∧
    (s.mech.recoveryRun = false → s.mech.owner = .none → s.link.settings.autoplay = true → s.pins.tabSwitch = false →
      s.pins.leaderEnd = false → s.mech.recoveryPending = false → s.noOccurrence →
      ∃ t, exec (.camTargetReached 1) s = .next t ∧ seated t .inserted s.pos.target ∧ t.mech.state = .threading ∧
        t.mech.target = .play ∧ t.mech.camTarget = some 3 ∧ t.mech.camTimer = some s.now ∧
        t.mech.inFlight = some { what := .play, origin := .panel } ∧ t.mech.owner = .panel ∧ t.mech.fault = .none) ∧
    (s.mech.recoveryRun = true → s.mech.owner ≠ .panel → s.pwr.resetMark = false → s.sched.holder = none →
      ∃ t, exec (.camTargetReached 1) s = .next t ∧ seated t .recovery none ∧ rests t ∧ t.mech.recoveryRun = false)) ∧
  (∀ s : State, s.hears → s.pwr.power ≠ .standby → s.mech.state = .inserting →
    ∃ t, exec .cassetteInOpen s = .next t ∧ t.mech.state = .ejecting ∧ t.mech.target = .empty ∧ t.mech.camTarget = some 0 ∧
      t.mech.camTimer = some s.now ∧ t.mech.motor = .rev ∧ t.mech.ejectRead = false ∧ t.mech.inFlight = s.mech.inFlight ∧
      t.mech.slot = s.mech.slot ∧ t.mech.owner = s.mech.owner ∧ t.mech.tab = s.mech.tab ∧
      t.pins = { s.pins with cassetteIn := false, tabSwitch := false } ∧ t.pos.counter = s.pos.counter ∧
      t.mark.list = s.mark.list ∧ t.tuner = s.tuner ∧ t.clock = s.clock ∧ t.sched = s.sched ∧ t.pwr = s.pwr) ∧
  (∀ s : State, s.hears → s.pwr.power ≠ .standby → s.mech.state = .ejecting → s.mech.ejectRead = true →
    s.mech.inFlight = some { what := .eject, origin := .panel } → s.mech.slot = none → s.mech.owner = .none →
    s.mech.recoveryRun = false → s.mech.standbyStop = false → s.pos.motion = none → s.mark.writer = .idle →
    s.servo.reference = .internal → s.roomFor 1 →
    ∃ t, exec .cassetteInOpen s = .next t ∧ t.mech.state = .empty ∧ t.mech.tab = false ∧ t.mech.fault = .none ∧
      t.mech.motor = .off ∧ t.mech.camTarget = none ∧ t.mech.camTimer = none ∧ t.mech.inFlight = none ∧
      t.pins = { s.pins with cassetteIn := false, tabSwitch := false } ∧ t.pos = Pos.reset ∧ t.mark.list = [] ∧
      t.link.settings = { s.link.settings with currentStd := s.link.settings.pendingStd,
                                               recordSpeed := s.link.settings.recordSpeed.legal s.link.settings.pendingStd } ∧
      t.link.notices = s.link.notices ++ [.mechDone .eject .panel .empty] ∧ t.tuner = s.tuner ∧ t.clock = s.clock ∧
      t.sched = s.sched ∧ t.pwr = s.pwr) ∧
  (∀ s : State, s.takes → s.deckFree → s.mech.state = .jammed → s.mech.owner = .none →
    let freed (t : State) : Prop :=
      t.mech.state = .empty ∧ t.mech.tab = false ∧ t.mech.fault = .none ∧ t.mech.reel = .off ∧ t.mech.recAmp = false ∧
      t.mech.lastCode = some 0 ∧ t.mech.inFlight = none ∧ t.mech.owner = .none ∧ t.pos = Pos.reset ∧ t.mark.list = [] ∧
      t.link.settings = { s.link.settings with currentStd := s.link.settings.pendingStd,
                                               recordSpeed := s.link.settings.recordSpeed.legal s.link.settings.pendingStd } ∧
      t.tuner = s.tuner ∧ t.clock = s.clock ∧ t.sched = s.sched ∧ t.pwr = s.pwr
    let tries (t : State) (m : MState) (code : CamCode) : Prop :=
      t.mech.state = m ∧ t.mech.target = .empty ∧ t.mech.camTimer = some s.now ∧ t.mech.reel = .off ∧ t.mech.recAmp = false ∧
      t.mech.inFlight = some { what := .eject, origin := .panel } ∧ t.mech.owner = .none ∧ t.mech.fault = s.mech.fault ∧
      t.mech.lastCode = (if s.pins.cam = 7 then s.mech.lastCode else some s.pins.cam) ∧
      (s.pins.cam ≠ 0 → t.mech.camTarget = some code) ∧
      t.link.reply = some { kind := 1, result := .accepted, reason := .none, data := [] } ∧ t.pins = s.pins ∧
      t.pos.counter = s.pos.counter ∧ t.mark.list = s.mark.list ∧ t.tuner = s.tuner ∧ t.clock = s.clock ∧ t.sched = s.sched ∧
      t.pwr = s.pwr
    (s.pins.cam = 0 → s.pins.cassetteIn = false → ∃ t, exec .eject s = .next t ∧ freed t ∧ t.pins = s.pins ∧
      t.link.reply = some { kind := 1, result := .done, reason := .none, data := [] }) ∧
    (s.pins.cam = 0 → s.pins.cassetteIn = true → ∃ t, exec .eject s = .next t ∧ tries t .ejecting 0 ∧ t.mech.motor = .off ∧
      t.mech.camTarget = none ∧ t.mech.ejectRead = true) ∧
    (s.pins.cam = 1 → ∃ t, exec .eject s = .next t ∧ tries t .ejecting 0 ∧ t.mech.motor = .rev ∧ t.mech.ejectRead = false) ∧
    (s.pins.cam ≠ 0 → s.pins.cam ≠ 1 → ∃ t, exec .eject s = .next t ∧ tries t .unthreading 1) ∧
    (s.pins.cam = 0 → s.mech.recoveryRun = false → ∃ t, exec .cassetteInOpen s = .next t ∧ freed t ∧
      t.pins = { s.pins with cassetteIn := false, tabSwitch := false }) ∧
    (s.pins.cam ≠ 0 → exec .cassetteInOpen s =
      .next (s.onPins fun p => { p with cassetteIn := false, tabSwitch := false }).closed))

/-- The end leader ends a forward motion with TAPE_END, the start leader ends REVIEW and RWIND, each by a shift to HALT_POS. In
PLAY, RECORD, CUE and FWIND, and in the lock wait and the pre-roll of REC_PAUSE, a covered end leader latches TAPE_END, sends
the TAPE_END notice, switches reel drive and record amplifier off and starts the shift to HALT_POS; the PANEL command of the
junction operation is closed before it with MECH_DISCARDED (END_LEADER), and a stored one stays. In REVIEW and RWIND a covered
start leader starts the shift without flag or notice of its own: only the last COUNTER notice of the motion is sent, where these
are enabled. A sensor that becomes clear only changes its line. No search runs and no entry holds the recorder in these
statements; no MARK write runs. (Derived from R10, R16, R17, R21, R22, R68, R206.) -/
def Obligations.CoveredLeadersEndTheMotion : Prop :=
  (∀ (s : State) (j : Option Junction), s.hears → s.mech.junction = j →
    (s.mech.state ∈ [MState.play, .record, .cue, .fwind] ∧ j = none ∧ s.mech.inFlight = none ∨
      s.mech.state = .recPause ∧ (j = some .lockWait ∨ j = some .preRoll) ∧
        ∃ c, s.mech.inFlight = some c ∧ c.origin = .panel ∧ c.silent = false) →
    s.mark.search = none → s.sched.holder = none → s.mark.writer = .idle → s.roomFor 2 →
    let closes : List Notice := match s.mech.inFlight with | none => [] | some c => [.mechDiscarded c.what .panel .endLeader]
    ∃ t, exec (.endLeaderCovered true) s = .next t ∧ t.mech.state = .shifting ∧ t.mech.target = .halt ∧
      t.mech.camTarget = some 3 ∧ t.mech.camTimer = some s.now ∧ t.mech.reel = .off ∧ t.mech.recAmp = false ∧
      t.mech.junction = none ∧ t.mech.inFlight = none ∧ t.mech.slot = s.mech.slot ∧ t.servo.gate = none ∧
      t.mech.cause = some .endLeader ∧ t.mech.owner = s.mech.owner ∧ t.link.tapeEnd = true ∧
      t.link.notices.take (s.link.notices.length + closes.length + 1) =
        s.link.notices ++ closes ++ [.tapeEnd s.mech.state] ∧
      t.pins = { s.pins with leaderEnd := true } ∧ t.pos.counter = s.pos.counter ∧ t.mark.list = s.mark.list ∧
      t.sched = s.sched ∧ t.tuner = s.tuner ∧ t.clock = s.clock) ∧
  (∀ s : State, s.hears → s.mech.state ∈ [MState.review, .rwind] → s.mark.search = none → s.mark.writer = .idle →
    s.servo.reference = .internal → s.roomFor 1 →
    let last : List Notice := if s.link.settings.counterNotices = true ∧ s.pos.motion.isSome = true then
      [.counter s.pos.counter s.pos.approx s.pos.source] else []
    ∃ t, exec (.startLeaderCovered true) s = .next t ∧ t.mech.state = .shifting ∧ t.mech.target = .halt ∧
      t.mech.camTarget = some 3 ∧ t.mech.camTimer = some s.now ∧ t.mech.reel = .off ∧ t.mech.cause = some .startLeader ∧
      t.mech.inFlight = s.mech.inFlight ∧ t.mech.slot = s.mech.slot ∧ t.link.notices = s.link.notices ++ last ∧
      t.mech.owner = s.mech.owner ∧ t.link.tapeEnd = s.link.tapeEnd ∧ t.pins = { s.pins with leaderStart := true } ∧
      t.pos.counter = s.pos.counter ∧ t.mark.list = s.mark.list ∧ t.sched = s.sched ∧ t.tuner = s.tuner ∧
      t.clock = s.clock) ∧
  (∀ s : State, s.hears →
    exec (.endLeaderCovered false) s = .next (s.onPins fun p => { p with leaderEnd := false }).closed ∧
    exec (.startLeaderCovered false) s = .next (s.onPins fun p => { p with leaderStart := false }).closed)

/-- After 5 minutes of STILL or REC_PAUSE the tape is shifted to HALT, after 3 minutes of HALT it is unthreaded. At the end of every
step of any command the still timer runs just where the state is STILL or REC_PAUSE, nothing is in flight or stored and the
owner is not TIMER, the halt timer just where the state is HALT and nothing is in flight or stored; it stands suspended just
while the owning entry is PREPARING. Where the step leaves those conditions as they were, a running timer keeps its start, a new
one starts now, a suspended stretch is left out of the count, and a timer whose condition has ended is stopped: PAUSE in PLAY
starts the still timer, PLAY in STILL cancels it. The still timer having run 5 minutes, its expiry starts a shift to HALT_POS
with no command in flight and cause REST; the halt timer having run 3 minutes, its suspended stretches left out, its expiry
starts UNTHREADING to IDLE. That an expiry before that time, or with the timer stopped, changes nothing is the model's choice
(log 3). (Derived from R19, R20, notes/assumptions/3.) -/
def Obligations.RestTimersReleaseTheTape : Prop :=
  (∀ (s : State) (t0 : Nat), s.hears → s.mech.still = some t0 → (s.mech.state = .still ∨ s.mech.state = .recPause) →
    ((s.now - t0) * 1000 < 300000 * 32768 → exec .stillTimerExpiry s = .next s.closed) ∧
    (300000 * 32768 ≤ (s.now - t0) * 1000 →
      ∃ t, exec .stillTimerExpiry s = .next t ∧ t.mech.state = .shifting ∧ t.mech.target = .halt ∧ t.mech.camTarget = some 3 ∧
        t.mech.camTimer = some s.now ∧ t.mech.inFlight = s.mech.inFlight ∧ t.mech.cause = some .rest ∧ t.mech.still = none ∧
        t.mech.owner = s.mech.owner ∧ t.sched = s.sched ∧ t.tuner = s.tuner ∧ t.clock = s.clock ∧
        t.pos.counter = s.pos.counter)) ∧
  (∀ (s : State) (e t0 : Nat), s.hears → s.mech.halt = some { elapsed := e, since := some t0 } → s.mech.state = .halt →
    ((e + (s.now - t0)) * 1000 < 180000 * 32768 → exec .haltTimerExpiry s = .next s.closed) ∧
    (180000 * 32768 ≤ (e + (s.now - t0)) * 1000 →
      ∃ t, exec .haltTimerExpiry s = .next t ∧ t.mech.state = .unthreading ∧ t.mech.target = .idle ∧
        t.mech.camTarget = some 1 ∧ t.mech.camTimer = some s.now ∧ t.mech.inFlight = s.mech.inFlight ∧
        t.mech.cause = some .rest ∧ t.mech.halt = none ∧ t.mech.owner = s.mech.owner ∧ t.sched = s.sched ∧
        t.tuner = s.tuner ∧ t.clock = s.clock ∧ t.pos.counter = s.pos.counter)) ∧
  (∀ s : State, s.hears → s.mech.still = none → s.mech.halt = none →
    exec .stillTimerExpiry s = .next s.closed ∧ exec .haltTimerExpiry s = .next s.closed) ∧
  (∀ (i : Instr) (s : State), s.hears → i ≠ .resetLineLow →
    ∃ t, exec i s = .next t ∧
      (t.mech.still.isSome = true ↔ (t.mech.state = .still ∨ t.mech.state = .recPause) ∧ t.mech.inFlight = none ∧
        t.mech.slot = none ∧ ∀ k, t.mech.owner ≠ .timer k) ∧
      (t.mech.halt.isSome = true ↔ t.mech.state = .halt ∧ t.mech.inFlight = none ∧ t.mech.slot = none) ∧
      (∀ h, t.mech.halt = some h → (h.since = none ↔
        ∃ k, t.mech.owner = .timer k ∧ (t.sched.slots.getD (k - 1) Slot.reset).state = .preparing))) ∧
  (∀ s : State, s.mech.inFlight = none → s.mech.slot = none →
    ((s.mech.state = .still ∨ s.mech.state = .recPause) → s.mech.owner.isTimer = false →
      s.closed.mech.still = some (s.mech.still.getD s.now)) ∧
    (s.mech.state = .halt →
      let suspended : Prop :=
        ∃ k, s.mech.owner = .timer k ∧ (s.sched.slots.getD (k - 1) Slot.reset).state = .preparing
      (¬ suspended →
        (s.mech.halt = none → s.closed.mech.halt = some { elapsed := 0, since := some s.now }) ∧
        (∀ e, s.mech.halt = some { elapsed := e, since := none } →
          s.closed.mech.halt = some { elapsed := e, since := some s.now }) ∧
        (∀ e x, s.mech.halt = some { elapsed := e, since := some x } → s.closed.mech.halt = s.mech.halt)) ∧
      (suspended →
        (s.mech.halt = none → s.closed.mech.halt = some { elapsed := 0, since := none }) ∧
        (∀ e, s.mech.halt = some { elapsed := e, since := none } → s.closed.mech.halt = s.mech.halt) ∧
        (∀ e x, s.mech.halt = some { elapsed := e, since := some x } →
          s.closed.mech.halt = some { elapsed := e + (s.now - x), since := none })))) ∧
  (∀ s : State, s.takes → s.deckFree → s.mech.owner = .panel → s.pins.leaderEnd = false →
    (s.mech.state = .play → s.mech.still = none → ∃ t, exec .pause s = .next t ∧ t.mech.state = .still ∧
      t.mech.still = some s.now) ∧
    (s.mech.state = .still → ∃ t, exec .play s = .next t ∧ t.mech.state = .play ∧ t.mech.still = none))

/-- The drum loop moves between RUNUP, SPEED and LOCKED on its four counts of consecutive pulses and revolutions. Each drum FG pulse
counts as a period within ±2 % of 1/6 of a frame, as one with speed error beyond ±10 % (the period's difference from nominal
above 10 % of the period measured, the speed being the inverse of the period), or as neither; each count is of consecutive ones,
so the other kinds clear it. In RUNUP 12 good periods give SPEED. In SPEED and LOCKED the 12th period with speed error beyond
±10 %, or overdue FG pulse, gives RUNUP, a slip from LOCKED alone. Each revolution counts as within ±5 % of a frame, beyond ±10
% or neither: in SPEED the 8th good one gives LOCKED and stops the lock timer; in LOCKED the 4th bad one gives SPEED, counts a
slip and latches SERVO_SLIP; in STOPPED and RUNUP none is counted. An overdue PG pulse counts as a revolution beyond ±10 %. In
RECORD the record guard starts where a loop is out of LOCKED, and runs on; elsewhere it is off. All else but the identification
run stays as it was; a lock wait or pre-roll goes on while the capstan is not LOCKED. The model's choices: the measured periods
and phases are operands (log 8), the counts hold at their limits and every change of the loop's state zeroes them (log 30), and
an overdue row is taken as it comes, not judged against time (log 3). (Derived from R34, R42, R206, notes/assumptions/3,
notes/assumptions/8, notes/assumptions/30.) -/
def Obligations.DrumLoopMovesOnItsCounts : Prop :=
  ∀ (s : State) (period : Nat) (phase : Int), s.hears →
    (s.mech.junction = none ∨ s.mech.junction ≠ some .backspace ∧ s.servo.capstan.state ≠ .locked) →
    let d := s.servo.drum
    let scaled : Int := (period : Int) * (6 * s.std.frames : Nat)
    let good : Prop := (scaled - 1000000000).natAbs * 100 ≤ 2000000000
    let bad : Prop := 10 * scaled.natAbs < (scaled - 1000000000).natAbs * 100
    let after (i : Instr) (new : Drum) (slips : Bool) : Prop :=
      ∃ t, exec i s = .next t ∧
        t.servo = { s.servo with
          drum := new
          slip := if slips then satInc 255 s.servo.slip else s.servo.slip
          guard := if s.mech.state = .record ∧ ¬ (new.state = .locked ∧ s.servo.capstan.state = .locked)
            then some (s.servo.guard.getD s.now) else none } ∧
        t.link = { s.link with servoSlip := s.link.servoSlip || slips, sending := t.link.sending } ∧ sameMech s t ∧
        sameOuter s t ∧ t.mark = s.mark ∧ t.pos = { s.pos with candidate := t.pos.candidate, run := t.pos.run }
    let fg : Instr := .drumFgPulse period
    let pg : Instr := .drumPgPulse phase
    (d.state = .runup →
      (good → d.fgGood < 11 → after fg { d with fgGood := d.fgGood + 1, fgBad := 0 } false) ∧
      (good → 11 ≤ d.fgGood → after fg (d.moved .speed) false) ∧
      (¬ good → ¬ bad → after fg { d with fgGood := 0, fgBad := 0 } false) ∧
      (bad → after fg { d with fgGood := 0, fgBad := min 12 (d.fgBad + 1) } false) ∧
      after .drumFgOverdue { d with fgGood := 0, fgBad := min 12 (d.fgBad + 1) } false) ∧
    (d.state = .speed ∨ d.state = .locked →
      (good → after fg { d with fgGood := min 12 (d.fgGood + 1), fgBad := 0 } false) ∧
      (¬ good → ¬ bad → after fg { d with fgGood := 0, fgBad := 0 } false) ∧
      (d.fgBad < 11 → (bad → after fg { d with fgGood := 0, fgBad := d.fgBad + 1 } false) ∧
        after .drumFgOverdue { d with fgGood := 0, fgBad := d.fgBad + 1 } false) ∧
      (11 ≤ d.fgBad → (bad → after fg (d.moved .runup) (decide (d.state = .locked))) ∧
        after .drumFgOverdue (d.moved .runup) (decide (d.state = .locked)))) ∧
    (d.state = .speed →
      (phase.natAbs ≤ 50000 → d.pgGood < 7 → after pg { d with pgGood := d.pgGood + 1, pgBad := 0 } false) ∧
      (phase.natAbs ≤ 50000 → 7 ≤ d.pgGood → after pg { d.moved .locked with timer := none } false) ∧
      (50000 < phase.natAbs → phase.natAbs ≤ 100000 → after pg { d with pgGood := 0, pgBad := 0 } false) ∧
      (100000 < phase.natAbs → after pg { d with pgGood := 0, pgBad := min 4 (d.pgBad + 1) } false) ∧
      after .drumPgOverdue { d with pgGood := 0, pgBad := min 4 (d.pgBad + 1) } false) ∧
    (d.state = .locked →
      (phase.natAbs ≤ 50000 → after pg { d with pgGood := min 8 (d.pgGood + 1), pgBad := 0 } false) ∧
      (50000 < phase.natAbs → phase.natAbs ≤ 100000 → after pg { d with pgGood := 0, pgBad := 0 } false) ∧
      (d.pgBad < 3 → (100000 < phase.natAbs → after pg { d with pgGood := 0, pgBad := d.pgBad + 1 } false) ∧
        after .drumPgOverdue { d with pgGood := 0, pgBad := d.pgBad + 1 } false) ∧
      (3 ≤ d.pgBad → (100000 < phase.natAbs → after pg (d.moved .speed) true) ∧ after .drumPgOverdue (d.moved .speed) true)) ∧
    (d.state = .stopped → after fg d false ∧ after .drumFgOverdue d false) ∧
    (d.state = .stopped ∨ d.state = .runup → after pg d false ∧ after .drumPgOverdue d false)

/-- The capstan's speed criterion is met from the 24th period within ±2 % until 24 consecutive periods beyond ±10 %. Nominal is 480
pulses a second over the speed factor, five times that in picture search. The 24th consecutive good period meets the criterion
and cancels the lock timer; an earlier one only counts; a period between the limits clears both counts; the 24th consecutive
period beyond ±10 % ends it, an earlier one only counts, and each count holds at 24. The loop is LOCKED while the speed
criterion is met and, in phase mode, the phase criterion too; else it is in SPEED. In RECORD the record guard starts where a
loop is out of LOCKED, and runs on. POS may count the pulse as well: its counter, gap sum, accumulator, approximate flag and
identification run are left open here. A stopped capstan takes no pulse, and where the capstan draws no tape nothing is counted.
A lock wait or pre-roll goes on while the drum is not LOCKED. No search runs, and no entry holds the recorder. The model's
choices: the measured period is an operand of the row (log 8), and each count holds at 24, the number its rule asks for (log
30). (Derived from R36, R37, R42, R54, R55, notes/assumptions/8, notes/assumptions/30.) -/
def Obligations.CapstanLocksOnItsSpeedCriterion : Prop :=
  ∀ (s : State) (period : Nat) (g : CapTarget), s.hears →
    (s.mech.junction = none ∨ s.mech.junction ≠ some .backspace ∧ s.servo.drum.state ≠ .locked) → s.mark.search = none →
    s.sched.holder = none →
    let c := s.servo.capstan
    let scaled : Int := (period : Int) * (if g.fast then 2400 else 480 : Nat)
    let nominal : Int := 1000000000 * (g.speed.factor : Nat)
    let good : Prop := (scaled - nominal).natAbs * 100 ≤ 2 * nominal.natAbs
    let bad : Prop := 10 * nominal.natAbs < (scaled - nominal).natAbs * 100
    let phased : CapState := if c.phaseMode = false ∨ c.phaseMet = true then .locked else .speed
    let after (new : Capstan) : Prop :=
      ∃ t, exec (.capstanFgPulse period) s = .next t ∧
        t.servo = { s.servo with
          capstan := new
          guard := if s.mech.state = .record ∧ ¬ (s.servo.drum.state = .locked ∧ new.state = .locked)
            then some (s.servo.guard.getD s.now) else none } ∧
        t.pos = { s.pos with counter := t.pos.counter, gapSum := t.pos.gapSum, acc := t.pos.acc, approx := t.pos.approx,
                             candidate := t.pos.candidate, run := t.pos.run } ∧
        sameMech s t ∧ sameLink s t ∧ sameOuter s t ∧ t.mark = s.mark
    (c.target = none → s.mech.state ∉ [MState.play, .cue, .review, .recPause] →
      exec (.capstanFgPulse period) s = .next s.closed) ∧
    (c.target = some g → c.state ≠ .stopped →
      (c.speedMet = false →
        (good → c.good < 23 → after { c with good := c.good + 1, bad := 0, state := .speed }) ∧
        (good → 23 ≤ c.good → after { c with good := 24, bad := 0, speedMet := true, timer := none, state := phased }) ∧
        (¬ good → ¬ bad → after { c with good := 0, bad := 0, state := .speed }) ∧
        (bad → after { c with good := 0, bad := min 24 (c.bad + 1), state := .speed })) ∧
      (c.speedMet = true →
        (good → after { c with good := min 24 (c.good + 1), bad := 0, timer := none, state := phased }) ∧
        (¬ good → ¬ bad → after { c with good := 0, bad := 0, timer := none, state := phased }) ∧
        (bad → c.bad < 23 → after { c with good := 0, bad := c.bad + 1, timer := none, state := phased }) ∧
        (bad → 23 ≤ c.bad → after { c with good := 0, bad := 24, speedMet := false, state := .speed })))

/-- The loop timers, the record guard and the record gate raise DRUM, CAPSTAN and SERVO, and the tape is taken to HALT. Once its
length has passed (3 s, 1 s, 2 s) in a threaded state other than HALT, each timer sets its fault code, sends MECH_FAULT with it,
switches reel drive and record amplifier off and starts the shift to HALT_POS; a DRUM fault leaves the drum STOPPED and held
off, a CAPSTAN fault the capstan stopped. The record gate's 3 s in a lock wait or pre-roll raise DRUM where the drum is not
LOCKED, else CAPSTAN where the capstan is not, discarding the PANEL command in flight and leaving the drum STOPPED and held off,
or the capstan stopped; with both LOCKED only the gate ends. That the expiry of a loop timer, the guard or the gate changes
nothing before its length is the model's choice (log 3). A servo fault in THREADING, SHIFTING, HALT and outside the threaded
states (R24) is left out here. (Derived from R24, R33, R35, R37, R41, R42, notes/assumptions/3.) -/
def Obligations.LoopTimersRaiseServoFaults : Prop :=
  (∀ (s : State) (i : Instr) (f : FaultCode) (ms t0 : Nat), s.hears →
    ((i = .drumLockTimeout ∧ f = .drum ∧ ms = 3000 ∧ s.servo.drum.timer = some t0) ∨
      (i = .capstanLockTimeout ∧ f = .capstan ∧ ms = 1000 ∧ s.servo.capstan.timer = some t0) ∨
      (i = .recordGuardTimeout ∧ f = .servo ∧ ms = 2000 ∧ s.servo.guard = some t0)) →
    ((s.now - t0) * 1000 < ms * 32768 → exec i s = .next s.closed) ∧
    (ms * 32768 ≤ (s.now - t0) * 1000 → s.mech.state.threaded = true → s.mech.state ≠ .halt → s.mech.inFlight = none →
      s.mech.slot = none → s.mark.search = none → s.sched.holder = none → s.roomFor 1 →
      ∃ t, exec i s = .next t ∧ t.mech.state = .shifting ∧ t.mech.target = .halt ∧ t.mech.camTarget = some 3 ∧
        t.mech.camTimer = some s.now ∧ t.mech.fault = f ∧ t.mech.reel = .off ∧ t.mech.recAmp = false ∧
        t.mech.junction = none ∧ t.servo.capstan = Capstan.reset ∧ (f = .drum → t.servo.drum.state = .stopped ∧
        t.servo.drum.heldOff = true) ∧ t.link.notices.take (s.link.notices.length + 1) =
          s.link.notices ++ [.mechFault f s.mech.state] ∧
        t.pos.counter = s.pos.counter ∧ t.tuner = s.tuner ∧ t.clock = s.clock ∧ t.sched = s.sched ∧ t.box = s.box ∧
        t.pwr = s.pwr)) ∧
  (∀ (s : State) (t0 : Nat) (c : Cmd), s.hears → s.servo.gate = some t0 → s.mech.state = .recPause →
    (s.mech.junction = some .lockWait ∨ s.mech.junction = some .preRoll) →
    let faulted (f : FaultCode) (why : DiscardCause) : Prop :=
      ∃ t, exec .recordGateTimeout s = .next t ∧ t.mech.state = .shifting ∧ t.mech.target = .halt ∧ t.mech.fault = f ∧
        t.mech.junction = none ∧ t.mech.inFlight = none ∧ t.mech.recAmp = false ∧ t.mech.reel = .off ∧ t.servo.gate = none ∧
        t.servo.capstan = Capstan.reset ∧ (f = .drum → t.servo.drum.state = .stopped ∧ t.servo.drum.heldOff = true) ∧
        t.link.notices.take (s.link.notices.length + 2) =
          s.link.notices ++ [.mechFault f .recPause, .mechDiscarded c.what .panel why] ∧
        t.pos.counter = s.pos.counter ∧ t.tuner = s.tuner ∧ t.clock = s.clock ∧ t.sched = s.sched
    ((s.now - t0) * 1000 < 3000 * 32768 → exec .recordGateTimeout s = .next s.closed) ∧
    (3000 * 32768 ≤ (s.now - t0) * 1000 → s.servo.bothLocked = true →
      exec .recordGateTimeout s = .next (s.onServo fun v => { v with gate := none }).closed) ∧
    (3000 * 32768 ≤ (s.now - t0) * 1000 → s.mech.inFlight = some c → c.origin = .panel → c.silent = false →
      s.mech.slot = none → s.mark.search = none → s.sched.holder = none → s.roomFor 2 →
      (s.servo.drum.state ≠ .locked → faulted .drum .drum) ∧
      (s.servo.drum.state = .locked → s.servo.capstan.state ≠ .locked → faulted .capstan .capstan)))

/-- Sync is present after 8 intervals within ±4 % of the field period and absent after 8 outside or three field periods without a
pulse. Outside RECORD and REC_PAUSE the reference is internal and a sync pulse changes only its source's presence: each interval
within ±4 % of the field period, or outside it, adds to its count (at most 8) and clears the other; the eighth consecutive one
within makes the sync present, the eighth outside makes it absent, a source's first pulse has no interval. Three field periods
without a pulse make it absent. In REC_PAUSE with the source TUNER selected, the one source these two clauses cover, its sync
becoming present makes it the reference, with a REFERENCE notice, and a LOCKED drum goes to SPEED without a slip; its becoming
absent returns the reference to INTERNAL. The model's choices: SYNC_ABSENT_TIMEOUT before three field periods changes nothing
(log 3), the interval is an operand (log 8), each presence count holds at 8, and the drum's counts are all cleared where a
change of reference moves it to SPEED (log 30). (Derived from R34, R38, R39, R40, notes/assumptions/3, notes/assumptions/8,
notes/assumptions/30.) -/
def Obligations.SyncPresenceAndReference : Prop :=
  (∀ (s : State) (src : Source) (interval env t0 : Nat), s.hears → s.mech.junction = none →
    s.mech.state ≠ .record → s.mech.state ≠ .recPause → s.servo.reference = .internal →
    let y := s.servo.sync src
    let ok : Prop := ((interval : Int) * (2 * s.std.frames : Nat) - 1000000000).natAbs * 100 ≤ 4000000000
    let after (new : Sync) : Prop :=
      exec (.vsyncPulse src interval env) s = .next (s.onServo fun v => v.setSync src new).closed
    (y.timer = none → after { y with timer := some s.now, good := 0, bad := 0 }) ∧
    (y.timer = some t0 → ok →
      after { present := y.present || decide (7 ≤ y.good), good := min 8 (y.good + 1), bad := 0, timer := some s.now }) ∧
    (y.timer = some t0 → ¬ ok →
      after { present := y.present && decide (y.bad < 7), good := 0, bad := min 8 (y.bad + 1), timer := some s.now }) ∧
    (y.timer = some t0 → 3 * 32768 ≤ (s.now - t0) * (2 * s.std.frames) →
      exec (.syncAbsentTimeout src) s = .next (s.onServo fun v => v.setSync src Sync.reset).closed) ∧
    (y.timer = some t0 → (s.now - t0) * (2 * s.std.frames) < 3 * 32768 →
      exec (.syncAbsentTimeout src) s = .next s.closed)) ∧
  (∀ (s : State) (interval env t0 : Nat), s.hears → s.mech.state = .recPause → s.mech.junction = none →
    s.tuner.selected = .tuner → s.servo.drum.state = .locked → s.roomFor 1 →
    ((interval : Int) * (2 * s.std.frames : Nat) - 1000000000).natAbs * 100 ≤ 4000000000 →
    (s.servo.reference = .internal → s.servo.syncTuner = { present := false, good := 7, bad := 0, timer := some t0 } →
      ∃ t, exec (.vsyncPulse .tuner interval env) s = .next t ∧ t.servo.reference = .tuner ∧ t.servo.refCount = 0 ∧
        t.servo.drum = s.servo.drum.moved .speed ∧ t.servo.slip = s.servo.slip ∧ t.servo.capstan = s.servo.capstan ∧
        t.servo.syncTuner.present = true ∧ sameMech s t ∧ sameOuter s t ∧ t.pos.counter = s.pos.counter ∧
        t.link.notices = s.link.notices ++ [.reference .internal .tuner]) ∧
    (s.servo.reference = .tuner → s.servo.syncTuner.timer = some t0 → 3 * 32768 ≤ (s.now - t0) * (2 * s.std.frames) →
      ∃ t, exec (.syncAbsentTimeout .tuner) s = .next t ∧ t.servo.reference = .internal ∧
        t.servo.drum = s.servo.drum.moved .speed ∧ t.servo.slip = s.servo.slip ∧ t.servo.syncTuner = Sync.reset ∧
        sameMech s t ∧ sameOuter s t ∧ t.link.notices = s.link.notices ++ [.reference .tuner .internal]))

/-- At a frame boundary a pending offset takes effect, the envelope is sampled, and the tracking search measures, turns and
converges. In STILL, at an internal frame edge, the pending held offset takes effect and is applied, and nothing else changes.
In CUE and REVIEW with no search: a sample that makes the 16th consecutive defined average below 16 gives NO_SIGNAL and clears
the SIGNAL_OK flag; the 8th consecutive average of 24 or more gives SIGNAL back. In RECORD and REC_PAUSE with an external
reference the internal edge is no boundary. In PLAY with no replayed pulse within 0.6 s the edge is the boundary, and in AUTO
the 8th sample ends a measurement e: SEARCHING, the first one moves the held offset by the step at the next boundary; a later
one keeps, reverses (step halved, reversal run up) or is flat, and then converges or moves; CONVERGED, a block under three
quarters of the converged level counts as low, the fourth in a row searches again with step 4, another clears the count. Fewer
samples only collect; a boundary that applies a search's move takes none. NO_SIGNAL suspends the search, and SIGNAL starts one
with step 8. The sample as an operand of the edge is the model's choice (log 8). (Derived from R40, R45, R46, R48, R49, R50,
R206, notes/assumptions/8.) -/
def Obligations.FrameBoundaryAppliesAndSamples : Prop :=
  (∀ (s : State) (env : Nat), s.hears → s.mech.state = .still → s.servo.pendingSpeed = none →
    exec (.internalFrameEdge env) s = .next (s.onServo fun v =>
      { v with tracking := { v.tracking with held := v.tracking.pending.getD v.tracking.held, pending := none,
                                             applied := v.tracking.pending.getD v.tracking.held } }).closed) ∧
  (∀ (s : State) (env : Nat), s.hears → (s.mech.state = .cue ∨ s.mech.state = .review) → s.servo.pendingSpeed = none →
    s.mark.search = none → 7 ≤ s.servo.envelope.window.length →
    let w := (env :: s.servo.envelope.window).take 8
    (s.servo.envelope.noSignal = false → s.servo.envelope.lowRun = 15 → w.sum / 8 < 16 →
      ∃ t, exec (.internalFrameEdge env) s = .next t ∧
        t.servo.envelope = { window := w, lowRun := 16, highRun := 0, noSignal := true } ∧ t.link.signalOk = false ∧
        t.pos = s.pos ∧ t.mark = s.mark ∧ sameMech s t ∧ sameOuter s t) ∧
    (s.servo.envelope.noSignal = true → s.servo.envelope.highRun = 7 → 24 ≤ w.sum / 8 →
      ∃ t, exec (.internalFrameEdge env) s = .next t ∧
        t.servo.envelope = { window := w, lowRun := 0, highRun := 8, noSignal := false } ∧
        t.link.signalOk = s.link.signalOk ∧ t.pos = s.pos ∧ t.mark = s.mark ∧ sameMech s t ∧ sameOuter s t)) ∧
  (∀ (s : State) (env : Nat), s.hears → (s.mech.state = .record ∨ s.mech.state = .recPause) →
    s.servo.reference ≠ .internal → exec (.internalFrameEdge env) s = .next s.closed) ∧
  (∀ (s : State) (env : Nat), s.hears → s.mech.state = .play → s.servo.pulseSeen = none → s.servo.pendingSpeed = none →
    s.servo.tracking.mode = .auto → s.mark.search = none →
    let tr := s.servo.tracking
    let e := (env :: tr.samples).sum / 8
    let after (new : Tracking) : Prop := exec (.internalFrameEdge env) s = .next (s.onServo fun v =>
      { v with envelope := v.envelope.sample env, tracking := { new with applied := new.held } }).closed
    let moved (up : Bool) (step : Nat) : Option Int :=
      some (clampInt (-63) 63 (if up then tr.held + (step : Int) else tr.held - (step : Int)))
    (s.servo.envelope.noSignal = false → s.servo.envelope.lowRun < 15 →
      (tr.pending = none → (tr.state = .searching ∨ tr.state = .converged) → tr.samples.length < 7 →
        after { tr with samples := env :: tr.samples }) ∧
      (∀ p, tr.pending = some p → tr.state = .searching → tr.eOld.isSome = true → after { tr with held := p, pending := none }) ∧
      (tr.pending = none → tr.samples.length = 7 →
        (tr.state = .searching → tr.eOld = none →
          after { tr with eOld := some e, samples := [], pending := moved tr.up tr.step }) ∧
        (∀ old, tr.state = .searching → tr.eOld = some old →
          let turned : Bool := (decide (tr.held = 63) && tr.up) || (decide (tr.held = -63) && !tr.up) || decide (e + 2 < old)
          let better : Bool := !turned && decide (old + 2 < e)
          let step := if turned then max 1 (tr.step / 2) else tr.step
          let up := if turned then !tr.up else tr.up
          let reversal := if turned then tr.reversal + 1 else 0
          let flat := if !turned && !better && decide (tr.step = 1) then tr.flat + 1 else tr.flat
          let ended : Bool := decide (step = 1) && (decide (2 ≤ reversal) || decide (3 ≤ flat))
          (ended = true → after { tr with samples := [], eOld := some e, step := step, up := up, reversal := reversal,
                                          flat := flat, state := .converged, eConv := e, low := 0 }) ∧
          (ended = false → after { tr with samples := [], eOld := some e, step := step, up := up, reversal := reversal,
                                           flat := flat, pending := moved up step })) ∧
        (tr.state = .converged →
          (3 * tr.eConv ≤ 4 * e → after { tr with samples := [], low := 0 }) ∧
          (4 * e < 3 * tr.eConv → tr.low < 3 → after { tr with samples := [], low := tr.low + 1 }) ∧
          (4 * e < 3 * tr.eConv → tr.low = 3 → after { tr with
            state := .searching, left := .searching, bySignal := false, step := 4, up := true, reversal := 0, flat := 0,
            eOld := none, samples := [], low := 0 })))) ∧
    (7 ≤ s.servo.envelope.window.length →
      let w := (env :: s.servo.envelope.window).take 8
      (s.servo.envelope.noSignal = false → s.servo.envelope.lowRun = 15 → w.sum / 8 < 16 →
        (tr.state = .searching ∨ tr.state = .converged) →
        ∃ t, exec (.internalFrameEdge env) s = .next t ∧ t.servo.envelope.noSignal = true ∧ t.servo.tracking.state = .suspended ∧
          t.servo.tracking.bySignal = true ∧ t.link.signalOk = false ∧ t.pos = s.pos ∧ t.mark = s.mark ∧ sameMech s t ∧
          sameOuter s t) ∧
      (s.servo.envelope.noSignal = true → s.servo.envelope.highRun = 7 → 24 ≤ w.sum / 8 → tr.pending = none →
        ∃ t, exec (.internalFrameEdge env) s = .next t ∧ t.servo.envelope.noSignal = false ∧
          t.servo.tracking.state = .searching ∧ t.servo.tracking.step = 8 ∧ t.servo.tracking.up = true ∧
          t.servo.tracking.reversal = 0 ∧ t.servo.tracking.flat = 0 ∧ t.servo.tracking.eOld = none ∧
          t.servo.tracking.held = tr.held ∧ t.pos = s.pos ∧ t.mark = s.mark ∧ sameMech s t ∧ sameOuter s t)))

/-- Control pulses in PLAY find the play speed and the capstan's phase; 0.6 s without one ends phase mode, 1 s discards the
intervals. With no pulse for 0.6 s the capstan is in speed mode and, its speed criterion met, LOCKED; with none for 1 s the
collected intervals are discarded and the play speed is kept. In PLAY each pulse's interval is collected, but for the first
pulse's and for that of the first pulse after a gap of 1 s; the eighth empties the collection and the speed legal under the
standard whose nominal frames fit the sum within ±12 % is the candidate. It waits for the next pulse if it is another speed;
there it becomes the play speed with PLAY_SPEED, the capstan starts afresh toward it, and the tracking offset is to be 0 with
the manual value 0. While the latest average is the play speed the capstan is in phase mode: a pulse within ±5 % of a frame of
the offset applied at its frame boundary counts as good, one beyond ±10 % as bad, each count of consecutive ones and at most 4;
4 good meet the phase criterion, 4 bad end it, entering the mode clears it, and the loop is LOCKED with both criteria met, else
in SPEED. Without that average the mode is speed mode. The model's choices: an expiry before its time changes nothing (log 3);
an interval needs a pulse before it within PLAY, and the pulse that brings phase mode is the first of the 4 (log 15); the
interval across a gap of 1 s is not collected (log 42); the frame boundary at a pulse comes before its other effects (log 25);
each count holds at 4 (log 30); and the measured phase is an operand (log 8). (Derived from R33, R36, R40, R44, R46, R62,
notes/assumptions/3, notes/assumptions/8, notes/assumptions/15, notes/assumptions/25, notes/assumptions/30,
notes/assumptions/42.) -/
def Obligations.ControlPulseGapsOfTheServo : Prop :=
  (∀ (s : State) (t0 : Nat), s.hears → s.mech.junction = none →
    (s.servo.pulseSeen = some t0 →
      ((s.now - t0) * 1000 < 600 * 32768 → exec .phaseModeGapTimeout s = .next s.closed) ∧
      (600 * 32768 ≤ (s.now - t0) * 1000 → s.servo.capstan.state ≠ .stopped →
        ∃ t, exec .phaseModeGapTimeout s = .next t ∧ t.servo.pulseSeen = none ∧
          t.servo.capstan = { s.servo.capstan with phaseMode := false,
                                                   state := if s.servo.capstan.speedMet then .locked else .speed } ∧
          t.servo.drum = s.servo.drum ∧ t.servo.playSpeed = s.servo.playSpeed ∧ sameMech s t ∧ sameLink s t ∧
          sameOuter s t ∧ t.pos.counter = s.pos.counter ∧ t.mark = s.mark)) ∧
    (s.servo.speedGap = some t0 →
      ((s.now - t0) * 1000 < 1000 * 32768 → exec .playSpeedGapTimeout s = .next s.closed) ∧
      (1000 * 32768 ≤ (s.now - t0) * 1000 → exec .playSpeedGapTimeout s =
        .next (s.onServo fun v => { v with intervals := [], speedGap := none }).closed))) ∧
  (∀ (s : State) (m : Motion) (duty interval env : Nat) (phase : Int), s.hears → s.mech.state = .play →
    s.mech.junction = none → s.pos.motion = some m → m.forward = true → s.mark.search = none → s.sched.holder = none →
    s.mark.writer = .idle → s.mark.reader.phase ≠ .inRun → s.servo.pendingSpeed = none →
    let now : Nat := s.servo.playSpeed.factor
    let fits (v : Speed) : Prop :=
      ((((interval + s.servo.intervals.sum) * (s.std.frames * v.factor) : Nat) : Int) - 8000000000 * (now : Int)).natAbs * 100 ≤
        12 * (8000000000 * now)
    let after (p : State → Prop) : Prop :=
      ∃ t, exec (.controlPulseReplayed duty phase interval env) s = .next t ∧ t.servo.pulseSeen = some s.now ∧
        t.servo.speedGap = some s.now ∧ t.servo.drum = s.servo.drum ∧ t.mark.list = s.mark.list ∧ sameMech s t ∧ sameOuter s t ∧
        p t
    (s.servo.pendingPlay = none →
      (s.servo.speedGap = none → after fun t => t.servo.playSpeed = s.servo.playSpeed ∧
        t.servo.intervals = s.servo.intervals ∧ t.servo.pendingPlay = none ∧ t.servo.avgSpeed = s.servo.avgSpeed) ∧
      (s.servo.speedGap.isSome = true → s.servo.intervals.length < 7 → after fun t =>
        t.servo.playSpeed = s.servo.playSpeed ∧ t.servo.intervals = interval :: s.servo.intervals ∧
        t.servo.pendingPlay = none ∧ t.servo.avgSpeed = s.servo.avgSpeed) ∧
      (s.servo.speedGap.isSome = true → s.servo.intervals.length = 7 →
        (∀ v : Speed, v.isLegal s.std = true → fits v → after fun t => t.servo.playSpeed = s.servo.playSpeed ∧
          t.servo.intervals = [] ∧ t.servo.avgSpeed = some v ∧
          t.servo.pendingPlay = (if v = s.servo.playSpeed then none else some v)) ∧
        ((∀ v : Speed, v.isLegal s.std = true → ¬ fits v) → after fun t => t.servo.playSpeed = s.servo.playSpeed ∧
          t.servo.intervals = [] ∧ t.servo.avgSpeed = none ∧ t.servo.pendingPlay = none))) ∧
    (s.servo.pendingPlay = none → s.servo.speedGap.isSome = true → s.servo.intervals.length < 7 → s.servo.capstan.state ≠ .stopped →
      let c := s.servo.capstan
      let err := (256 * phase - 1000000 * s.servo.tracking.pending.getD s.servo.tracking.held).natAbs
      let good : Prop := err ≤ 256 * 50000
      let bad : Prop := 256 * 100000 < err
      let met : CapState := if c.speedMet then .locked else .speed
      let turns (new : Capstan) : Prop := after fun t => t.servo.capstan = new
      (s.servo.avgSpeed ≠ some s.servo.playSpeed → turns { c with phaseMode := false, state := met }) ∧
      (s.servo.avgSpeed = some s.servo.playSpeed →
        (c.phaseMode = false → turns { c with phaseMode := true, phaseGood := if good then 1 else 0,
                                              phaseBad := if bad then 1 else 0, phaseMet := false, state := .speed }) ∧
        (c.phaseMode = true → c.phaseMet = false →
          (good → c.phaseGood < 3 → turns { c with phaseGood := c.phaseGood + 1, phaseBad := 0, state := .speed }) ∧
          (good → 3 ≤ c.phaseGood → turns { c with phaseGood := 4, phaseBad := 0, phaseMet := true, state := met }) ∧
          (¬ good → ¬ bad → turns { c with phaseGood := 0, phaseBad := 0, state := .speed }) ∧
          (bad → turns { c with phaseGood := 0, phaseBad := min 4 (c.phaseBad + 1), state := .speed })) ∧
        (c.phaseMode = true → c.phaseMet = true →
          (good → turns { c with phaseGood := min 4 (c.phaseGood + 1), phaseBad := 0, state := met }) ∧
          (¬ good → ¬ bad → turns { c with phaseGood := 0, phaseBad := 0, state := met }) ∧
          (bad → c.phaseBad < 3 → turns { c with phaseGood := 0, phaseBad := c.phaseBad + 1, state := met }) ∧
          (bad → 3 ≤ c.phaseBad → turns { c with phaseGood := 0, phaseBad := 4, phaseMet := false, state := .speed })))) ∧
    (∀ v : Speed, s.servo.pendingPlay = some v → s.servo.capstan.target ≠ some { speed := v, fast := false, reverse := false } →
      s.roomFor 1 → after fun t => t.servo.playSpeed = v ∧ t.servo.pendingPlay = none ∧ t.servo.intervals = [] ∧
        t.servo.capstan.target = some { speed := v, fast := false, reverse := false } ∧ t.servo.capstan.state = .speed ∧
        t.servo.capstan.timer = some s.now ∧ t.servo.tracking.pending = some 0 ∧ t.servo.tracking.manual = 0 ∧
        (s.servo.tracking.mode = .auto → t.servo.tracking.state = .searching ∧ t.servo.tracking.step = 8 ∧
          t.servo.tracking.eOld = none) ∧
        .playSpeed v ∈ t.link.notices))

/-- TRACKING stores the clamped value and the mode in every mechanism state and is answered DONE. The value, clamped to −63..+63, is
the manual value; the mode in force and the value stand in the reply. In MANUAL a stored value, and at the change to MANUAL the
manual value, is to become the held offset at the next boundary, and the change makes the search IDLE; a change to AUTO starts
the search from the held offset with step 8 in PLAY, and elsewhere an idle search starts with step 8 at the next entry to PLAY;
in AUTO a value changes nothing else. The offset waiting for the boundary is the held one after it. No other register changes.
The order of the reply's bytes is the model's choice (log 26). (Derived from R46, R47, R48, R202, Chapter 2 section 2.8,
notes/assumptions/26.) -/
def Obligations.TrackingRequestSetsModeAndManualValue : Prop :=
  ∀ (s : State) (a : TrackingArg) (v : Option Int), s.takes →
    let n := v.map (clampInt (-63) 63)
    let old := s.servo.tracking
    let manual := n.getD old.manual
    ∃ t, exec (.tracking a v) s = .next t ∧
      t.servo = { s.servo with tracking := t.servo.tracking } ∧ t.servo.tracking.manual = manual ∧
      t.servo.tracking.mode = (match a with | .auto => .auto | .manual => .manual | .unchanged => old.mode) ∧
      t.servo.tracking.held = old.held ∧ t.servo.tracking.applied = old.applied ∧
      (t.servo.tracking.mode = .manual → old.mode = .manual →
        t.servo.tracking = { old with manual := manual, pending := n.or old.pending } ∧
        (∀ m x, n = some x → (t.servo.tracking.boundary m).held = x)) ∧
      (t.servo.tracking.mode = .manual → old.mode = .auto →
        t.servo.tracking.state = .idle ∧ t.servo.tracking.pending = some manual ∧
        ∀ m, (t.servo.tracking.boundary m).held = manual) ∧
      (t.servo.tracking.mode = .auto → (old.mode = .auto ∨ s.mech.state ≠ .play) →
        t.servo.tracking = { old with manual := manual, mode := .auto } ∧
        (old.mode = .manual → old.state = .idle → (t.servo.tracking.enter s.mech.state .play).state = .searching ∧
          (t.servo.tracking.enter s.mech.state .play).step = 8)) ∧
      (t.servo.tracking.mode = .auto → old.mode = .manual → s.mech.state = .play →
        t.servo.tracking.state = .searching ∧ t.servo.tracking.step = 8 ∧ t.servo.tracking.up = true ∧
        t.servo.tracking.reversal = 0 ∧ t.servo.tracking.flat = 0 ∧ t.servo.tracking.eOld = none ∧
        t.servo.tracking.pending = old.pending) ∧
      t.link.reply = some { kind := 4, result := .done, reason := .none,
                            data := [byte t.servo.tracking.mode.code] ++ optional 1 (n.map fun x => [sbyte x]) } ∧
      t.link = { s.link with reply := t.link.reply, sending := t.link.sending } ∧ sameMech s t ∧ sameOuter s t ∧
      t.pos = s.pos ∧ t.mark = s.mark

/-- A replayed control pulse moves the counter one frame, in the direction of the motion or of the overshoot after it. In PLAY,
CUE and FWIND a replayed pulse adds one to the counter and in REVIEW and RWIND it subtracts one; the source is CONTROL, the gap
sum 0 and the gap watch starts again. At a counter limit the counter stays there and the approximate flag is set. The hypotheses
leave out what else may follow the pulse: a memory stop, a search, a skip, a correction. In RECORD a replayed pulse does
nothing. In the overshoot after a motion, in SHIFTING, HALT, STILL and a resting REC_PAUSE, it is counted the same way in that
motion's direction, and of the deck's other blocks only SERVO's loops take note of it: no mark is read. A motion that ends in
SHIFTING, HALT or STILL keeps its direction for this and the counter stands as it was; one that ends off the drum keeps none.
The model's choices: the direction kept until the tape leaves the drum, a pulse with none kept doing nothing (log 52), and what
the part measures of a pulse as operands (log 8). (Derived from R40, R52, R53, R54, notes/assumptions/8, notes/assumptions/52.)
-/
def Obligations.CounterFollowsReplayedPulses : Prop :=
  (∀ (s : State) (m : Motion) (duty interval env : Nat) (phase : Int), s.hears → s.pos.motion = some m →
    ((m.forward = true ∧ s.mech.state ∈ [MState.play, .cue, .fwind]) ∨
      (m.forward = false ∧ s.mech.state ∈ [MState.review, .rwind])) →
    s.mech.junction = none → s.mark.search = none → s.sched.holder = none → s.pos.target = none → s.pos.approx = false →
    s.servo.pendingSpeed = none → s.mark.writer = .idle → s.mark.reader.phase ≠ .inRun →
    - counterLimit s.std ≤ s.pos.counter → s.pos.counter ≤ counterLimit s.std →
    let limit := counterLimit s.std
    let v := if m.forward then s.pos.counter + 1 else s.pos.counter - 1
    ∃ t, exec (.controlPulseReplayed duty phase interval env) s = .next t ∧
      (- limit ≤ v ∧ v ≤ limit → t.pos.counter = v ∧ t.pos.approx = false) ∧
      (¬ (- limit ≤ v ∧ v ≤ limit) → t.pos.counter = s.pos.counter ∧ t.pos.approx = true) ∧
      t.pos.source = .control ∧ t.pos.gapSum = 0 ∧ t.pos.gap = some s.now ∧ t.pos.acc = s.pos.acc ∧
      t.mark.list = s.mark.list ∧ sameMech s t ∧ sameOuter s t) ∧
  (∀ (s : State) (forward : Bool) (duty interval env : Nat) (phase : Int), s.hears → s.pos.motion = none →
    s.pos.coast = some forward → s.mech.state ∈ [MState.shifting, .halt, .still, .recPause] →
    - counterLimit s.std ≤ s.pos.counter → s.pos.counter ≤ counterLimit s.std →
    let limit := counterLimit s.std
    let v := if forward then s.pos.counter + 1 else s.pos.counter - 1
    ∃ t, exec (.controlPulseReplayed duty phase interval env) s = .next t ∧
      (- limit ≤ v ∧ v ≤ limit → t.pos.counter = v ∧ t.pos.approx = s.pos.approx) ∧
      (¬ (- limit ≤ v ∧ v ≤ limit) → t.pos.counter = s.pos.counter ∧ t.pos.approx = true) ∧
      t.pos = { s.pos with counter := t.pos.counter, approx := t.pos.approx, source := .control, gapSum := 0, gap := some s.now,
                           candidate := t.pos.candidate, run := t.pos.run } ∧
      t.mark = { s.mark with headDuty := none } ∧ sameMech s t ∧ sameLink s t ∧ sameOuter s t) ∧
  (∀ (s : State) (duty interval env : Nat) (phase : Int), s.hears →
    s.mech.state = .record ∨ s.pos.motion = none ∧ s.pos.coast = none →
    exec (.controlPulseReplayed duty phase interval env) s = .next s.closed) ∧
  (∀ (s : State) (m : Motion) (new : MState), s.pos.motion = some m →
    new ∈ [MState.shifting, .halt, .still, .unthreading, .ejecting, .idle, .jammed, .empty] →
    let t := setState new none false s
    t.pos.motion = none ∧ t.pos.counter = s.pos.counter ∧
      t.pos.coast = if new ∈ [MState.shifting, .halt, .still] then some m.forward else none)

/-- A counted frame that crosses the memory-stop target in a wind starts the shift to HALT_POS and keeps the target. In FWIND a
replayed pulse that brings the counter from below the target to it, and in RWIND one from above, starts a shift to HALT_POS with
cause MEMORY_STOP; a wind that stands at the target goes on until it has come back to it. With the frame not crossing, or a
command in flight, or a TIMER owner, the wind goes on. The target is kept. ZERO, a correction and the change of source after 0.6
s without a pulse start no stop, and while the source is NONE a capstan pulse moves nothing. (Stated: R60.) -/
def Obligations.WindsStopAtTheMemoryTarget : Prop :=
  ∀ (s : State) (forward : Bool) (t0 : Nat) (target : Int), s.hears →
    s.pos.motion = some { forward := forward, start := t0 } → s.mech.state = (if forward then .fwind else .rwind) →
    s.pos.target = some target → s.mech.junction = none → s.mark.search = none →
    (∀ h, s.sched.holder = some h → h.skip = none) →
    (∀ (duty interval env : Nat) (phase : Int), s.servo.pendingSpeed = none → s.mark.writer = .idle →
      s.mark.reader.phase ≠ .inRun → - counterLimit s.std < s.pos.counter → s.pos.counter < counterLimit s.std →
      let v := if forward then s.pos.counter + 1 else s.pos.counter - 1
      let crosses : Prop :=
        if forward then s.pos.counter < target ∧ target ≤ v else target < s.pos.counter ∧ v ≤ target
      ∃ t, exec (.controlPulseReplayed duty phase interval env) s = .next t ∧ t.pos.counter = v ∧ t.pos.target = some target ∧
        (crosses → s.mech.inFlight = none → s.mech.owner.isTimer = false →
          t.mech.state = .shifting ∧ t.mech.target = .halt ∧ t.mech.camTarget = some 3 ∧ t.mech.camTimer = some s.now ∧
          t.mech.cause = some .memoryStop ∧ t.mech.inFlight = none ∧ t.mech.reel = .off) ∧
        (¬ crosses ∨ s.mech.inFlight.isSome = true ∨ s.mech.owner.isTimer = true → t.mech.state = s.mech.state) ∧
        t.tuner = s.tuner ∧ t.clock = s.clock ∧ t.sched = s.sched ∧ t.box = s.box ∧ t.pwr = s.pwr) ∧
    (s.takes → ∃ t, exec .zero s = .next t ∧ t.mech.state = s.mech.state ∧ t.pos.counter = 0) ∧
    (∃ t, exec .posGapTimeout s = .next t ∧ t.mech.state = s.mech.state ∧ t.pos.counter = s.pos.counter ∧
      t.pos.target = some target) ∧
    (∀ period, s.pos.source = .none → ∃ t, exec (.capstanFgPulse period) s = .next t ∧ t.pos.counter = s.pos.counter ∧
      t.mech.state = s.mech.state) ∧
    (∀ d, (correctCounter d s).mech = s.mech ∧ (correctCounter d s).reports = s.reports ∧
      (correctCounter d s).pos.target = some target)

/-- Without control pulses the capstan counts a play motion, and a wind's counter becomes approximate. In PLAY, CUE and REVIEW with
source CONTROL a capstan pulse adds the frame rate times the play speed's factor to the gap sum, or takes it off in reverse.
With source CAPSTAN it does so to the accumulator; while that stands at 480 or more it loses 480 and the counter moves one frame
forward, and while at −480 or less it gains 480 and the counter moves one back: the counter moves by the whole multiples of 480
and the accumulator keeps the rest with its sign; at its limit the counter stays there and the approximate flag is set. 0.6 s
without a control pulse make the source CAPSTAN there: the gap sum joins the accumulator, and the frames it then owes (7,200
units are 15) are counted at once. They make it NONE with the approximate flag set in FWIND and RWIND; in RECORD the source
stays CONTROL. That the expiry changes nothing before 0.6 s is the model's choice (log 3). What the capstan loop itself does at
the pulse, and with it the record guard and the identification run, is left open here. No junction operation and no search runs,
and no entry holds the recorder, at a pulse. (Derived from R42, R52, R53, R54, R55, R56, notes/assumptions/3.) -/
def Obligations.CapstanCountsABlankStretch : Prop :=
  (∀ (s : State) (m : Motion) (period : Nat), s.hears → s.mech.junction = none → s.pos.motion = some m →
    ((m.forward = true ∧ s.mech.state ∈ [MState.play, .cue]) ∨ (m.forward = false ∧ s.mech.state = .review)) →
    s.mark.search = none → s.sched.holder = none →
    let unit : Int := (s.std.frames : Int) * (s.servo.playSpeed.factor : Int)
    let v : Int := if m.forward then unit else - unit
    let after (p : Pos) : Prop :=
      ∃ t, exec (.capstanFgPulse period) s = .next t ∧ t.pos = { p with candidate := t.pos.candidate, run := t.pos.run } ∧
        t.servo = { s.servo with capstan := t.servo.capstan, guard := t.servo.guard } ∧ sameMech s t ∧ sameOuter s t ∧
        t.mark = s.mark ∧ sameLink s t
    (s.pos.source = .none → after s.pos) ∧
    (s.pos.source = .control → after { s.pos with gapSum := s.pos.gapSum + v }) ∧
    (s.pos.source = .capstan → - counterLimit s.std ≤ s.pos.counter → s.pos.counter ≤ counterLimit s.std →
      let total := s.pos.acc + v
      let raw := s.pos.counter + total.tdiv 480
      let kept := clampInt (- counterLimit s.std) (counterLimit s.std) raw
      after { s.pos with acc := total.tmod 480, counter := kept, approx := s.pos.approx || decide (kept ≠ raw) })) ∧
  (∀ (s : State) (t0 : Nat) (m : Motion), s.hears → s.mech.junction = none → s.pos.motion = some m → s.pos.gap = some t0 →
    s.pos.source = .control →
    ((s.now - t0) * 1000 < 600 * 32768 → exec .posGapTimeout s = .next s.closed) ∧
    (600 * 32768 ≤ (s.now - t0) * 1000 →
      (s.mech.state = .record → exec .posGapTimeout s = .next s.closed) ∧
      (s.mech.state = .fwind ∨ s.mech.state = .rwind → exec .posGapTimeout s =
        .next (s.onPos fun p => { p with source := .none, approx := true, gap := none }).closed) ∧
      (s.mech.state ∈ [MState.play, .cue, .review] → s.mark.search = none → s.sched.holder = none →
        - counterLimit s.std ≤ s.pos.counter → s.pos.counter ≤ counterLimit s.std →
        let total := s.pos.acc + s.pos.gapSum
        let raw := s.pos.counter + total.tdiv 480
        let kept := clampInt (- counterLimit s.std) (counterLimit s.std) raw
        exec .posGapTimeout s = .next (s.onPos fun p =>
          { p with source := .capstan, acc := total.tmod 480, counter := kept, approx := p.approx || decide (kept ≠ raw),
                   gapSum := 0, gap := none }).closed)))

/-- ZERO sets the counter to 0 and moves target and marks by the shift; SET_MEMORY, CLEAR_MEMORY and POSITION store, delete and
report. In every state but EMPTY and under every owner ZERO sets counter, accumulator and gap sum to 0 and clears the
approximate flag; the shift is the negative of the counter; the memory-stop target is moved by it and clamped, the mark list's
positions are moved by it, entries that fall outside the counter's range being removed (R78); the source is not changed. Of
MECH's registers only the value from which a junction operation counts its frames may change (it is left open: that it moves
with the counter is the model's choice of log 14), and no other block's. No search runs and no entry holds the recorder at ZERO.
Outside EMPTY, SET_MEMORY replaces the target by the value clamped to the counter's range and CLEAR_MEMORY deletes it. These
three are answered DONE with counter, flag and target (section 3.2), in the bytes that are the model's choice of log 26; in
EMPTY they are refused NO_CASSETTE. POSITION is answered DONE in every state with the counter, flag, source, target, class and
estimate, and changes nothing. (Derived from R58, R59, R67, R78, R211, Chapter 3 section 3.2, notes/assumptions/14,
notes/assumptions/26.) -/
def Obligations.CounterRequestsRebaseTargetAndReport : Prop :=
  (∀ s : State, s.takes → s.mech.state ≠ .empty → s.mark.search = none → s.sched.holder = none →
    let shift := - s.pos.counter
    let limit := counterLimit s.std
    ∃ t, exec .zero s = .next t ∧
      t.pos = { s.pos with counter := 0, acc := 0, gapSum := 0, approx := false,
                           target := (s.pos.target.map fun v => clampInt (- limit) limit (v + shift)) } ∧
      t.mark = { s.mark with list := ((s.mark.list.map fun e => { e with pos := e.pos + shift }).filter fun e =>
        decide (- limit ≤ e.pos) && decide (e.pos ≤ limit)) } ∧
      t.link.reply = some { kind := 5, result := .done, reason := .none,
                            data := sbe24 0 ++ [flag false] ++ optional 3 (t.pos.target.map sbe24) } ∧
      t.link = { s.link with reply := t.link.reply, sending := t.link.sending } ∧
      t.mech = { s.mech with junctionAt := t.mech.junctionAt, still := t.mech.still, halt := t.mech.halt } ∧
      t.servo = s.servo ∧ sameOuter s t) ∧
  (∀ (s : State) (v : Int), s.takes →
    (s.mech.state ≠ .empty →
      let s1 := s.onPos fun p => { p with target := some (clampInt (- counterLimit s.std) (counterLimit s.std) v) }
      let s2 := s.onPos fun p => { p with target := none }
      exec (.setMemory v) s = .next (s1.answered 5 .done .none
        (sbe24 s.pos.counter ++ [flag s.pos.approx] ++ optional 3 (s1.pos.target.map sbe24))).closed ∧
      exec .clearMemory s = .next (s2.answered 5 .done .none
        (sbe24 s.pos.counter ++ [flag s.pos.approx] ++ optional 3 none)).closed) ∧
    (s.mech.state = .empty →
      refusedWith .zero 5 .noCassette [] s ∧ refusedWith (.setMemory v) 5 .noCassette [] s ∧
      refusedWith .clearMemory 5 .noCassette [] s) ∧
    exec .position s = .next (s.answered 0x16 .done .none (positionData s)).closed)

/-- Reel intervals make the periods and a LIVE estimate, and a motion's seconds send the notices the settings enable. In every
motion an interval of either reel whose two pulses came after the window's first second is admitted, as at least 1 tick; the
four newest are kept and make a period, clamped to 1..65,535. At each admitted interval that makes a reel's count a multiple of
4, with both periods present: in PLAY or RECORD with the capstan LOCKED an identification attempt is made (a class whose Qc lies
within 6 % of Qn becomes the candidate with run 1, or as the candidate already adds one; the third in a row sets a class other
than the present one, with CLASS; no class clears the run); and with a class known F16 is computed by the three stages, the
estimate is LIVE, and a wind slows once the reel paid out (supply in FWIND, take-up in RWIND) is below 1,024. At any other pulse
of a motion the class and the estimate stay. Outside a motion a reel pulse does nothing. A full second of the motion not yet
announced queues COUNTER where counter notices are on, a full ten seconds REMAINING likewise; that a notice timer without a
motion, or whose second or ten seconds are announced, changes nothing is the model's choice (log 3), and so is the reel's
interval as an operand (log 8). For every class and every pair of periods 1..65,535 the fraction is at most 65,536 and the
remaining seconds at a speed of factor m at most D × m. The two worked examples and the limits table of section 3.5 come out as
printed: C120 with 7,000 and 4,790 ticks gives Qn 70,258, F16 47,164 and 5,181, 10,363 and 15,544 s; C60 with 64 and 148 gives
760, 41 and 83 s. (Derived from R61, R63, R64, R65, R66, R68, R69, R204, R205, Chapter 3 section 3.5, notes/assumptions/3,
notes/assumptions/8.) -/
def Obligations.ReelPulsesMakePeriodsAndTheEstimate : Prop :=
  (∀ (s : State) (r : Reel) (interval : Nat), s.hears → s.pos.motion = none →
    exec (.reelPulse r interval) s = .next s.closed) ∧
  (∀ (past : Bool) (recent : List Nat) (a b c d n : Nat),
    (recent.length < 4 → ({ past := past, recent := recent, count := n } : ReelRecord).period = none) ∧
    ({ past := past, recent := [a, b, c, d], count := n } : ReelRecord).period = some (clampNat 1 65535 (a + b + c + d))) ∧
  (∀ (s : State) (m : Motion) (reel : Reel) (interval : Nat), s.hears → s.pos.motion = some m → s.sched.holder = none →
    s.roomFor 1 →
    let old : ReelRecord := if reel = .supply then s.pos.supply else s.pos.takeUp
    let past : Bool := decide (1000 * 32768 ≤ (s.now - s.pos.window) * 1000)
    let new : ReelRecord := if old.past = true
      then { past := past, recent := (max 1 interval :: old.recent).take 4, count := old.count + 1 }
      else { old with past := past }
    let supply : ReelRecord := if reel = .supply then new else s.pos.supply
    let takeUp : ReelRecord := if reel = .supply then s.pos.takeUp else new
    let after (p : State → Prop) : Prop :=
      ∃ t, exec (.reelPulse reel interval) s = .next t ∧ t.pos.supply = supply ∧ t.pos.takeUp = takeUp ∧
        t.pos.counter = s.pos.counter ∧ t.mech.state = s.mech.state ∧ t.servo = s.servo ∧ t.mark = s.mark ∧
        sameOuter s t ∧ p t
    let sameClass (t : State) : Prop := t.pos.cls = s.pos.cls ∧ t.link.notices = s.link.notices
    let noAttempt (t : State) : Prop := sameClass t ∧ t.pos.candidate = s.pos.candidate ∧ t.pos.run = s.pos.run
    let noEstimate (t : State) : Prop := t.pos.f16 = s.pos.f16 ∧ t.pos.estState = s.pos.estState ∧
      t.pos.endApproach = s.pos.endApproach ∧ t.mech.windSlow = s.mech.windSlow
    let revolution : Prop := old.past = true ∧ (old.count + 1) % 4 = 0
    (¬ revolution ∨ supply.period = none ∨ takeUp.period = none → after fun t => noAttempt t ∧ noEstimate t) ∧
    (∀ ps pt, revolution → supply.period = some ps → takeUp.period = some pt →
      let attempted : Prop := s.mech.state ∈ [MState.play, .record] ∧ s.servo.capstan.state = .locked
      let estimated (c : CassetteClass) (t : State) : Prop := t.pos.estState = .live ∧
        t.pos.f16 = (clampNat 6169 (c.qc - 6169) (roundHalfUp (c.qc * (ps * ps)) (ps * ps + pt * pt)) - 6169) * 65536 /
          (c.qc - 2 * 6169) ∧
        t.pos.endApproach = (s.pos.endApproach || decide (s.mech.state = .fwind ∧ t.pos.f16 < 1024) ||
          decide (s.mech.state = .rwind ∧ 65536 - t.pos.f16 < 1024)) ∧
        t.mech.windSlow = (s.mech.windSlow || t.pos.endApproach)
      let estimateOf (t : State) : Prop :=
        (s.pos.cls = none → noEstimate t) ∧ (∀ c, s.pos.cls = some c → estimated c t)
      (¬ attempted → after fun t => noAttempt t ∧ estimateOf t) ∧
      (attempted →
        let v : Speed := if s.mech.state = .record then s.recordingSpeed else s.servo.playSpeed
        let q := min (roundHalfUp (ps * ps + pt * pt) (1024 * (v.factor * v.factor))) 16777215
        let fits (k : CassetteClass) : Prop := ((q : Int) - (k.qc : Int)).natAbs * 100 ≤ 6 * k.qc
        ((∀ k, ¬ fits k) → after fun t => t.pos.candidate = none ∧ t.pos.run = 0 ∧ sameClass t ∧ estimateOf t) ∧
        (∀ k, fits k →
          (s.pos.candidate ≠ some k → after fun t =>
            t.pos.candidate = some k ∧ t.pos.run = 1 ∧ sameClass t ∧ estimateOf t) ∧
          (s.pos.candidate = some k → s.pos.run < 2 → after fun t =>
            t.pos.candidate = some k ∧ t.pos.run = s.pos.run + 1 ∧ sameClass t ∧ estimateOf t) ∧
          (s.pos.candidate = some k → s.pos.run = 2 →
            (s.pos.cls = some k → after fun t => sameClass t ∧ estimated k t) ∧
            (s.pos.cls ≠ some k → after fun t => t.pos.cls = some k ∧ t.pos.candidate = none ∧ t.pos.run = 0 ∧
              estimated k t ∧ t.link.notices = s.link.notices ++ [.classSet k s.pos.cls])))))) ∧
  (∀ (s : State) (m : Motion), s.hears →
    (s.pos.motion = none → exec .counterNoticeTimer s = .next s.closed ∧ exec .remainingNoticeTimer s = .next s.closed) ∧
    (s.pos.motion = some m →
      let n := (s.now - m.start) / 32768
      (n ≤ s.pos.counterSent → exec .counterNoticeTimer s = .next s.closed) ∧
      (s.pos.counterSent < n →
        let s1 := s.onPos fun p => { p with counterSent := n }
        (s.link.settings.counterNotices = true → exec .counterNoticeTimer s =
          .next (notify (.counter s.pos.counter s.pos.approx s.pos.source) s1).closed) ∧
        (s.link.settings.counterNotices = false → exec .counterNoticeTimer s = .next s1.closed)) ∧
      (n / 10 ≤ s.pos.remainingSent → exec .remainingNoticeTimer s = .next s.closed) ∧
      (s.pos.remainingSent < n / 10 →
        let s1 := s.onPos fun p => { p with remainingSent := n / 10 }
        (s.link.settings.remainingNotices = true → exec .remainingNoticeTimer s =
          .next (notify (.remaining s.pos.estState (remainingValues s)) s1).closed) ∧
        (s.link.settings.remainingNotices = false → exec .remainingNoticeTimer s = .next s1.closed)))) ∧
  (∀ (c : CassetteClass) (ps pt : Nat) (v : Speed), 1 ≤ ps → ps ≤ 65535 → 1 ≤ pt → pt ≤ 65535 →
    fraction16 c ps pt ≤ 65536 ∧ remainingSeconds c (fraction16 c ps pt) v ≤ c.duration * v.factor ∧
    fraction16 c 1 65535 = 0 ∧ fraction16 c 65535 1 = 65536) ∧
  qn 7000 4790 1 = 70258 ∧ identify 70258 = some .c120 ∧ fraction16 .c120 7000 4790 = 47164 ∧
  remainingSeconds .c120 47164 .s = 5181 ∧ remainingSeconds .c120 47164 .h = 10363 ∧
  remainingSeconds .c120 47164 .t = 15544 ∧ fraction16 .c60 64 148 = 760 ∧ remainingSeconds .c60 760 .s = 41 ∧
  remainingSeconds .c60 760 .h = 83

/-- The 48 pulses of a mark read back in both directions, a closed run joins the list or corrects the counter, and the list keeps
its order. For INDEX, PROTECT_BEGIN, PROTECT_END and every value 0..4,095 the mark is 48 pulses, and a run of them at positions
p..p+47, met in either direction, is read as one mark at p with that type and value. From at most 32 entries in ascending
position, any two at least 48 apart, the list after R76's addition is so too and holds the new entry and, of the old ones, all
but those less than 48 from it and, where 32 are left, the one farthest from the counter (the lower of two equally far). In
PLAY, CUE and REVIEW a replayed pulse counts a frame; a coded one (duty below 420 or above 670 per mille) extends the run or
begins one, whole where a bound came before it; a PLAIN one closes the run. A whole run of 48 that is a mark: with an exact
counter it is listed with source READ; with an approximate one the entry of its type and value nearest to the position read (the
lower of two equally near) corrects the counter, clamped, by the difference, clears the flag, sends COUNTER_CORRECTED and adds
nothing; with no such entry it is listed. A whole run of 8 to 47 pulses is listed as UNREADABLE at its first pulse in tape
order, a shorter one and one without a bound before it read as nothing. No search, write, erase or entry of the programme is
under way, and no play speed waits. (Derived from R52, R57, R74, R75, R76, R77.) -/
def Obligations.MarksAreReadListedAndCorrectTheCounter : Prop :=
  (∀ (t : MarkType) (v : Nat) (p : Int), t ≠ .unreadable → v < 4096 →
    let run : List (Int × Duty) := (List.range 48).zip (markPulses t v) |>.map fun x => (p + (x.1 : Int), x.2)
    (markPulses t v).length = 48 ∧
    examineRun true run.reverse = [{ pos := p, type := t, value := some v }] ∧
    examineRun false run = [{ pos := p, type := t, value := some v }]) ∧
  (∀ (counter : Int) (e : MarkEntry) (l : List MarkEntry), l.length ≤ 32 →
    l.Pairwise (fun a b => a.pos + 48 ≤ b.pos) →
    (addMark counter e l).length ≤ 32 ∧ (addMark counter e l).Pairwise (fun a b => a.pos + 48 ≤ b.pos) ∧
    (let clear := l.filter fun f => decide (48 ≤ (f.pos - e.pos).natAbs)
     let evicted (f : MarkEntry) : Prop := clear.length = 32 ∧ ∀ g ∈ clear, g ≠ f →
       (g.pos - counter).natAbs < (f.pos - counter).natAbs ∨
         (g.pos - counter).natAbs = (f.pos - counter).natAbs ∧ f.pos < g.pos
     ∀ f, f ∈ addMark counter e l ↔ f = e ∨ f ∈ clear ∧ ¬ evicted f)) ∧
  (∀ (s : State) (x : Motion) (duty interval env : Nat) (phase : Int), s.hears → s.pos.motion = some x →
    (x.forward = true ∧ s.mech.state ∈ [MState.play, .cue] ∨ x.forward = false ∧ s.mech.state = .review) →
    s.mech.junction = none → s.mark.search = none → s.sched.holder = none → s.mark.writer = .idle →
    s.servo.pendingSpeed = none → s.servo.pendingPlay = none → - counterLimit s.std < s.pos.counter →
    s.pos.counter < counterLimit s.std →
    let v1 : Int := if x.forward then s.pos.counter + 1 else s.pos.counter - 1
    let here : Int := if x.forward then v1 else v1 + 1
    let d : Duty := if duty < 420 then .short else if duty ≤ 670 then .plain else .long
    let r := s.mark.reader
    let after (p : State → Prop) : Prop :=
      ∃ t, exec (.controlPulseReplayed duty phase interval env) s = .next t ∧ t.mark.writer = .idle ∧ sameMech s t ∧
        sameOuter s t ∧ p t
    let still (t : State) : Prop :=
      t.pos.counter = v1 ∧ t.pos.approx = s.pos.approx ∧ t.mark.list = s.mark.list ∧ t.link.notices = s.link.notices
    let bound (t : State) : Prop := t.mark.reader.phase = .bounded ∧ t.mark.reader.pulses = []
    let adds (e : MarkEntry) : Prop := after fun t => bound t ∧ t.pos.counter = v1 ∧ t.pos.approx = s.pos.approx ∧
      t.mark.list = addMark v1 e s.mark.list ∧ t.link.notices = s.link.notices
    (d ≠ .plain →
      (r.phase = .inRun → after fun t => still t ∧ t.mark.reader.phase = .inRun ∧ t.mark.reader.sound = r.sound ∧
        t.mark.reader.pulses = (here, d) :: r.pulses) ∧
      (r.phase ≠ .inRun → after fun t => still t ∧ t.mark.reader.phase = .inRun ∧
        t.mark.reader.sound = decide (r.phase = .bounded) ∧ t.mark.reader.pulses = [(here, d)])) ∧
    (d = .plain → r.phase ≠ .inRun ∨ r.sound = false ∨ r.pulses.length < 8 → after fun t => still t ∧ bound t) ∧
    (d = .plain → r.phase = .inRun → r.sound = true →
      (∀ (p : Int) (first : Duty) (rest : List (Int × Duty)), rest.length < 47 → 7 ≤ rest.length →
        r.pulses = (if x.forward then ((p, first) :: rest).reverse else (p, first) :: rest) →
        adds { pos := p, type := .unreadable, value := none, written := false }) ∧
      (∀ (t : MarkType) (v : Nat) (p : Int), t ≠ .unreadable → v < 4096 →
        let run : List (Int × Duty) := (List.range 48).zip (markPulses t v) |>.map fun x => (p + (x.1 : Int), x.2)
        let e : MarkEntry := { pos := p, type := t, value := some v, written := false }
        r.pulses = (if x.forward then run.reverse else run) →
        (s.pos.approx = false → adds e) ∧
        (s.pos.approx = true → (∀ f ∈ s.mark.list, ¬ (f.type = t ∧ f.value = some v)) → adds e) ∧
        (s.pos.approx = true → s.mark.list.Pairwise (fun a b => a.pos < b.pos) → s.roomFor 1 →
          ∀ f ∈ s.mark.list, f.type = t → f.value = some v →
            (∀ g ∈ s.mark.list, g.type = t → g.value = some v → g ≠ f →
              (f.pos - p).natAbs < (g.pos - p).natAbs ∨ (f.pos - p).natAbs = (g.pos - p).natAbs ∧ f.pos < g.pos) →
            let fixed := clampInt (- counterLimit s.std) (counterLimit s.std) (v1 + (f.pos - p))
            after fun u => bound u ∧ u.pos.counter = fixed ∧ u.pos.approx = false ∧ u.mark.list = s.mark.list ∧
              u.link.notices = s.link.notices ++ [.counterCorrected v1 fixed f]))))

/-- MARK LIST is answered DONE in every state with the count, the flag and up to 8 entries from the first index. In every mechanism
state and under every owner the reply carries the number of entries, the approximate flag and up to 8 entries in the list's
ascending order from the first index; an index at or beyond the count gives none. Nothing else changes. (Stated: R79.) -/
def Obligations.MarkListRequestIsAnswered : Prop :=
  ∀ (s : State) (first : Nat), s.takes →
    exec (.markList first) s = .next (s.answered 3 .done .none
      ([byte s.mark.list.length, flag s.pos.approx] ++ (((s.mark.list.drop first).take 8).map markEntryBytes).flatten)).closed ∧
    (s.mark.list.length ≤ first →
      exec (.markList first) s = .next (s.answered 3 .done .none [byte s.mark.list.length, flag s.pos.approx]).closed)

/-- MARK WRITE and ERASE apply their checks in order, write pulse by pulse and end at their 48th; the gap watch aborts a started
write. In EMPTY both are refused NO_CASSETTE, under TIMER TIMER_ACTIVE; a WRITE of another type or an INDEX value above 4,095
INVALID_ARG; outside PLAY and RECORD, a protect type in RECORD, and an ERASE outside PLAY BAD_STATE; with the writer busy BUSY;
in PLAY without a pulse within 0.6 s NO_CONTROL. Otherwise ACCEPTED, in PLAY and for INDEX in RECORD, with the writer WRITING (a
protect value corrected to 0) or ERASING and nothing else changed. Each replayed pulse of PLAY, and each pulse RECORD writes at
an internal frame edge, then carries the duty (SHORT 300, PLAIN 550, LONG 800 per mille) of the mark's next pulse; the first
one's position is the write's; at the 48th the mark joins the list with source WRITTEN, MARK_WRITTEN is sent and the writer is
IDLE. An erase waits for the first coded pulse after a PLAIN one, whose position it takes; each later pulse is rewritten PLAIN;
at the 48th the entries nearer than 48 are removed, MARK_ERASED is sent with the first of them and the writer is IDLE. A write
in PLAY that hears no pulse for 0.6 s is aborted with NO_CONTROL. The model's choices: MARK_ERASED names the lower entry where
two are removed (log 28), and the gap watch's expiry before its time changes nothing (log 3). (Derived from R40, R74, R76, R78,
R80, R81, R82, R83, R84, notes/assumptions/3, notes/assumptions/28.) -/
def Obligations.MarkWriteAndEraseAreCheckedInOrder : Prop :=
  (∀ (s : State) (type v : Nat) (t : MarkType), s.takes →
    (s.mech.state = .empty → refusedWith (.markWrite type v) 3 .noCassette [] s ∧ refusedWith .markErase 3 .noCassette [] s) ∧
    (s.mech.state ≠ .empty → s.mech.owner.isTimer = true →
      refusedWith (.markWrite type v) 3 .timerActive [] s ∧ refusedWith .markErase 3 .timerActive [] s) ∧
    (s.mech.state ≠ .empty → s.mech.owner.isTimer = false →
      ((type = 0 ∨ 3 < type ∨ (type = 1 ∧ 4095 < v)) → refusedWith (.markWrite type v) 3 .invalidArg [] s) ∧
      (s.mech.state ≠ .play → refusedWith .markErase 3 .badState [] s) ∧
      ((type = 1 ∧ v ≤ 4095) ∨ type = 2 ∨ type = 3 →
        (s.mech.state ≠ .play ∧ s.mech.state ≠ .record) ∨ (s.mech.state = .record ∧ type ≠ 1) →
        refusedWith (.markWrite type v) 3 .badState [] s) ∧
      (s.mech.state = .record → type = 1 → v ≤ 4095 →
        (s.mark.writer ≠ .idle → refusedWith (.markWrite type v) 3 .busy [] s) ∧
        (s.mark.writer = .idle → exec (.markWrite type v) s = .next ((s.onMark fun m =>
          { m with writer := .writing .index v .panel 0 none true }).answered 3 .accepted .none []).closed)) ∧
      (s.mech.state = .play → s.mark.writer ≠ .idle → (type = 1 ∧ v ≤ 4095) ∨ type = 2 ∨ type = 3 →
        refusedWith (.markWrite type v) 3 .busy [] s ∧ refusedWith .markErase 3 .busy [] s) ∧
      (s.mech.state = .play → s.mark.writer = .idle → s.mark.reader.heard = false →
        (type = 1 ∧ v ≤ 4095) ∨ type = 2 ∨ type = 3 →
        refusedWith (.markWrite type v) 3 .noControl [] s ∧ refusedWith .markErase 3 .noControl [] s) ∧
      (s.mech.state = .play → s.mark.writer = .idle → s.mark.reader.heard = true →
        ((type, t) ∈ [(1, MarkType.index), (2, .protectBegin), (3, .protectEnd)] → v ≤ 4095 →
          exec (.markWrite type v) s = .next ((s.onMark fun m =>
            { m with writer := .writing t (if t = .index then v else 0) .panel 0 none false }).answered 3 .accepted .none []).closed) ∧
        exec .markErase s =
          .next ((s.onMark fun m => { m with writer := .erasing 0 none }).answered 3 .accepted .none []).closed))) ∧
  (∀ (s : State) (t : MarkType) (v n : Nat) (o : Origin) (p : Option Int) (t0 : Nat), s.hears → s.mech.state = .play →
    s.mech.junction = none → s.mark.writer = .writing t v o n p false → s.mark.reader.phase ≠ .inRun →
    s.mark.reader.gap = some t0 →
    ((s.now - t0) * 1000 < 600 * 32768 → exec .markGapTimeout s = .next s.closed) ∧
    (600 * 32768 ≤ (s.now - t0) * 1000 → s.roomFor 1 →
      ∃ u, exec .markGapTimeout s = .next u ∧ u.mark.writer = .idle ∧ u.mark.list = s.mark.list ∧
        u.mark.reader.heard = false ∧ u.link.notices = s.link.notices ++ [.markAborted .write (some t) (some v) n .noControl] ∧
        u.pos = s.pos ∧ u.servo = s.servo ∧ sameMech s u ∧ sameOuter s u)) ∧
  (∀ (s : State) (x : Motion) (t : MarkType) (v n duty interval env : Nat) (o : Origin) (at0 : Option Int) (phase : Int) (d : Duty),
    s.hears → s.mech.junction = none → s.mark.search = none → s.sched.holder = none → s.mech.inFlight = none →
    s.pos.motion = some x → x.forward = true → s.servo.pendingSpeed = none → s.servo.pendingPlay = none →
    - counterLimit s.std < s.pos.counter → s.pos.counter < counterLimit s.std → s.roomFor 1 →
    let v1 := s.pos.counter + 1
    let duties (d : Duty) : Nat := match d with | .short => 300 | .plain => 550 | .long => 800
    let after (i : Instr) (p : State → Prop) : Prop :=
      ∃ u, exec i s = .next u ∧ u.pos.counter = v1 ∧ u.pos.approx = s.pos.approx ∧ sameMech s u ∧ sameOuter s u ∧ p u
    let goesOn (u : State) (w : Writer) (list : List MarkEntry) : Prop :=
      u.mark.writer = w ∧ u.mark.list = list ∧ u.link.notices = s.link.notices
    let written (i : Instr) (inRecord : Bool) (list : List MarkEntry) : Prop :=
      (n < 47 → after i fun u => u.mark.headDuty = some (duties d) ∧
        goesOn u (.writing t v o (n + 1) (some (at0.getD v1)) inRecord) list) ∧
      (n = 47 → after i fun u => u.mark.headDuty = some (duties d) ∧ u.mark.writer = .idle ∧
        u.mark.list = addMark v1 { pos := at0.getD v1, type := t, value := some v, written := true } list ∧
        u.link.notices = s.link.notices ++ [.markWritten t v (at0.getD v1) o])
    let pulse : Instr := .controlPulseReplayed duty phase interval env
    (s.mech.state = .play → s.mark.writer = .writing t v o n at0 false → (markPulses t v)[n]? = some d →
      written pulse false s.mark.list) ∧
    (s.mech.state = .record → s.mech.owner = .panel → s.servo.reference = .internal → s.mark.guardDone = true →
      s.mark.writer = .writing t v o n at0 true → (markPulses t v)[n]? = some d →
      written (.internalFrameEdge env) true (s.mark.list.filter fun e => decide (e.pos ≠ v1))) ∧
    (s.mech.state = .play → s.mark.reader.phase ≠ .inRun → s.mark.writer = .erasing 0 none →
      (420 ≤ duty ∧ duty ≤ 670 ∨ s.mark.reader.lastPlain = false → after pulse fun u =>
        goesOn u (.erasing 0 none) s.mark.list ∧ u.mark.headDuty = none) ∧
      (duty < 420 ∨ 670 < duty → s.mark.reader.lastPlain = true → after pulse fun u =>
        goesOn u (.erasing 1 (some v1)) s.mark.list ∧ u.mark.headDuty = none)) ∧
    (∀ p, s.mech.state = .play → s.mark.writer = .erasing n (some p) →
      (n < 47 → after pulse fun u => goesOn u (.erasing (n + 1) (some p)) s.mark.list ∧ u.mark.headDuty = some 550) ∧
      (n = 47 → after pulse fun u => u.mark.headDuty = some 550 ∧ u.mark.writer = .idle ∧
        u.mark.list = (s.mark.list.filter fun e => decide (48 ≤ (e.pos - p).natAbs)) ∧
        u.link.notices = s.link.notices ++ [.markErased p (s.mark.list.find? fun e => decide ((e.pos - p).natAbs < 48))])))

/-- In RECORD each reference frame edge counts one written pulse, and under PANEL the guard of a protected span stops the tape. In
RECORD the reference frame edge is the internal frame edge with the internal reference, and with an external one, whose sync is
present, every second sync pulse of the source, counted from its take-up. Such an edge adds one to the counter and removes a
listed mark that starts at the new counter. Where the new counter lies in a known span extended 24 frames before its begin, for
the first time in this RECORD, PROTECT_STOP is sent and the shift to HALT_POS starts with the record amplifier off; elsewhere
RECORD goes on with the amplifier as it was. The sync pulse between two edges counts nothing and leaves RECORD as it is. The
interval as an operand, and the take-up pulse as the start of the count, are the model's choices (logs 8 and 15). (Derived from
R25, R38, R40, R53, R78, R86, notes/assumptions/8, notes/assumptions/15.) -/
def Obligations.RecordingCountsFramesAndStopsAtASpan : Prop :=
  ∀ (s : State) (m : Motion) (env interval t0 : Nat) (src : Source), s.hears → s.mech.state = .record →
    s.servo.pendingSpeed = none → s.mech.junction = none → s.pos.motion = some m → s.mech.owner = .panel →
    s.mech.inFlight = none → s.mark.search = none → s.mark.writer = .idle → s.sched.holder = none → s.pos.target = none →
    s.mark.guardDone = false → s.roomFor 1 → s.pos.counter < counterLimit s.std → - counterLimit s.std ≤ s.pos.counter →
    let list := s.mark.list.filter fun e => decide (e.pos ≠ s.pos.counter + 1)
    let guarded : Option Span := (spansFrom (counterLimit s.std) none list).find? fun p =>
      decide (p.first - 24 ≤ s.pos.counter + 1) && decide (s.pos.counter + 1 ≤ p.last)
    let edge (i : Instr) : Prop :=
      ∃ t, exec i s = .next t ∧ t.pos.counter = s.pos.counter + 1 ∧ t.mark.list = list ∧
        (guarded = none → t.mech.state = .record ∧ t.mech.recAmp = s.mech.recAmp ∧ t.link.notices = s.link.notices) ∧
        (∀ p, guarded = some p → t.mech.state = .shifting ∧ t.mech.target = .halt ∧ t.mech.camTarget = some 3 ∧
          t.mech.recAmp = false ∧ t.mech.reel = .off ∧ t.mech.cause = some .protectStop ∧
          t.link.notices.take (s.link.notices.length + 1) = s.link.notices ++
            [.protectStop (s.pos.counter + 1) p.first (if p.opened then none else some p.last)]) ∧
        t.tuner = s.tuner ∧ t.clock = s.clock ∧ t.sched = s.sched ∧ t.box = s.box ∧ t.pwr = s.pwr
    (s.servo.reference = .internal → edge (.internalFrameEdge env)) ∧
    (s.servo.reference = (match src with | .tuner => .tuner | .line => .line) → s.tuner.selected = src →
      (s.servo.sync src).present = true → (s.servo.sync src).timer = some t0 →
      ((interval : Int) * (2 * s.std.frames : Nat) - 1000000000).natAbs * 100 ≤ 4000000000 →
      (s.servo.refCount = 1 → edge (.vsyncPulse src interval env)) ∧
      (s.servo.refCount = 0 → ∃ t, exec (.vsyncPulse src interval env) s = .next t ∧ t.servo.refCount = 1 ∧
        t.pos.counter = s.pos.counter ∧ t.mark = s.mark ∧ sameMech s t ∧ sameLink s t ∧ sameOuter s t))

/-- A search request in HALT fills the search record and issues its first wind or CUE; a search under way, an empty deck or TIMER
refuses it. From a free recorder in HALT with no occurrence in the programme and clear leaders: INDEX_SEARCH of n > 0 and
INDEX_SCAN start toward FWIND, n < 0 toward RWIND, COUNTER_SEARCH toward its clamped target, BLANK_SEARCH toward CUE; the record
holds kind, start position and the clamped argument, the owner becomes PANEL and the reply is ACCEPTED. A COUNTER_SEARCH for the
present counter is answered DONE. EMPTY, a TIMER owner, a search under way and n = 0 refuse; that a refused COUNTER_SEARCH
carries no approximate flag is the model's choice of log 44. (Derived from R7, R11, R87, notes/assumptions/44.) -/
def Obligations.SearchesIssueTheirFirstCommand : Prop :=
  ∀ (s : State) (n v : Int) (f : Bool), s.takes →
    (s.mech.state = .empty → ∀ i ∈ [Instr.indexSearch n f, .counterSearch v f, .blankSearch, .indexScan],
      refusedWith i 2 .noCassette [] s) ∧
    (s.mech.state ≠ .empty → s.mech.owner.isTimer = true →
      ∀ i ∈ [Instr.indexSearch n f, .counterSearch v f, .blankSearch, .indexScan], refusedWith i 2 .timerActive [] s) ∧
    (s.mech.state ≠ .empty → s.mech.owner.isTimer = false → s.mark.search.isSome = true →
      ∀ i ∈ [Instr.indexSearch n f, .counterSearch v f, .blankSearch, .indexScan], refusedWith i 2 .busy [] s) ∧
    (s.mech.state ≠ .empty → s.mech.owner.isTimer = false → s.mark.search = none →
      refusedWith (.indexSearch 0 f) 2 .invalidArg [] s ∧
      (clampInt (- counterLimit s.std) (counterLimit s.std) v = s.pos.counter →
        exec (.counterSearch v f) s = .next (s.answered 2 .done .none [flag s.pos.approx]).closed)) ∧
    (s.deckFree → s.noOccurrence → s.mech.state = .halt → s.mech.owner = .none → s.pins.leaderEnd = false →
      s.pins.leaderStart = false →
      let c := clampInt (- counterLimit s.std) (counterLimit s.std) v
      ∀ (i : Instr) (k : SearchKind) (target : MState) (code : CamCode) (aim : Option Int) (m : Int) (pa : Bool)
        (data : List Byte),
        ((i = .indexSearch n f ∧ k = .index ∧ target = .fwind ∧ code = 6 ∧ aim = none ∧ m = clampInt (-99) 99 n ∧ pa = f ∧
            0 < n ∧ data = []) ∨
          (i = .indexSearch n f ∧ k = .index ∧ target = .rwind ∧ code = 6 ∧ aim = none ∧ m = clampInt (-99) 99 n ∧ pa = f ∧
            n < 0 ∧ data = []) ∨
          (i = .counterSearch v f ∧ k = .counter ∧ target = .fwind ∧ code = 6 ∧ aim = some c ∧ m = 0 ∧ pa = f ∧
            s.pos.counter < c ∧ data = [flag s.pos.approx]) ∨
          (i = .counterSearch v f ∧ k = .counter ∧ target = .rwind ∧ code = 6 ∧ aim = some c ∧ m = 0 ∧ pa = f ∧
            c < s.pos.counter ∧ data = [flag s.pos.approx]) ∨
          (i = .blankSearch ∧ k = .blank ∧ target = .cue ∧ code = 4 ∧ aim = none ∧ m = 0 ∧ pa = false ∧ data = []) ∨
          (i = .indexScan ∧ k = .scan ∧ target = .fwind ∧ code = 6 ∧ aim = none ∧ m = 0 ∧ pa = false ∧ data = [])) →
        ∃ t q, exec i s = .next t ∧ t.mark.search = some q ∧ q.kind = k ∧ q.state = .winding ∧ q.n = m ∧ q.count = 0 ∧
          q.start = s.pos.counter ∧ q.target = aim ∧ q.playAfter = pa ∧ t.mech.state = .shifting ∧ t.mech.target = target ∧
          t.mech.camTarget = some code ∧ t.mech.owner = .panel ∧ t.mech.inFlight.isSome = true ∧
          t.link.reply = some { kind := 2, result := .accepted, reason := .none, data := data } ∧
          t.pos.counter = s.pos.counter ∧ t.mark.list = s.mark.list ∧ t.tuner = s.tuner ∧ t.clock = s.clock ∧ t.pwr = s.pwr ∧
          t.box = s.box ∧ t.ldd = s.ldd)

/-- A search counts marks, stops at its target, settles with REVIEW or CUE and STOP, and ends FOUND, NOT_FOUND, FAILED or
INTERRUPTED. With a mark read in FWIND or RWIND an index search counts an INDEX mark, for n < 0 only below the start position
less 150; the |n|th, or a scan's first, is the target: STOP is in flight. A counted frame that reaches a counter search's target
in the wind, or any target in settling's CUE or REVIEW, issues STOP too. When STOP is closed in HALT the first time, a counter
above the target issues REVIEW, below it CUE; at the target, and after the second STOP, a scan or play-after issues PLAY, else
SEARCH_END (FOUND) is sent with the counter, the flag and, for an index search or scan, the count. In PLAY a scan counts the
mark (at most 255) and starts its 8 s, another search ends FOUND. A covered leader ends a search NOT_FOUND, a stall with no
search command open INTERRUPTED, a cam timeout of its command FAILED, MECH_FAULT queued before SEARCH_END (an order R204 leaves
open between blocks: the model's choice of log 9); a host STOP cancels it. The blank search's 2 s in CUE set the target 75
frames (A) or 90 (B) before the last pulse position, clamped to the counter range (the model's choice of log 44, as are the
count's limit and its absence for the other kinds), and issue STOP; the scan's 8 s issue FWIND and the search is WINDING with no
target. That an expiry before its time, or without such a search, changes nothing is the model's choice (log 3). (Derived from
R21, R22, R87, R88, R89, R90, R91, R92, R93, notes/assumptions/3, notes/assumptions/9, notes/assumptions/44.) -/
def Obligations.SearchesCountSettleAndEnd : Prop :=
  (∀ (s : State) (q : Search) (t0 : Nat), s.hears → s.mark.search = some q →
    q.kind = .blank → q.state = .winding → q.timer = some t0 → s.mech.state = .cue → s.mech.owner = .panel →
    s.mech.recoveryPending = false → s.mech.standbyStop = false → s.mech.inFlight = none →
    ((s.now - t0) * 1000 < 2000 * 32768 → exec .blankTimerExpiry s = .next s.closed) ∧
    (2000 * 32768 ≤ (s.now - t0) * 1000 →
      ∃ t r, exec .blankTimerExpiry s = .next t ∧ t.mark.search = some r ∧ r.kind = .blank ∧ r.state = .stopFirst ∧
        r.target = some (clampInt (- counterLimit s.std) (counterLimit s.std) (q.lastPulse - 3 * (s.std.frames : Int))) ∧
        r.playAfter = false ∧ r.timer = none ∧ t.mech.state = .shifting ∧ t.mech.target = .halt ∧
        t.mech.inFlight = some { what := .stop, origin := .search, tag := q.tag } ∧ t.mech.owner = .panel ∧
        t.pos.counter = s.pos.counter ∧ t.mark.list = s.mark.list ∧ sameOuter s t)) ∧
  (∀ (s : State) (q : Search) (t0 : Nat), s.hears → s.mark.search = some q → q.kind = .scan → q.state = .scanPlay →
    q.timer = some t0 → s.mech.state = .play → s.mech.owner = .panel → s.mech.recoveryPending = false →
    s.mech.standbyStop = false → s.mech.inFlight = none → s.pins.leaderEnd = false →
    ((s.now - t0) * 1000 < 8000 * 32768 → exec .scanPlayTimerExpiry s = .next s.closed) ∧
    (8000 * 32768 ≤ (s.now - t0) * 1000 →
      ∃ t r, exec .scanPlayTimerExpiry s = .next t ∧ t.mark.search = some r ∧ r.kind = .scan ∧ r.state = .winding ∧
        r.target = none ∧ r.timer = none ∧ r.count = q.count ∧ t.mech.state = .shifting ∧ t.mech.target = .fwind ∧
        t.mech.camTarget = some 6 ∧ t.mech.inFlight = some { what := .fwind, origin := .search, tag := q.tag } ∧
        t.pos.counter = s.pos.counter ∧ t.mark.list = s.mark.list ∧ sameOuter s t)) ∧
  (∀ s : State, s.hears → s.mark.search = none →
    exec .blankTimerExpiry s = .next s.closed ∧ exec .scanPlayTimerExpiry s = .next s.closed) ∧
  (∀ (s : State) (q : Search) (x : Motion) (t : MarkType) (v duty interval env : Nat) (p phase : Int), s.hears →
    s.mark.search = some q → q.state = .winding → q.waiting = none → q.target = none → s.pos.motion = some x →
    s.mech.state = (if x.forward then .fwind else .rwind) → s.mech.junction = none → s.mech.inFlight = none →
    s.mech.slot = none → s.mech.owner = .panel → s.mech.recoveryPending = false → s.mech.standbyStop = false →
    s.mark.writer = .idle → s.sched.holder = none → s.pos.target = none → s.pos.approx = false →
    s.servo.pendingSpeed = none → - counterLimit s.std < s.pos.counter → s.pos.counter < counterLimit s.std →
    420 ≤ duty → duty ≤ 670 → s.mark.reader.phase = .inRun → s.mark.reader.sound = true → t ≠ .unreadable → v < 4096 →
    let run : List (Int × Duty) := (List.range 48).zip (markPulses t v) |>.map fun x => (p + (x.1 : Int), x.2)
    s.mark.reader.pulses = (if x.forward then run.reverse else run) →
    let counted : Prop := t = .index ∧ q.kind = .index ∧ (0 < q.n ∨ p < q.start - 150)
    let after (f : State → Prop) : Prop :=
      ∃ u, exec (.controlPulseReplayed duty phase interval env) s = .next u ∧
        u.pos.counter = (if x.forward then s.pos.counter + 1 else s.pos.counter - 1) ∧
        u.mark.list = addMark u.pos.counter { pos := p, type := t, value := some v, written := false } s.mark.list ∧
        sameOuter s u ∧ f u
    let stops (u : State) (c : Nat) : Prop :=
      u.mark.search = some { q with count := c, target := some p, state := .stopFirst, timer := none, waiting := some .stop } ∧
      u.mech.state = .shifting ∧ u.mech.target = .halt ∧ u.mech.camTarget = some 3 ∧ u.mech.camTimer = some s.now ∧
      u.mech.inFlight = some { what := .stop, origin := .search, tag := q.tag } ∧ u.mech.owner = .panel
    (¬ counted → ¬ (t = .index ∧ q.kind = .scan) → after fun u => u.mark.search = some q ∧ sameMech s u) ∧
    (counted → q.count + 1 ≠ q.n.natAbs → after fun u => u.mark.search = some { q with count := q.count + 1 } ∧ sameMech s u) ∧
    (counted → q.count + 1 = q.n.natAbs → after fun u => stops u (q.count + 1)) ∧
    (t = .index → q.kind = .scan → after fun u => stops u q.count)) ∧
  (∀ (s : State) (q : Search) (x : Motion) (t0 phase : Int) (duty interval env : Nat) (m : MState) (st : SearchState), s.hears →
    s.mark.search = some q → q.waiting = none → q.target = some t0 → s.pos.motion = some x → s.mech.state = m →
    (q.state = .moving ∧ m = (if x.forward then .cue else .review) ∧ st = .stopLast ∨
      q.state = .winding ∧ q.kind = .counter ∧ m = (if x.forward then .fwind else .rwind) ∧ st = .stopFirst) →
    s.mech.junction = none → s.mech.inFlight = none → s.mech.slot = none → s.mech.owner = .panel →
    s.mech.recoveryPending = false → s.mech.standbyStop = false → s.mark.writer = .idle → s.mark.reader.phase ≠ .inRun →
    s.sched.holder = none → s.pos.target = none → s.servo.pendingSpeed = none →
    - counterLimit s.std < s.pos.counter → s.pos.counter < counterLimit s.std →
    let v1 := if x.forward then s.pos.counter + 1 else s.pos.counter - 1
    let there : Prop := if x.forward then t0 ≤ v1 else v1 ≤ t0
    ∃ u, exec (.controlPulseReplayed duty phase interval env) s = .next u ∧ u.pos.counter = v1 ∧ u.mark.list = s.mark.list ∧
      sameOuter s u ∧ (¬ there → u.mark.search = some q ∧ sameMech s u) ∧
      (there → (∃ r, u.mark.search = some r ∧ r.state = st ∧ r.kind = q.kind ∧ r.target = some t0 ∧ r.count = q.count ∧
          r.playAfter = q.playAfter ∧ r.waiting = some .stop) ∧ u.mech.state = .shifting ∧ u.mech.target = .halt ∧
        u.mech.camTarget = some 3 ∧ u.mech.inFlight = some { what := .stop, origin := .search, tag := q.tag } ∧
        u.mech.owner = .panel)) ∧
  (∀ (s : State) (q : Search) (w : MechCmd), s.hears → s.noOccurrence → s.mark.search = some q → q.waiting = some w →
    s.mech.state = .shifting → s.mech.inFlight = some { what := w, origin := .search, tag := q.tag } → s.mech.slot = none →
    s.mech.owner = .panel → s.mech.recoveryPending = false → s.mech.standbyStop = false → s.mech.recoveryRun = false →
    s.pins.leaderEnd = false → s.pins.leaderStart = false → s.pos.motion = none → s.mark.writer = .idle →
    s.servo.reference = .internal → s.roomFor 2 →
    let found : Notice := .searchEnd q.kind .found .none s.pos.counter s.pos.approx
      (if q.kind = .index ∨ q.kind = .scan then some q.count else none)
    let kept (u : State) : Prop := u.pos.counter = s.pos.counter ∧ u.mark.list = s.mark.list ∧ u.tuner = s.tuner ∧
      u.clock = s.clock ∧ u.sched.slots = s.sched.slots ∧ u.sched.holder = none ∧ u.pwr = s.pwr
    let issues (i : Instr) (c : MechCmd) (m : MState) (code : CamCode) (st : SearchState) : Prop :=
      ∃ u, exec i s = .next u ∧ kept u ∧ u.mark.search = some { q with state := st, waiting := some c } ∧
        u.mech.state = .shifting ∧ u.mech.target = m ∧ u.mech.camTarget = some code ∧ u.mech.camTimer = some s.now ∧
        u.mech.inFlight = some { what := c, origin := .search, tag := q.tag } ∧ u.mech.owner = .panel ∧
        u.link.notices = s.link.notices
    let settled : Prop :=
      (q.kind = .scan ∨ q.playAfter = true → issues (.camTargetReached 3) .play .play 4 .playing) ∧
      (q.kind ≠ .scan → q.playAfter = false → ∃ u, exec (.camTargetReached 3) s = .next u ∧ kept u ∧
        u.mark.search = none ∧ u.mech.state = .halt ∧ u.mech.inFlight = none ∧ u.mech.owner = .none ∧
        u.link.notices = s.link.notices ++ [found])
    (w = .stop → s.mech.target = .halt → s.mech.camTarget = some 3 →
      (∀ t0, q.state = .stopFirst → q.target = some t0 →
        (t0 < s.pos.counter → issues (.camTargetReached 3) .review .review 5 .moving) ∧
        (s.pos.counter < t0 → issues (.camTargetReached 3) .cue .cue 4 .moving) ∧
        (s.pos.counter = t0 → settled)) ∧
      (q.state = .stopLast → settled)) ∧
    (w = .play → s.mech.target = .play → s.mech.camTarget = some 4 → q.state = .playing →
      ∃ u, exec (.camTargetReached 4) s = .next u ∧ kept u ∧ u.mech.state = .play ∧ u.mech.inFlight = none ∧
        u.mech.owner = .panel ∧
        (q.kind = .scan → u.mark.search = some { q with state := .scanPlay, count := min 255 (q.count + 1),
                                                        timer := some s.now, waiting := none } ∧
          u.link.notices = s.link.notices) ∧
        (q.kind ≠ .scan → u.mark.search = none ∧ u.link.notices = s.link.notices ++ [found])) ∧
    (∀ t0, s.mech.camTimer = some t0 → 1500 * 32768 ≤ (s.now - t0) * 1000 →
      ∃ u, exec .camTimeout s = .next u ∧ kept u ∧ u.mech.state = .jammed ∧ u.mark.search = none ∧
        u.link.notices = s.link.notices ++ [.mechFault .camTimeout .jammed,
          .searchEnd q.kind .failed (.cause .camTimeout) s.pos.counter s.pos.approx
            (if q.kind = .index ∨ q.kind = .scan then some q.count else none)])) ∧
  (∀ (s : State) (q : Search), s.hears → s.mark.search = some q → s.mech.junction = none → s.mech.inFlight = none →
    s.mech.slot = none → s.sched.holder = none → s.mark.writer = .idle → s.servo.reference = .internal →
    s.link.settings.counterNotices = false → s.roomFor 2 →
    let ends (i : Instr) (before : List Notice) (r : SearchResult) (why : SearchWhy) : Prop :=
      ∃ u, exec i s = .next u ∧ u.mark.search = none ∧ u.pos.counter = s.pos.counter ∧ u.mark.list = s.mark.list ∧
        u.link.notices = s.link.notices ++ before ++ [.searchEnd q.kind r why s.pos.counter s.pos.approx
          (if q.kind = .index ∨ q.kind = .scan then some q.count else none)]
    (s.mech.state ∈ [MState.fwind, .cue] → ends (.endLeaderCovered true) [.tapeEnd s.mech.state] .notFound .none) ∧
    (s.mech.state ∈ [MState.rwind, .review] → ends (.startLeaderCovered true) [] .notFound .none) ∧
    (s.mech.state ∈ [MState.fwind, .rwind, .cue, .review] → q.waiting = none → s.pos.motion.isSome = true →
      s.mech.stall.pulses < 2 → 12288 * 32 < s.now - s.mech.stall.last →
      ends .reelStall [.mechFault .reelStall s.mech.state] .interrupted (.fault .reelStall)) ∧
    (s.takes → s.mech.standbyStop = false → s.mech.recoveryPending = false →
      ∃ u, exec (.stop false) s = .next u ∧ u.mark.search = none ∧
        u.link.notices.take (s.link.notices.length + 1) = s.link.notices ++ [.searchCancelled q.kind false]))

/-- A channel is corrected into its plan, and a host tune of a new selection is answered ACCEPTED and starts TUNING. A channel
outside its plan becomes the next higher legal one, or the highest where none is higher: plan T 0 and 1 become 2, 13..20 become
21, above 69 becomes 69; plan C 0 becomes 1, above 125 becomes 125; a direct frequency is clamped to 704..13,920 steps; a legal
one is unchanged. The nominal divider is the frequency in 62.5 kHz steps plus 622, its band LOW below 3,200, MID below 8,000,
HIGH above: T channel 2 gives 1,394, channel 21 8,162, C channel 1 1,506. With the tuner in NO_SIGNAL, or LOCKED on another
selection, its bus idle, no tune or scan under way and no label decoded: TUNE of a used preset, a channel, a direct frequency,
and UP and DOWN to the next preset without skip flag, become the selection; the divider is nominal plus fine, the AFT position
the fine value, divider and band are asked for in that order, the settle timer starts and LDD's counts are 0. A BOX preset is
tuned on the used TUNER preset that the box feed setting names, else on its own channel, and its channel sequence goes to BOX:
NO_PROFILE with BOX_NO_PROFILE, REFUSED where the queue has too few places, else QUEUED with its frames joining the queue, the
answer kept for the TUNE_END. Else BOX, as the tape's blocks, CLOCK, SCHED and PWR, is unchanged. The model's choices: divider,
band and standby count as written when the transaction is issued (log 29), and the ACCEPTED reply carries the selection (log
26). (Derived from R99, R100, R101, R105, R106, R108, R118, R122, R180, R181, notes/assumptions/26, notes/assumptions/29.) -/
def Obligations.TuneRequestsStartATune : Prop :=
  (∀ c : Nat, let x := correctChannel .t c
    ((2 ≤ c ∧ c ≤ 12) ∨ (21 ≤ c ∧ c ≤ 69) → x = c) ∧ (c < 2 → x = 2) ∧ (12 < c → c < 21 → x = 21) ∧ (69 < c → x = 69)) ∧
  (∀ c : Nat, let x := correctChannel .c c
    (1 ≤ c → c ≤ 125 → x = c) ∧ (c < 1 → x = 1) ∧ (125 < c → x = 125)) ∧
  (∀ c : Nat, let x := correctChannel .direct c
    (704 ≤ c → c ≤ 13920 → x = c) ∧ (c < 704 → x = 704) ∧ (13920 < c → x = 13920)) ∧
  (∀ (p : Plan) (c : Nat), let d := nominalDivider p (correctChannel p c)
    1326 ≤ d ∧ d ≤ 14542 ∧ (bandOf d = .low ↔ d < 3200) ∧ (bandOf d = .high ↔ 8000 ≤ d)) ∧
  nominalDivider .t 2 = 1394 ∧ nominalDivider .t 21 = 8162 ∧ nominalDivider .c 1 = 1506 ∧
  (∀ (s : State) (i : Instr) (sel : Selection) (nominal : Nat) (fine : Int) (k : Nat) (box : Option Nat), s.takes →
    s.mech.owner.isTimer = false → ¬ (s.mech.owner = .panel ∧ (s.mech.state = .record ∨ s.mech.state = .recPause)) →
    (s.tuner.state = .noSignal ∨ (s.tuner.state = .locked ∧ s.tuner.selection ≠ some sel)) → s.tuner.bus = [] →
    s.tuner.tune = none → s.tuner.scan = none → s.ldd.state = .none →
    ((∃ p w : Preset, s.preset k = some p ∧ 1 ≤ k ∧ k ≤ 80 ∧ box = p.box ∧ sel = .preset k ∧ fine = w.fine ∧
        nominal = channelSteps w.plan w.channel + 622 ∧
        (∀ n, p.box.isSome = true → s.link.settings.boxFeed = some n → (∃ q, s.preset n = some q ∧ q.box = none) →
          s.preset n = some w) ∧
        ((∀ n q, p.box.isSome = true → s.link.settings.boxFeed = some n → s.preset n = some q → q.box.isSome = true) → w = p) ∧
        (i = .tunePreset k ∨
          (i = .tuneUp ∧ ∃ from0, s.tuner.selection = some (.preset from0) ∧
            ((List.range 80).map fun j => (from0 + j) % 80 + 1).find? s.steppable = some k) ∨
          (i = .tuneDown ∧ (∀ from0, s.tuner.selection ≠ some (.preset from0)) ∧
            ((List.range 80).map fun j => 80 - j).find? s.steppable = some k))) ∨
      (∃ plan c, i = .tuneChannel plan c ∧ fine = 0 ∧ box = none ∧
        ((plan = 0 ∧ sel = .channel .t (correctChannel .t c) ∧ nominal = channelSteps .t (correctChannel .t c) + 622) ∨
          (plan = 1 ∧ sel = .channel .c (correctChannel .c c) ∧ nominal = channelSteps .c (correctChannel .c c) + 622))) ∨
      (∃ f, i = .tuneDirect f ∧ fine = 0 ∧ box = none ∧ sel = .direct (clampNat 704 13920 f) ∧ nominal = clampNat 704 13920 f + 622)) →
    let d := ((nominal : Int) + fine).toNat
    ∃ t, exec i s = .next t ∧ t.tuner.state = .tuning ∧ t.tuner.selection = some sel ∧ t.tuner.aft = fine ∧
      t.tuner.divider = some d ∧ t.tuner.band = some (bandOf d) ∧ t.tuner.standby = some false ∧ t.tuner.steps = 0 ∧
      t.tuner.bus = [.writeDivider d, .writeBand (bandOf d) false] ∧ t.tuner.settle = some s.now ∧ t.tuner.watch = none ∧
      t.tuner.presets = s.tuner.presets ∧ t.ldd.active = false ∧
      t.ldd.good = 0 ∧ t.ldd.bad = 0 ∧ t.ldd.toggles = 0 ∧
      t.link.reply = some { kind := 6, result := .accepted, reason := .none, data := selectionBytes sel } ∧
      sameTape s t ∧ t.clock = s.clock ∧ t.sched = s.sched ∧ t.pwr = s.pwr ∧
      let answered (a : BoxAnswer) (frames : List IrFrame) (notices : List Notice) : Prop :=
        t.tuner.tune = some { timer := false, box := a } ∧ t.link.notices = s.link.notices ++ notices ∧
        t.box = { s.box with queue := s.box.queue ++ frames, sending := s.box.sending || decide (frames ≠ []) }
      (box = none → answered .none [] []) ∧
      (∀ c, box = some c → s.roomFor 1 → s.pwr.power ≠ .standby → c ≤ 999 →
        (s.box.profile = none → answered .noProfile [] [.boxNoProfile .panel c]) ∧
        (∀ q, s.box.profile = some q →
          let keys := (if q.minimal then (if c < 10 then [] else if c < 100 then [c / 10] else [c / 100, c / 10 % 10]) ++ [c % 10]
            else [c / 100, c / 10 % 10, c % 10]) ++ (if q.enter then [10] else [])
          (8 < s.box.queue.length + keys.length → answered .refused [] []) ∧
          (s.box.queue.length + keys.length ≤ 8 →
            answered .queued (keys.map fun x => { key := x, code := q.codes.getD x 0, origin := .panel }) []))))

/-- The INIT, settle and watch timers read STATUS, and each read in TUNING, AFT, LOCKED and NO_SIGNAL is judged by lock, window and
level. With its time passed (40 ms, 1 s) the settle or the watch timer asks for one READ. A read judged in TUNING or AFT with
the bus otherwise idle: locked, inside the window and of level 12 or more gives LOCKED and closes the tune with TUNE_END
(LOCKED), which carries BOX's answer to it; of a lower level NO_SIGNAL; locked with the window low and a step free gives AFT one
step up with its divider asked for; unlocked gives another settle, and the third in a row restores the fine value and gives
NO_SIGNAL. A watch read in LOCKED: of level 12 or more it drifts one step toward a window that is low or high and in range; of a
lower level, or unlocked the third time running, NO_SIGNAL. A watch read in NO_SIGNAL, locked and of level 12 or more: LOCKED
inside the window, else AFT afresh with one step, or the fine value again where the range ends. LOCKED learns the AFT position
as the target preset's fine value but where its AFT-off flag is set; with the target's AFT-off flag the level alone decides. A
first failed READ is repeated, a second gives FAULT. The INIT wait's 50 ms put the module in standby and read its STATUS, and a
READ in INIT with no selection gives NO_SIGNAL. The model's choices: a timer's expiry before its time changes nothing (log 3);
divider, band and standby change when the transaction is issued, and the watch starts afresh at LOCKED and NO_SIGNAL (log 29);
the watch read that begins an AFT run makes its first step (log 18, read from R104 and R102). The step down, the range's edge
and the restore after 64 steps in TUNING and AFT are left out. A transaction is 22 bits, its register number the third to fifth;
TUNER drives all of a WRITE and the first five of a READ (the operation codes and the register words are free, log 24). (Derived
from R95, R96, R98, R101, R102, R103, R104, R116, notes/assumptions/3, notes/assumptions/18, notes/assumptions/24,
notes/assumptions/29.) -/
def Obligations.TunerReadsJudgeTheChannel : Prop :=
  (∀ (s : State) (t0 : Nat) (g : TuneTarget) (box : BoxAnswer), s.hears → s.tuner.target = some g → g.learn = none → g.aftOff = false →
    s.ldd.candidate = none →
    (s.tuner.settle = some t0 →
      ((s.now - t0) * 1000 < 40 * 32768 → exec .settleTimerExpiry s = .next s.closed) ∧
      (40 * 32768 ≤ (s.now - t0) * 1000 → exec .settleTimerExpiry s =
        .next (s.onTuner fun x => { x with settle := none, bus := x.bus ++ [.readStatus true] }).closed)) ∧
    (s.tuner.watch = some t0 →
      ((s.now - t0) * 1000 < 1000 * 32768 → exec .watchTimerExpiry s = .next s.closed) ∧
      (1000 * 32768 ≤ (s.now - t0) * 1000 → exec .watchTimerExpiry s =
        .next (s.onTuner fun x => { x with watch := some s.now, bus := x.bus ++ [.readStatus true] }).closed)) ∧
    (∀ st : ModuleStatus, (s.tuner.state = .tuning ∨ s.tuner.state = .aft) → s.tuner.bus = [.readStatus true] →
      s.tuner.next = .none → s.tuner.tune = some { timer := false, box := box } → s.roomFor 1 →
      ∃ t, exec (.tunerTransactionEnd (some st)) s = .next t ∧ sameTape s t ∧ t.clock = s.clock ∧ t.sched = s.sched ∧
        t.box = s.box ∧ t.pwr = s.pwr ∧ t.tuner.level = some st.level ∧ t.tuner.selection = s.tuner.selection ∧
        (st.lock = true → st.window = .inside → 12 ≤ st.level →
          t.tuner.state = .locked ∧ t.tuner.tune = none ∧ t.tuner.watch = some s.now ∧ t.tuner.settle = none ∧
          t.tuner.bus = [] ∧ t.ldd.active = decide (s.tuner.selected = .tuner) ∧ t.link.notices = s.link.notices ++
            [.tuneEnd .locked s.tuner.selection s.tuner.divider s.tuner.band s.tuner.aft (some st.level) box]) ∧
        (st.lock = true → st.window = .inside → st.level < 12 →
          t.tuner.state = .noSignal ∧ t.tuner.tune = none ∧ t.tuner.watch = some s.now ∧ t.tuner.bus = []) ∧
        (st.lock = true → st.window = .low → s.tuner.aft < 31 → s.tuner.steps < 64 →
          t.tuner.state = .aft ∧ t.tuner.aft = s.tuner.aft + 1 ∧ t.tuner.steps = s.tuner.steps + 1 ∧
          t.tuner.settle = some s.now ∧ t.tuner.tune = s.tuner.tune ∧
          t.tuner.divider = some ((g.nominal : Int) + (s.tuner.aft + 1)).toNat ∧ t.link.notices = s.link.notices) ∧
        (st.lock = false → s.tuner.unsettled < 2 →
          t.tuner.state = s.tuner.state ∧ t.tuner.settle = some s.now ∧ t.tuner.unsettled = s.tuner.unsettled + 1 ∧
          t.tuner.tune = s.tuner.tune ∧ t.link.notices = s.link.notices) ∧
        (st.lock = false → s.tuner.unsettled = 2 →
          t.tuner.state = .noSignal ∧ t.tuner.aft = g.fine ∧ t.tuner.tune = none)) ∧
    (s.tuner.bus = [.readStatus true] → s.tuner.state = .tuning → s.tuner.next = .none → s.tuner.tune = none →
      s.tuner.scan = none → s.roomFor 1 →
      (s.tuner.failures = 0 → exec (.tunerTransactionEnd none) s =
        .next (s.onTuner fun x => { x with failures := 1, bus := [.readStatus true] }).closed) ∧
      (s.tuner.failures = 1 → ∃ t, exec (.tunerTransactionEnd none) s = .next t ∧ t.tuner.state = .fault ∧ t.tuner.bus = [] ∧
        t.tuner.settle = none ∧ t.tuner.watch = none ∧ t.link.notices = s.link.notices ++ [.tunerFault .tuning] ∧
        sameTape s t ∧ t.clock = s.clock ∧ t.sched = s.sched ∧ t.box = s.box ∧ t.pwr = s.pwr))) ∧
  (∀ (s : State) (t0 : Nat) (st : ModuleStatus), s.hears → s.tuner.initTimer = some t0 →
    (s.tuner.state ≠ .init ∨ (s.now - t0) * 1000 < 50 * 32768 → exec .initWaitExpiry s = .next s.closed) ∧
    (s.tuner.state = .init → 50 * 32768 ≤ (s.now - t0) * 1000 → exec .initWaitExpiry s =
      .next (s.onTuner fun x => { x with initTimer := none, band := some .low, standby := some true,
                                         bus := x.bus ++ [.writeBand .low true, .readStatus true] }).closed) ∧
    (s.tuner.state = .init → s.tuner.bus = [.readStatus true] → s.tuner.next = .none → s.tuner.selection = none →
      ∃ t, exec (.tunerTransactionEnd (some st)) s = .next t ∧ t.tuner.state = .noSignal ∧ t.tuner.bus = [] ∧
        t.tuner.failures = 0 ∧ t.tuner.target = none ∧ sameTape s t ∧ sameLink s t ∧ t.clock = s.clock ∧ t.sched = s.sched ∧
        t.box = s.box ∧ t.pwr = s.pwr)) ∧
  (∀ (s : State) (g : TuneTarget) (st : ModuleStatus), s.hears → s.tuner.target = some g → s.tuner.bus = [.readStatus true] →
    s.tuner.next = .none → s.tuner.tune = none → s.tuner.scan = none →
    let x := s.tuner
    let after (p : State → Prop) : Prop :=
      ∃ t, exec (.tunerTransactionEnd (some st)) s = .next t ∧ t.tuner.level = some st.level ∧ t.tuner.failures = 0 ∧
        t.tuner.selection = x.selection ∧ sameTape s t ∧ sameLink s t ∧ t.clock = s.clock ∧ t.sched = s.sched ∧ t.box = s.box ∧
        t.pwr = s.pwr ∧ p t
    let stays (n : Nat) : Prop := exec (.tunerTransactionEnd (some st)) s =
      .next (s.onTuner fun x => { x with level := some st.level, failures := 0, unsettled := n, bus := [] }).closed
    let moves (t : State) (a : Int) : Prop :=
      t.tuner.aft = a ∧ t.tuner.divider = some ((g.nominal : Int) + a).toNat ∧
      t.tuner.bus.head? = some (.writeDivider ((g.nominal : Int) + a).toNat)
    let lost (t : State) : Prop := t.tuner.state = .noSignal ∧ t.tuner.watch = some s.now ∧ t.ldd.active = false
    let won (t : State) : Prop := t.tuner.state = .locked ∧ t.tuner.watch = some s.now ∧ t.tuner.unsettled = 0 ∧
      t.ldd.active = decide (x.selected = .tuner)
    (g.learn = none → g.aftOff = false → x.state = .locked →
      (st.lock = true → 12 ≤ st.level →
        (st.window = .inside ∨ (st.window = .low ∧ 31 ≤ x.aft) ∨ (st.window = .high ∧ x.aft ≤ -32) → stays 0) ∧
        (st.window = .low → -33 ≤ x.aft → x.aft < 31 → after fun t => moves t (x.aft + 1) ∧ t.tuner.state = .locked ∧
          t.tuner.watch = x.watch ∧ t.tuner.presets = x.presets) ∧
        (st.window = .high → -32 < x.aft → x.aft ≤ 32 → after fun t => moves t (x.aft - 1) ∧ t.tuner.state = .locked ∧
          t.tuner.watch = x.watch ∧ t.tuner.presets = x.presets)) ∧
      (st.lock = true → st.level < 12 → after lost) ∧
      (st.lock = false → x.unsettled < 2 → stays (x.unsettled + 1)) ∧
      (st.lock = false → 2 ≤ x.unsettled → after lost)) ∧
    (g.learn = none → g.aftOff = false → x.state = .noSignal →
      (st.lock = false ∨ st.level < 12 → stays x.unsettled) ∧
      (st.lock = true → 12 ≤ st.level →
        (st.window = .inside → after won) ∧
        (st.window = .low → x.aft < 31 → after fun t => moves t (x.aft + 1) ∧ t.tuner.state = .aft ∧ t.tuner.steps = 1 ∧
          t.tuner.settle = some s.now ∧ t.tuner.watch = none) ∧
        (st.window = .high → -32 < x.aft → after fun t => moves t (x.aft - 1) ∧ t.tuner.state = .aft ∧ t.tuner.steps = 1 ∧
          t.tuner.settle = some s.now ∧ t.tuner.watch = none) ∧
        ((st.window = .low ∧ 31 ≤ x.aft) ∨ (st.window = .high ∧ x.aft ≤ -32) → after fun t => moves t g.fine ∧ lost t))) ∧
    (∀ (n : Nat) (p : Preset), g.learn = some n → s.preset n = some p → x.state = .tuning ∨ x.state = .aft →
      st.lock = true → 12 ≤ st.level → (g.aftOff = true ∨ st.window = .inside) →
      after fun t => won t ∧ t.tuner.aft = x.aft ∧
        t.tuner.presets = if p.aftOff then x.presets else x.presets.set (n - 1) (some { p with fine := x.aft })) ∧
    (g.learn = none → g.aftOff = true → x.state = .tuning ∨ x.state = .aft → st.lock = true →
      (12 ≤ st.level → after won) ∧ (st.level < 12 → after lost))) ∧
  (∀ x : Transaction, x.bits.length = 22 ∧
    (x.bits.drop 2).take 3 = ((match x with
      | .writeDivider _ => [false, false, true] | .writeBand _ _ => [false, true, false]
      | .readStatus _ => [false, true, true]).map BusBit.driven) ∧
    (match x with
      | .readStatus _ => .released ∉ x.bits.take 5 ∧ x.bits.drop 5 = List.replicate 17 .released
      | _ => .released ∉ x.bits))

/-- Tunes and scans are refused in the order of their checks; SOURCE and the preset requests are refused or hold and return what
they write. Under owner TIMER every TUNE and SCAN START gives TIMER_ACTIVE, in RECORD or REC_PAUSE under PANEL RECORDING;
otherwise an unused or unnumbered preset and an unknown plan give INVALID_ARG, UP and DOWN with no preset to go to NOT_FOUND,
SCAN START in OFF BAD_STATE, in FAULT TUNER_FAULT, in INIT or SCANNING BUSY, with no unused preset TABLE_FULL, and SCAN STOP
outside SCANNING BAD_STATE; nothing changes. SOURCE under owner TIMER is refused TIMER_ACTIVE; otherwise the source becomes the
host's and the selected one, and LDD is active only while LOCKED on TUNER. A PRESET_WRITE of a preset not in use stores the
record with channel, fine value and name corrected, or deletes it where the used flag is clear, and is answered with the number
and the 15-byte record as stored, the layout of PRESET_READ's reply by the model's choice of log 26; a number outside 1..80, or
a record of no plan, is INVALID_ARG. PRESET_READ returns the preset as held and changes nothing. (Derived from R107, R108, R109,
R111, R202, R212, notes/assumptions/26.) -/
def Obligations.TunerRequestsAreRefusedOrKeepWhatTheyWrite : Prop :=
  (∀ (s : State) (n p c f : Nat), s.takes →
      (s.mech.owner.isTimer = true →
        (∀ i ∈ [Instr.tunePreset n, .tuneChannel p c, .tuneDirect f, .tuneUp, .tuneDown], refusedWith i 6 .timerActive [] s) ∧
        refusedWith (.scanStart p) 0x0A .timerActive [] s) ∧
      (s.mech.owner = .panel → (s.mech.state = .record ∨ s.mech.state = .recPause) →
        (∀ i ∈ [Instr.tunePreset n, .tuneChannel p c, .tuneDirect f, .tuneUp, .tuneDown], refusedWith i 6 .recording [] s) ∧
        refusedWith (.scanStart p) 0x0A .recording [] s) ∧
      (s.mech.owner.isTimer = false → ¬ (s.mech.owner = .panel ∧ (s.mech.state = .record ∨ s.mech.state = .recPause)) →
        (n = 0 ∨ 80 < n ∨ s.preset n = none → refusedWith (.tunePreset n) 6 .invalidArg [] s) ∧
        (1 < p → refusedWith (.tuneChannel p c) 6 .invalidArg [] s ∧ refusedWith (.scanStart p) 0x0A .invalidArg [] s) ∧
        ((∀ k, 1 ≤ k → k ≤ 80 → s.steppable k = false) → refusedWith .tuneUp 6 .notFound [] s ∧
          refusedWith .tuneDown 6 .notFound [] s) ∧
        (p ≤ 1 →
          (s.tuner.state = .off → refusedWith (.scanStart p) 0x0A .badState [] s) ∧
          (s.tuner.state = .fault → refusedWith (.scanStart p) 0x0A .tunerFault [] s) ∧
          (s.tuner.state = .init ∨ s.tuner.state = .scanning → refusedWith (.scanStart p) 0x0A .busy [] s) ∧
          (s.tuner.state ∈ [TunerState.tuning, .aft, .locked, .noSignal] → (∀ q ∈ s.tuner.presets, q.isSome = true) →
            refusedWith (.scanStart p) 0x0A .tableFull [] s))) ∧
      (s.tuner.state ≠ .scanning → refusedWith .scanStop 0x0A .badState [] s)) ∧
  (∀ (s : State) (v : Source), s.takes →
    (s.mech.owner.isTimer = true → refusedWith (.source v) 7 .timerActive [] s) ∧
    (s.mech.owner.isTimer = false → s.ldd.state = .none → s.mech.state ≠ .record → s.mech.state ≠ .recPause →
      s.servo.reference = .internal → ∃ t, exec (.source v) s = .next t ∧ t.tuner = { s.tuner with hostSource := v, selected := v } ∧
        (s.tuner.selected ≠ v → t.ldd.active = (decide (s.tuner.state = .locked) && decide (v = .tuner)) ∧ t.ldd.last = none) ∧
        t.link.reply = some { kind := 7, result := .done, reason := .none, data := [byte (sourceCode v)] } ∧
        t.link.notices = s.link.notices ∧ sameTape s t ∧ t.clock = s.clock ∧ t.sched = s.sched ∧ t.box = s.box ∧
        t.pwr = s.pwr)) ∧
  (∀ (s : State) (n : Nat) (r : PresetRecord), s.takes →
    (n = 0 ∨ 80 < n → refusedWith (.presetWrite n r) 8 .invalidArg [] s ∧ refusedWith (.presetRead n) 9 .invalidArg [] s) ∧
    (1 ≤ n → n ≤ 80 →
      exec (.presetRead n) s = .next (s.answered 9 .done .none (byte n :: presetBytes (s.preset n))).closed ∧
      (r.used = true → 2 < r.plan → refusedWith (.presetWrite n r) 8 .invalidArg [] s) ∧
      (s.presetInUse n = false → r.used = false → exec (.presetWrite n r) s =
        .next ((s.onTuner fun t => { t with presets := t.presets.set (n - 1) none }).answered 8 .done .none
          (byte n :: List.replicate 15 0)).closed) ∧
      (s.presetInUse n = false → r.used = true → r.sourceBox = false → r.codePresent = false → r.nameLength ≤ 5 →
        ∀ plan, (r.plan, plan) ∈ [(0, Plan.t), (1, .c), (2, .direct)] →
        let p : Preset := { plan := plan, channel := correctChannel plan r.channel, fine := clampInt (-32) 31 r.fine,
                            aftOff := r.aftOff, skip := r.skip, name := (r.name.take r.nameLength).map printable, box := none,
                            networkCode := none }
        exec (.presetWrite n r) s = .next ((s.onTuner fun t => { t with presets := t.presets.set (n - 1) (some p) }).answered
          8 .done .none (byte n :: presetBytes (some p))).closed)))

/-- SCAN START begins at the plan's lowest channel, each channel is read, confirmed, stored and reported, and the scan ends with
SCAN_DONE. From NO_SIGNAL or LOCKED with an idle bus, no tune under way and an unused preset, START is ACCEPTED and enters
SCANNING with the divider and band of channel 2 (plan T) or 1 (plan C) asked for, the selection saved. With the 60 ms after a
lock passed one READ is asked for to confirm. A read of the channel under examination: locked, inside and of level 12 or more
starts that wait; locked with the window low and a step free steps up, and where the range or the 64 steps end the channel is
restored and its result NONE; unlocked settles again; a locked read returns the unsettled count to 0, an unlocked one adds one;
of a lower level, or unlocked the third time, or not locked with level 12 at the confirmation, the channel's result is NONE;
confirmed, it is ALREADY where a preset holds plan and channel, else it is STORED in the lowest unused preset with the AFT
position as fine value. SCAN_PROGRESS carries channel, result, preset and level; the next channel (T: 21 after 12) then starts,
at once or when the transaction in flight has ended; after the last one (69, 125) SCAN_DONE (COMPLETE), and with no unused
preset left SCAN_DONE (TABLE_FULL), and the saved selection is tuned again, or there is none and NO_SIGNAL. STOP while SCANNING
with no saved selection is answered DONE, sends SCAN_DONE (STOPPED) and leaves NO_SIGNAL. The model's choices: the selection
stands during the scan, the divider counts as written at issue, and with no unused preset left TABLE_FULL comes before COMPLETE
(log 29); the retune after a scan shows TUNING at once, while a transaction is still in flight (log 46); and the wait's expiry
before its time changes nothing (log 3). (Derived from R102, R111, R112, R113, notes/assumptions/3, notes/assumptions/29,
notes/assumptions/46.) -/
def Obligations.ScanStartsWaitsAndStops : Prop :=
  (∀ (s : State) (p : Nat) (plan : Plan) (low : Nat), s.takes → (p, plan, low) ∈ [(0, Plan.t, 2), (1, .c, 1)] →
    s.mech.owner = .none → (s.tuner.state = .noSignal ∨ s.tuner.state = .locked) → s.tuner.bus = [] → s.tuner.tune = none →
    none ∈ s.tuner.presets →
    let d := channelSteps plan low + 622
    ∃ t, exec (.scanStart p) s = .next t ∧ t.tuner.state = .scanning ∧ t.tuner.selection = s.tuner.selection ∧
      t.tuner.scan = some { plan := plan, next := low, stored := 0, saved := s.tuner.selection, last := none, stage := .running,
                            timer := none } ∧
      t.tuner.bus = [.writeDivider d, .writeBand (bandOf d) false] ∧ t.tuner.divider = some d ∧ t.tuner.settle = some s.now ∧
      t.tuner.aft = 0 ∧ t.tuner.presets = s.tuner.presets ∧
      t.link.reply = some { kind := 0x0A, result := .accepted, reason := .none, data := [] } ∧ t.ldd.active = false ∧
      t.link.notices = s.link.notices ∧ sameTape s t ∧ t.clock = s.clock ∧ t.sched = s.sched ∧ t.box = s.box ∧ t.pwr = s.pwr) ∧
  (∀ (s : State) (c : Scan) (t0 : Nat), s.hears → s.tuner.scan = some c → c.stage = .waiting → c.timer = some t0 →
    ((s.now - t0) * 1000 < 60 * 32768 → exec .scanConfirmExpiry s = .next s.closed) ∧
    (60 * 32768 ≤ (s.now - t0) * 1000 → exec .scanConfirmExpiry s =
      .next (s.onTuner fun x => { x with scan := some { c with stage := .confirming, timer := none },
                                         bus := x.bus ++ [.readStatus true] }).closed)) ∧
  (∀ (s : State) (c : Scan), s.takes → s.tuner.state = .scanning → s.tuner.scan = some c → c.saved = none → s.tuner.bus = [] →
    s.roomFor 1 →
    ∃ t, exec .scanStop s = .next t ∧ t.tuner.state = .noSignal ∧ t.tuner.scan = none ∧ t.tuner.selection = none ∧
      t.tuner.standby = some true ∧ t.tuner.presets = s.tuner.presets ∧
      t.link.notices = s.link.notices ++ [.scanDone .stopped c.stored c.last] ∧
      t.link.reply = some { kind := 0x0A, result := .done, reason := .none, data := [] } ∧
      sameTape s t ∧ t.clock = s.clock ∧ t.sched = s.sched ∧ t.box = s.box ∧ t.pwr = s.pwr) ∧
  (∀ (s : State) (c : Scan) (st : ModuleStatus), s.hears → s.tuner.state = .scanning → s.tuner.scan = some c →
    s.tuner.bus = [.readStatus true] → s.tuner.next = .none → s.tuner.tune = none → s.tuner.boxSend = false →
    s.ldd.state = .none →
    s.tuner.target = some { nominal := nominalDivider c.plan c.next, fine := 0, aftOff := false, learn := none } →
    (c.plan = .t ∧ (2 ≤ c.next ∧ c.next ≤ 12 ∨ 21 ≤ c.next ∧ c.next ≤ 69) ∨ c.plan = .c ∧ 1 ≤ c.next ∧ c.next ≤ 125) →
    (∀ sel, c.saved = some sel → (targetOf s sel).isSome = true) → s.roomFor 2 →
    let x := s.tuner
    let after (p : State → Prop) : Prop :=
      ∃ t, exec (.tunerTransactionEnd (some st)) s = .next t ∧ t.tuner.level = some st.level ∧ sameTape s t ∧
        t.clock = s.clock ∧ t.sched = s.sched ∧ t.box = s.box ∧ t.pwr = s.pwr ∧ p t
    let progress (r : ScanFound) (k : Option Nat) : Notice := .scanProgress c.next r k st.level
    let ended (t : State) (why : ScanEnd) (n : Nat) (before : List Notice) : Prop :=
      t.link.notices = s.link.notices ++ before ++ [.scanDone why n (some c.next)] ∧ t.tuner.scan = none ∧
      t.tuner.selection = c.saved ∧ t.tuner.tune = none ∧
      (c.saved = none → t.tuner.state = .noSignal ∧ t.tuner.standby = some true) ∧
      (c.saved.isSome = true → t.tuner.state = .tuning)
    let following : Nat := if c.plan = .t ∧ c.next = 12 then 21 else c.next + 1
    let result (t : State) (r : ScanFound) (k : Option Nat) (n : Nat) (idle : Bool) : Prop :=
      if c.next = (if c.plan = .t then 69 else 125) then ended t .complete n [progress r k]
      else t.link.notices = s.link.notices ++ [progress r k] ∧ t.tuner.state = .scanning ∧
        (idle = true → t.tuner.next = .none ∧ t.tuner.aft = 0 ∧ t.tuner.settle = some s.now ∧
          t.tuner.scan = some { c with last := some c.next, next := following, stored := n, stage := .running, timer := none } ∧
          t.tuner.bus = [.writeDivider (nominalDivider c.plan following),
            .writeBand (bandOf (nominalDivider c.plan following)) false]) ∧
        (idle = false → t.tuner.next = .scanChannel ∧
          t.tuner.scan = some { c with last := some c.next, next := following, stored := n })
    let restored (t : State) : Prop := t.tuner.aft = 0 ∧ t.tuner.divider = some (nominalDivider c.plan c.next)
    (c.stage = .running →
      (st.lock = true → st.window = .inside → 12 ≤ st.level → after fun t => t.tuner.state = .scanning ∧
        t.tuner.scan = some { c with stage := .waiting, timer := some s.now } ∧ t.tuner.settle = none ∧ t.tuner.bus = [] ∧
        t.tuner.unsettled = 0 ∧ t.link.notices = s.link.notices) ∧
      (st.lock = true → st.window = .inside → st.level < 12 → after fun t => result t .none none c.stored true ∧
        t.tuner.unsettled = 0 ∧ t.tuner.presets = x.presets) ∧
      (st.lock = true → st.window = .low → x.aft < 31 → x.steps < 64 → after fun t => t.tuner.state = .scanning ∧
        t.tuner.scan = some c ∧ t.tuner.aft = x.aft + 1 ∧ t.tuner.steps = x.steps + 1 ∧ t.tuner.settle = some s.now ∧
        t.tuner.unsettled = 0 ∧ t.link.notices = s.link.notices) ∧
      (st.lock = true → st.window = .low ∧ (31 ≤ x.aft ∨ 64 ≤ x.steps) ∨ st.window = .high ∧ (x.aft ≤ -32 ∨ 64 ≤ x.steps) →
        after fun t => result t .none none c.stored false ∧ restored t ∧ t.tuner.unsettled = 0 ∧ t.tuner.presets = x.presets) ∧
      (st.lock = false → x.unsettled < 2 → after fun t => t.tuner.state = .scanning ∧ t.tuner.scan = some c ∧
        t.tuner.settle = some s.now ∧ t.tuner.unsettled = x.unsettled + 1 ∧ t.link.notices = s.link.notices) ∧
      (st.lock = false → x.unsettled = 2 → after fun t => result t .none none c.stored false ∧ restored t ∧
        t.tuner.unsettled = 3 ∧ t.tuner.presets = x.presets)) ∧
    (c.stage = .confirming →
      let known : Prop := ∃ q, some q ∈ x.presets ∧ q.plan = c.plan ∧ q.channel = c.next
      (st.lock = false ∨ st.level < 12 → after fun t => result t .none none c.stored true ∧ t.tuner.presets = x.presets) ∧
      (st.lock = true → 12 ≤ st.level → known → after fun t => result t .already none c.stored true ∧
        t.tuner.presets = x.presets) ∧
      (st.lock = true → 12 ≤ st.level → ¬ known → ∀ k, x.presets[k]? = some none →
        (∀ j, j < k → x.presets[j]? ≠ some none) →
        let table := x.presets.set k (some { plan := c.plan, channel := c.next, fine := x.aft, aftOff := false, skip := false,
                                             name := [], box := none, networkCode := none })
        ((∃ j, k < j ∧ x.presets[j]? = some none) → after fun t => result t .stored (some (k + 1)) (c.stored + 1) true ∧
          t.tuner.presets = table) ∧
        ((∀ j, k < j → x.presets[j]? ≠ some none) →
          after fun t => ended t .tableFull (c.stored + 1) [progress .stored (some (k + 1))] ∧ t.tuner.presets = table))))

/-- A label received twice in a row is confirmed as new, repeat or toggle error and teaches its code, and 10 s without a label lose
it. While LDD is inactive no packet is taken. The exclusive-or of the kind byte and the payload is compared with the check byte;
a packet that differs adds one to the bad count and clears the candidate, as does a LABEL (kind 1) or a TIME (kind 2) with a
field out of range; one of another kind adds one to the good count; each count saturates at 65,535. The fields that a payload
spells stand beside its bytes, as the model's choice (log 24). A good label becomes the candidate; an identical one is
confirmed. With no label accepted before, or another toggle than the last accepted, it is accepted as new: VALID with the label
timer started, the network code written into the tuned preset where that is used and has another or none, and a LABEL notice of
kind NEW with the tuned preset and the learning result. Equal to the last accepted it is a repeat: in VALID the label timer
starts afresh and nothing is sent, from LOST it returns to VALID with that learning and a LABEL notice of kind RETURN, the
latched flag kept. With the toggle of the last accepted and another field different it adds one to the toggle-error count (at
most 65,535) alone. In VALID the label timer's 10 s give LOST and latch LABEL_LOST; that its expiry changes nothing before is
the model's choice (log 3). No entry has an occurrence in this statement. (Derived from R116, R117, R118, R119, R120, R121,
R123, R124, R125, R206, notes/assumptions/3, notes/assumptions/24.) -/
def Obligations.LabelsAreConfirmedAndLost : Prop :=
  ∀ (s : State) (p : Packet) (l : Label) (t0 : Nat), s.hears →
    (s.ldd.active = false → exec (.lineDataPacket p) s = .next s.closed) ∧
    (s.ldd.active = true →
      (p.payload.foldl (· ^^^ ·) p.kind ≠ p.check ∨ p.kind = 1 ∧ judgeLabel p.label = none ∨
        p.kind = 2 ∧ timeGood p.time = false → exec (.lineDataPacket p) s =
          .next (s.onLdd fun d => { d with bad := satInc 65535 d.bad, candidate := none }).closed) ∧
      (p.payload.foldl (· ^^^ ·) p.kind = p.check → p.kind ≠ 1 → p.kind ≠ 2 → exec (.lineDataPacket p) s =
        .next (s.onLdd fun d => { d with good := satInc 65535 d.good }).closed) ∧
      (p.payload.foldl (· ^^^ ·) p.kind = p.check → p.kind = 1 → judgeLabel p.label = some l → s.ldd.candidate ≠ some l →
        exec (.lineDataPacket p) s =
          .next (s.onLdd fun d => { d with good := satInc 65535 d.good, candidate := some l }).closed) ∧
      (p.payload.foldl (· ^^^ ·) p.kind = p.check → p.kind = 1 → judgeLabel p.label = some l → s.ldd.candidate = some l →
        let seen := { s.ldd with good := satInc 65535 s.ldd.good }
        let table := s.tuner.presets
        let learned : List (Option Preset) × Learning :=
          match s.ldd.tuned with
          | none => (table, .none)
          | some n =>
            match table.getD (n - 1) none with
            | none => (table, .none)
            | some q => if q.networkCode = some l.network then (table, .unchanged)
              else (table.set (n - 1) (some { q with networkCode := some l.network }), .learned)
        let accepted (kind : LabelKind) : Prop := s.noOccurrence → s.sched.due = none → s.roomFor 1 →
          ∃ t, exec (.lineDataPacket p) s = .next t ∧ t.ldd = { seen with last := some l, state := .valid, timer := some s.now } ∧
            t.link.notices = s.link.notices ++ [.label kind l s.ldd.tuned learned.2] ∧ t.link.labelLost = s.link.labelLost ∧
            t.tuner = { s.tuner with presets := learned.1 } ∧ sameTape s t ∧ t.clock = s.clock ∧
            t.sched = { s.sched with loss := none } ∧ t.box = s.box ∧ t.pwr = s.pwr
        (s.ldd.last = none → accepted .new) ∧
        (∀ old, s.ldd.last = some old →
          (l.toggle ≠ old.toggle → accepted .new) ∧
          (l = old → s.ldd.state = .lost → accepted .back) ∧
          (l = old → s.ldd.state = .valid → exec (.lineDataPacket p) s =
            .next (s.onLdd fun _ => { seen with timer := some s.now }).closed) ∧
          (l.toggle = old.toggle → l ≠ old → exec (.lineDataPacket p) s =
            .next (s.onLdd fun _ => { seen with toggles := satInc 65535 seen.toggles }).closed)))) ∧
    (s.ldd.state = .valid → s.ldd.timer = some t0 →
      ((s.now - t0) * 1000 < 10000 * 32768 → exec .labelTimerExpiry s = .next s.closed) ∧
      (10000 * 32768 ≤ (s.now - t0) * 1000 → s.noOccurrence → s.sched.due = none →
        exec .labelTimerExpiry s = .next ((s.onLdd fun d => { d with state := .lost, timer := none }).onLink fun x =>
          { x with labelLost := true }).closed))

/-- A second boundary advances the date-time by one second of the calendar, the last second of 2089 wraps, and the trim sets the
length. At a second boundary the date-time is the next second of the calendar (2089-12-31 23:59:59 wraps to 1990-01-01 00:00:00
with CLOCK_STEPPED), the fraction 0, the trim count one further or 0 after 15, and the new second lasts 32,768 cycles, less the
trim where the count is 0; the cycles left of the old second are counted (log 2, the model's choice); state and trim are kept.
No entry has an occurrence, and at the wrap, a step of the clock, every slot is EMPTY or DISABLED. The next second of every
legal date-time but the last is legal and one second later counted from 1990-01-01; 1990-01-01 is a Monday. (Derived from R129,
R130, R131, R136, R137, R139, notes/assumptions/2.) -/
def Obligations.SecondBoundaryAdvancesTheCalendar : Prop :=
  (∀ s : State, s.hears → s.noOccurrence → s.sched.due = none → s.roomFor 1 →
    (s.clock.time = lastTime → ∀ k ∈ s.sched.slots, k.state = .empty ∨ k.state = .disabled) →
    let count := if s.clock.trimCount = 15 then 0 else s.clock.trimCount + 1
    let left := s.clock.length - s.clock.fraction
    ∃ t, exec .secondBoundary s = .next t ∧
      t.clock = { s.clock with time := if s.clock.time = lastTime then firstTime else nextSecond s.clock.time, fraction := 0,
                               trimCount := count, crystal := s.clock.crystal + left,
                               length := if count = 0 then ((32768 : Int) - s.clock.trim).toNat else 32768 } ∧
      (s.clock.time ≠ lastTime → t.link.notices = s.link.notices) ∧
      (s.clock.time = lastTime → ∃ f g, t.link.notices =
        s.link.notices ++ [.clockStepped lastTime f firstTime g .wrap s.clock.state]) ∧
      t.pins = s.pins ∧ t.servo = s.servo ∧ t.pos = s.pos ∧ t.mark = s.mark ∧ t.tuner = s.tuner ∧ t.ldd = s.ldd ∧
      t.box = s.box ∧ t.pwr = s.pwr ∧ sameMech s t) ∧
  (∀ x : DateTime, timeLegal x = true → x ≠ lastTime →
    timeLegal (nextSecond x) = true ∧ secondsOf (nextSecond x) = secondsOf x + 1) ∧
  secondsOf firstTime = 0 ∧ dayOfWeek firstTime.date = 0

/-- CLOCK_SET steps the clock to MANUAL, CLOCK_READ reports the reading, and confirmed TIME packets set the clock to the broadcast
time. A CLOCK_SET with neither date-time nor trim, or with a date-time outside the calendar, is refused INVALID_ARG. A legal
date-time becomes the time with fraction 0 in state MANUAL, with CLOCK_STEPPED sent; a trim alone is clamped to −31..+31 and
steps nothing. Both are answered DONE with the reading, state and trim in force. CLOCK_READ is answered DONE in every state with
the reading to 1/1024 s, day of week, state and trim, and changes nothing. A good TIME packet outside the calendar is counted
alone; with no candidate, or one more than 120 s older or more than 1 s off, it becomes the candidate; less than 30 s after the
candidate it is ignored; else it confirms: with AUTO_CLOCK off the candidate alone is replaced, on and INVALID or 2 s and more
off the clock steps to it with state BROADCAST, else the state alone becomes BROADCAST. No entry has an occurrence, DONE or
ARMED, where the clock steps. The fields of a payload stand beside its bytes as the model's choice (log 24). (Derived from R132,
R133, R134, R136, R137, R202, R117, R126, R127, R135, notes/assumptions/24.) -/
def Obligations.ClockIsSetAndRead : Prop :=
  (∀ (s : State) (x : DateTime) (v : Option Int) (n : Int), s.takes →
    refusedWith (.clockSet none none) 0x0E .invalidArg [] s ∧
    (timeLegal x = false → refusedWith (.clockSet (some x) v) 0x0E .invalidArg [] s) ∧
    (exec (.clockSet none (some n)) s = .next ((s.onClock fun c => { c with trim := clampInt (-31) 31 n }).answered 0x0E .done .none
        (readingBytes s.clock.time s.clock.fraction1024 ++ [byte s.clock.state.code, sbyte (clampInt (-31) 31 n)])).closed) ∧
    (timeLegal x = true → (∀ k ∈ s.sched.slots, k.state = .empty ∨ k.state = .disabled) → s.noOccurrence → s.sched.due = none →
      s.roomFor 1 →
      ∃ t, exec (.clockSet (some x) none) s = .next t ∧
        t.clock = { s.clock with time := x, fraction := 0, state := .manual,
                                 length := if s.clock.trimCount = 0 then ((32768 : Int) - s.clock.trim).toNat else 32768 } ∧
        t.link.reply = some { kind := 0x0E, result := .done, reason := .none,
                              data := readingBytes x 0 ++ [byte ClockState.manual.code, sbyte s.clock.trim] } ∧
        t.link.notices = s.link.notices ++
          [.clockStepped s.clock.time s.clock.fraction1024 x 0 .manual .manual] ∧
        sameTape s t ∧ t.tuner = s.tuner ∧ t.ldd = s.ldd ∧ t.sched = s.sched ∧ t.box = s.box ∧ t.pwr = s.pwr) ∧
    exec .clockRead s = .next (s.answered 0x0F .done .none (readingBytes s.clock.time s.clock.fraction1024 ++
      [byte (dayOfWeek s.clock.time.date), byte s.clock.state.code, sbyte s.clock.trim])).closed) ∧
  ∀ (s : State) (p : Packet), s.hears → s.ldd.active = true → p.payload.foldl (· ^^^ ·) p.kind = p.check → p.kind = 2 →
    timeGood p.time = true →
    let loc : Int := secondsOf (utcOf p.time) + p.time.offset * 1800
    let counted := s.onLdd fun d => { d with good := satInc 65535 d.good }
    let cand : TimeCandidate := { arrival := s.clock.ticks, d := loc * 1024 - s.clock.reading }
    let took := counted.onLdd fun d => { d with time := some cand }
    (loc < 0 ∨ secondsOf lastTime < loc → exec (.lineDataPacket p) s = .next counted.closed) ∧
    (0 ≤ loc → loc ≤ secondsOf lastTime →
      (s.ldd.time = none → exec (.lineDataPacket p) s = .next took.closed) ∧
      ∀ old : TimeCandidate, s.ldd.time = some old →
        (cand.arrival < old.arrival + 30 * 1024 → exec (.lineDataPacket p) s = .next counted.closed) ∧
        (old.arrival + 30 * 1024 ≤ cand.arrival →
          old.arrival + 120 * 1024 < cand.arrival ∨ cand.d < old.d - 1024 ∨ old.d + 1024 < cand.d →
          exec (.lineDataPacket p) s = .next took.closed) ∧
        (old.arrival + 30 * 1024 ≤ cand.arrival → cand.arrival ≤ old.arrival + 120 * 1024 → old.d - 1024 ≤ cand.d →
          cand.d ≤ old.d + 1024 →
          (s.link.settings.autoClock = false → exec (.lineDataPacket p) s = .next took.closed) ∧
          (s.link.settings.autoClock = true → s.clock.state ≠ .invalid → -2048 < cand.d → cand.d < 2048 →
            exec (.lineDataPacket p) s = .next (took.onClock fun c => { c with state := .broadcast }).closed) ∧
          (s.link.settings.autoClock = true → s.clock.state = .invalid ∨ cand.d ≤ -2048 ∨ 2048 ≤ cand.d →
            (∀ k ∈ s.sched.slots, k.state = .empty ∨ k.state = .disabled) → s.noOccurrence → s.sched.due = none → s.roomFor 1 →
            ∃ t, exec (.lineDataPacket p) s = .next t ∧
              t.clock = { s.clock with time := timeOfSeconds loc.toNat, fraction := 0, state := .broadcast,
                                       length := if s.clock.trimCount = 0 then ((32768 : Int) - s.clock.trim).toNat else 32768 } ∧
              t.ldd = took.ldd ∧
              t.link.notices = s.link.notices ++
                [.clockStepped s.clock.time s.clock.fraction1024 (timeOfSeconds loc.toNat) 0 .broadcast .broadcast] ∧
              sameTape s t ∧ t.tuner = s.tuner ∧ t.sched = s.sched ∧ t.box = s.box ∧ t.pwr = s.pwr)))

/-- A programme entry is judged in order, stored in its slot ARMED, DISABLED or DONE with its next occurrence, and read back.
ENTRY_WRITE refuses in this order: an INVALID clock, a slot beyond 16, slot 0 with no EMPTY slot, a slot that holds the recorder
(BUSY), a malformed record or unused preset (INVALID_ARG). Slot 0 is the lowest EMPTY slot. Else the slot takes the fields with
its kept results cleared: DISABLED if not enabled; if enabled ARMED with the next occurrence, or DONE with none. The reply gives
slot, state, start and stop; ENTRY_STATE is sent at a change; the due timer is set to the claim instant if within 120 s. Here no
other entry has an occurrence and the claim lies ahead. ENTRY_READ of 1..16 is answered DONE with the entry's fields as its
bytes 2 to 13, and changes nothing. The bytes of the ENTRY_WRITE reply (slot, state, start, stop, in that order) are the model's
choice of log 26, the due timer's crystal count that of log 35, and an instant before 1990 is given as that first second (log
21). The next occurrence: of the entry's candidate dates (ONCE its date, DAILY all, WEEKDAYS Monday to Friday, WEEKLY its
weekday) later than the last date, none crossing midnight on 2089-12-31, the earliest whose end lies after the reading; none
where none does. Its start, stop (the next date if not later than the start), claim (start - 90 s; label: - 60 min 30 s), lead,
window and end (label: the later of stop and window close) are R144's. Its window opening is taken as judged if it lies at or
before the reading: the model's choice of log 32. (Derived from R131, R140, R141, R142, R143, R144, R145, R202,
notes/assumptions/21, notes/assumptions/26, notes/assumptions/32, notes/assumptions/35.) -/
def Obligations.EntriesAreWrittenAndRead : Prop :=
  ∀ (s : State) (n : Nat) (r : EntryRecord) (e : Entry) (k : Slot), s.takes →
    let put (x : EntryState) (o : Option Occurrence) : Slot :=
      { entry := some e, state := x, lastDate := none, outcome := .none, recSeconds := 0, occ := o }
    let stored (x : EntryState) (o : Option Occurrence) (d : Option Nat) : Prop :=
      ∃ t, exec (.entryWrite n r) s = .next t ∧
        t.sched = { s.sched with slots := s.sched.slots.set (n - 1) (put x o), due := d } ∧
        t.link.reply = some { kind := 0x0B, result := .done, reason := .none,
                              data := [byte n, byte x.code] ++ startStopBytes (put x o) } ∧
        t.link.notices = s.link.notices ++
          (if k.state = x then [] else [.entryState n k.state x (o.map Occurrence.date) none]) ∧
        sameBesideSched s t
    (s.clock.valid = false → refusedWith (.entryWrite n r) 0x0B .clockInvalid [] s) ∧
    (s.clock.valid = true →
      (16 < n → refusedWith (.entryWrite n r) 0x0B .invalidArg [] s) ∧
      ((∀ m < 16, (s.slot (m + 1)).state ≠ .empty) → refusedWith (.entryWrite 0 r) 0x0B .tableFull [] s) ∧
      (1 ≤ n → n ≤ 16 → (s.slot n).state = .empty → (∀ m < n, 1 ≤ m → (s.slot m).state ≠ .empty) →
        exec (.entryWrite 0 r) s = exec (.entryWrite n r) s) ∧
      (s.hasSlot n k →
        (k.state ∈ [EntryState.watching, .preparing, .recording, .held] → refusedWith (.entryWrite n r) 0x0B .busy [] s) ∧
        (k.state ∉ [EntryState.watching, .preparing, .recording, .held] →
          (entryOf s.std r = none → refusedWith (.entryWrite n r) 0x0B .invalidArg [] s) ∧
          (entryOf s.std r = some e →
            (s.preset e.preset = none → refusedWith (.entryWrite n r) 0x0B .invalidArg [] s) ∧
            ((s.preset e.preset).isSome = true → s.onlyOccurrence n → s.sched.holder = none → s.roomFor 1 →
              (e.enabled = false → stored .disabled none none) ∧
              (e.enabled = true → nextOcc e none s.clock.reading = none → stored .done none none) ∧
              (∀ o, e.enabled = true → nextOcc e none s.clock.reading = some o → (s.clock.reading : Int) < o.claim * 1024 →
                stored .armed (some o) (if o.claim * 1024 ≤ (s.clock.reading : Int) + 120 * 1024
                  then some (s.crystalAt (o.claim * 1024)) else none))))))) ∧
    (n = 0 ∨ 16 < n → refusedWith (.entryRead n) 0x0C .invalidArg [] s) ∧
    (1 ≤ n → n ≤ 16 →
      exec (.entryRead n) s = .next (s.answered 0x0C .done .none (entryData n s)).closed ∧
      (entryData n s).take 2 = [byte n, byte (s.slot n).state.code] ∧
      ((s.slot n).entry = some e → ((entryData n s).drop 2).take 12 = entryBytes e)) ∧
    (∀ (last : Option Date) (reading : Nat), e.start < 1440 → e.stop < 1440 → e.start ≠ e.stop →
      let start (day : Nat) : Int := (day * 86400 + e.start * 60 : Nat)
      let stop (day : Nat) : Int := ((if e.start < e.stop then day else day + 1) * 86400 + e.stop * 60 : Nat)
      let endAt (day : Nat) : Int := if e.labelFollow then max (stop day) (start day + 240 * 60) else stop day
      let candidate (day : Nat) : Prop :=
        (∀ d, last = some d → dayNumber d < day) ∧ day ≤ 36524 ∧ (day = 36524 → e.start < e.stop) ∧
        (match e.repeats with
          | .once => e.date.map dayNumber = some day
          | .daily => True
          | .weekdays => day % 7 < 5
          | .weekly => e.weekday = some (day % 7))
      ((∀ day, candidate day → endAt day * 1024 ≤ reading) → nextOcc e last reading = none) ∧
      (∀ day, candidate day → (reading : Int) < endAt day * 1024 →
        (∀ d < day, candidate d → endAt d * 1024 ≤ reading) →
        ∃ o, nextOcc e last reading = some o ∧ o.date = dateOfDay day ∧ o.start = start day ∧ o.stop = stop day ∧
          o.claim = start day - (if e.labelFollow then 60 * 60 + 30 else 90) ∧ o.lead = start day - 90 ∧
          o.winOpen = start day - 60 * 60 ∧ o.winClose = start day + 240 * 60 ∧ o.endAt = endAt day ∧
          o.mode = (if e.labelFollow then .label else .fixed) ∧
          o.labelSeen = false ∧ o.heldOut = false ∧ o.late = false ∧
          o.winSeen = (e.labelFollow && decide ((start day - 60 * 60) * 1024 ≤ (reading : Int)))))

/-- CANCEL, DELETE, DISABLE, ENABLE and EXTEND change the entry of their slot where its state allows. A slot outside 1..16 is
INVALID_ARG. CANCEL ends a BLOCKED ONCE occurrence with CANCELLED: DONE, its date and outcome kept; in a state it does not apply
to, BAD_STATE. DELETE outside those states empties the slot. DISABLE makes ARMED and DONE DISABLED without an occurrence, is
BUSY for a holder, BAD_STATE in EMPTY, and changes nothing in DISABLED. ENABLE makes DISABLED ARMED with a next occurrence, DONE
with none. EXTEND in RECORDING or HELD takes a stop later than the reading and within 24 hours: the occurrence's stop and the
governing timer move (the scheduled-stop timer in mode LABEL, else the stop timer) and overrun ends; else INVALID_ARG, in other
states BAD_STATE. In the EXTEND clause the window opening of a label entry is still ahead or judged already, which the model
does once (log 32). No other entry has an occurrence here. The model's choices: EXTEND moves the end instant too, a stop that is
no date-time of the calendar is INVALID_ARG and ENABLE keeps the enabled field (log 34); the timers are crystal counts reckoned
from the reading (log 35); EXTEND's five reply bytes are log 26's. (Derived from R142, R143, R167, R170, R171, R172, R202,
notes/assumptions/26, notes/assumptions/32, notes/assumptions/34, notes/assumptions/35.) -/
def Obligations.EntryControlsChangeTheEntry : Prop :=
  ∀ (s : State) (n : Nat) (x : DateTime) (k : Slot) (e : Entry) (o : Occurrence), s.takes →
    let changed (i : Instr) (new : Slot) (d : Option Nat) (say : List Notice) : Prop :=
      ∃ t, exec i s = .next t ∧ t.sched = { s.sched with slots := s.sched.slots.set (n - 1) new, due := d } ∧
        t.link.reply = some { kind := 0x0D, result := .done, reason := .none, data := [] } ∧
        t.link.notices = s.link.notices ++ say ∧ sameBesideSched s t
    (n = 0 ∨ 16 < n → ∀ i ∈ [Instr.cancel n, .delete n, .disable n, .enable n, .extend n x],
      refusedWith i 0x0D .invalidArg [] s) ∧
    (s.hasSlot n k →
      (k.state ∈ [EntryState.empty, .disabled, .armed, .done] → refusedWith (.cancel n) 0x0D .badState [] s) ∧
      (k.state = .empty → refusedWith (.disable n) 0x0D .badState [] s) ∧
      (k.state ∈ [EntryState.watching, .preparing, .recording, .held] → refusedWith (.disable n) 0x0D .busy [] s) ∧
      (s.clock.valid = false → refusedWith (.enable n) 0x0D .clockInvalid [] s) ∧
      (s.clock.valid = true → k.state = .empty → refusedWith (.enable n) 0x0D .badState [] s) ∧
      (k.state ∉ [EntryState.recording, .held] → refusedWith (.extend n x) 0x0D .badState [] s) ∧
      (s.onlyOccurrence n → s.sched.holder = none → s.roomFor 1 →
        (k.state = .blocked → k.entry = some e → e.repeats = .once → k.occ = some o → o.started = false →
          changed (.cancel n) { k with state := .done, lastDate := some o.date, outcome := .cancelled,
                                       recSeconds := min (o.recorded / 1024) 86399, occ := none } none
            [.entryState n .blocked .done (some o.date) (some (.cancelled, min (o.recorded / 1024) 86399))]) ∧
        (k.state ∈ [EntryState.empty, .disabled, .armed, .done] → changed (.delete n) Slot.reset none
          (if k.state = .empty then [] else [.entryState n k.state .empty k.date none])) ∧
        (k.state ∈ [EntryState.armed, .done] → changed (.disable n) { k with state := .disabled, occ := none } none
          [.entryState n k.state .disabled k.date none]) ∧
        (k.state = .disabled → k.occ = none → changed (.disable n) k none []) ∧
        (s.clock.valid = true → k.state = .disabled → k.entry = some e →
          (nextOcc e k.lastDate s.clock.reading = none → changed (.enable n) { k with state := .done, occ := none } none
            [.entryState n .disabled .done none none]) ∧
          (nextOcc e k.lastDate s.clock.reading = some o → (s.clock.reading : Int) < o.claim * 1024 →
            changed (.enable n) { k with state := .armed, occ := some o }
              (if o.claim * 1024 ≤ (s.clock.reading : Int) + 120 * 1024 then some (s.crystalAt (o.claim * 1024)) else none)
              [.entryState n .disabled .armed (some o.date) none]))) ∧
      (∀ h, k.state ∈ [EntryState.recording, .held] → s.sched.holder = some h → h.slot = n → s.onlyOccurrence n →
        k.entry = some e → k.occ = some o →
        let stop := secondsOf { x with second := 0 }
        let inReach := timeLegal { x with second := 0 } = true ∧ s.clock.reading < stop * 1024 ∧
          stop * 1024 ≤ s.clock.reading + 86400 * 1024
        (¬ inReach → refusedWith (.extend n x) 0x0D .invalidArg [] s) ∧
        (inReach → e.labelFollow = false ∨ o.winSeen = true ∨ (s.clock.reading : Int) < o.winOpen * 1024 →
          ∃ t d, exec (.extend n x) s = .next t ∧ t.link.reply =
            some { kind := 0x0D, result := .done, reason := .none, data := minuteBytes x } ∧
          t.sched = { s.sched with
            slots := s.sched.slots.set (n - 1) { k with occ := some { o with
              stop := stop, endAt := if e.labelFollow then max (stop : Int) o.winClose else stop } },
            holder := some { h with overrun := false }, due := d,
            schedAt := if o.mode = .label then some (s.crystalAt (stop * 1024)) else s.sched.schedAt,
            stopAt := if o.mode = .label then s.sched.stopAt else some (s.crystalAt (stop * 1024)) } ∧
          t.link.notices = s.link.notices ∧ sameBesideSched s t)))

/-- At the due timer a due fixed entry is granted and checks the deck, waits BLOCKED, or takes the recorder from a watch or an
overrun. At the due timer's instant an ARMED fixed entry between claim and end, with no holder and alone with an occurrence:
with the owner PANEL in PLAY it becomes BLOCKED and nothing else moves. Granted with the owner NONE and no span known, in
STANDBY it waits PREPARING while its claim raises the supply (TIMER_ON, RAISING); with the supply up, an EMPTY or JAMMED
mechanism, a missing tab, a covered end leader and an unused preset end it at once with NO_CASSETTE, NO_TAB, MECH_FAULT,
TAPE_END and NO_PRESET in that order of checks, the deck unmoved, a counter within a span's guard extent with PROTECTED under
REFUSE, and under SKIP if the span is open. A clear deck in IDLE threads toward REC_PAUSE by RECORD start-paused of origin
TIMER, or winds toward 48 past a closed span by FWIND under SKIP; the entry is PREPARING in mode FIXED, late past its start
instant, the preset selected, and a BOX preset's channel sequence handed to BOX with the start instant as deadline: one deferred
before is dropped (REPLACED), then BOX_NO_PROFILE without a profile, else its frames join the queue where they fit, else it is
deferred with its retry timer, or past the start dropped (DEADLINE). Beside one other entry, which holds the recorder: a
WATCHING one (its window opening judged) before its lead instant, window close and end instant is preempted, ARMED and then
BLOCKED with its occurrence kept, the three notices in that order; a label entry RECORDING in overrun ends with SHORT, its STOP
in flight, and the new RECORD waits in MECH's slot. The model's choices: DUE_TIMER before its instant, or not running, changes
nothing (log 3), ENTRY_STATE is queued before POWER_STATE, an order R204 leaves open between blocks (log 9), and a window
opening is judged once (log 32). (Derived from R145, R146, R147, R150, R163, R165, R182, Chapter 8 section 8.5,
notes/assumptions/3, notes/assumptions/9, notes/assumptions/32.) -/
def Obligations.DueEntryIsGrantedOrWaits : Prop :=
  ∀ (s : State) (n t0 : Nat) (k : Slot) (e : Entry) (o : Occurrence), s.hears →
    (s.sched.due = none → exec .dueTimerExpiry s = .next s.closed) ∧
    (s.sched.due = some t0 → s.now < t0 → exec .dueTimerExpiry s = .next s.closed) ∧
    (s.sched.due = some t0 → t0 ≤ s.now → s.clock.valid = true → s.hasSlot n k → 
      k.state = .armed → k.entry = some e → e.labelFollow = false → k.occ = some o →
      o.claim * 1024 ≤ (s.clock.reading : Int) → (s.clock.reading : Int) < o.endAt * 1024 →
      let taken : Occurrence := { o with mode := .fixed, late := o.late || decide (o.start * 1024 < (s.clock.reading : Int)) }
      let preparing (t : State) : Prop :=
        (∃ h, t.sched.holder = some h ∧ h.slot = n) ∧ t.mech.owner = .timer n ∧ t.clock = s.clock ∧ t.pending = s.pending
      let table (j : Slot) : List Slot := s.sched.slots.set (n - 1) j
      (s.onlyOccurrence n → s.sched.holder = none →
        (s.mech.owner = .panel → s.mech.state = .play → s.roomFor 1 → ∃ t d, exec .dueTimerExpiry s = .next t ∧
          t.sched = { s.sched with slots := table { k with state := .blocked }, due := d } ∧
          t.link.notices = s.link.notices ++ [.entryState n .armed .blocked (some o.date) none] ∧ sameBesideSched s t) ∧
        (s.mech.owner = .none → s.mech.inFlight = none → s.mech.slot = none → s.mech.standbyStop = false → s.mark.search = none →
          s.mech.junction = none →
          (s.pwr.power = .standby → s.pwr.phase = .off → s.pins.supGood = false → s.roomFor 4 → s.box.onPoint = .none →
            s.box.hold = none → s.tuner.scan = none → ∃ t, exec .dueTimerExpiry s = .next t ∧ preparing t ∧
              t.sched.slots = table { k with state := .preparing, occ := some taken } ∧ t.pwr.power = .timerOn ∧
              t.pwr.phase = .raising ∧ t.pwr.timer = some s.now ∧ t.pwr.onMark = s.pwr.onMark ∧
              t.mech = { s.mech with owner := .timer n, still := t.mech.still, halt := t.mech.halt } ∧
              List.Sublist (s.link.notices ++ [.entryState n .armed .preparing (some o.date) none,
                .powerState .timerOn .standby .claim .none .none]) t.link.notices) ∧
          (s.pwr.power ≠ .standby → s.pwr.phase = .up → s.mech.recoveryPending = false → s.mech.recoveryRun = false →
            s.mech.state ∈ [MState.idle, .empty, .jammed] →
            (let inside := match s.guardSpan with
                | none => false
                | some q => decide (e.policy = .refuse) || decide (e.policy = .skip) && q.opened
              let checks : List (Bool × EndCode) := [(decide (s.mech.state = .empty), .noCassette), (!s.mech.tab, .noTab),
                (decide (s.mech.state = .jammed), .mechFault), (s.pins.leaderEnd, .tapeEnd), (inside, .spanProtected),
                ((s.preset e.preset).isNone, .noPreset)]
              ∀ out, checks.find? Prod.fst = some (true, out) → e.repeats = .once → o.started = false →
                ∃ t, exec .dueTimerExpiry s = .next t ∧ t.sched.holder = none ∧ t.mech.owner = .none ∧
                  t.sched.slots = table { k with state := .done, lastDate := some o.date, outcome := out,
                                                 recSeconds := min (o.recorded / 1024) 86399, occ := none } ∧
                  t.sched.post = some { since := s.now, slot := n, powerOff := e.powerOff } ∧
                  t.mech = { s.mech with still := t.mech.still, halt := t.mech.halt }) ∧
            (∀ p, s.mech.state = .idle → s.mech.tab = true → s.pins.leaderEnd = false → s.preset e.preset = some p →
              s.tuner.scan = none →
              (s.guardSpan = none ∨ e.policy = .stop →
                ∃ t, exec .dueTimerExpiry s = .next t ∧ preparing t ∧
                  t.sched.slots = table { k with state := .preparing, occ := some taken } ∧
                  t.mech.state = .threading ∧ t.mech.target = .recPause ∧
                  t.mech.inFlight = some { what := .record, paused := true, origin := .timer n, tag := s.sched.nextTag } ∧
                  t.tuner.selection = some (.preset e.preset) ∧
                  (p.box = none → t.box.queue = s.box.queue ∧ t.box.deferred = s.box.deferred ∧ t.box.retry = s.box.retry) ∧
                  (∀ c, p.box = some c → c ≤ 999 → s.roomFor 5 →
                    let replaced : List Notice := match s.box.deferred with
                      | none => [] | some d => [.irDropped d.slot d.channel .replaced]
                    let handed (frames : List IrFrame) (d : Option Deferred) (notices : List Notice) : Prop :=
                      t.box.queue = s.box.queue ++ frames ∧ t.box.sending = (s.box.sending || decide (frames ≠ [])) ∧
                      t.box.deferred = d ∧ t.box.retry = (if d = none then none else some s.now) ∧
                      List.Sublist (s.link.notices ++ replaced ++ notices) t.link.notices
                    (s.box.profile = none → handed [] none [.boxNoProfile (.timer n) c]) ∧
                    (∀ x, s.box.profile = some x →
                      let keys := (if x.minimal then
                          (if c < 10 then [] else if c < 100 then [c / 10] else [c / 100, c / 10 % 10]) ++ [c % 10]
                        else [c / 100, c / 10 % 10, c % 10]) ++ (if x.enter then [10] else [])
                      (s.box.queue.length + keys.length ≤ 8 →
                        handed (keys.map fun y => { key := y, code := x.codes.getD y 0, origin := .timer n }) none []) ∧
                      (8 < s.box.queue.length + keys.length → o.start * 1024 ≤ (s.clock.reading : Int) →
                        handed [] none [.irDropped n c .deadline]) ∧
                      (8 < s.box.queue.length + keys.length → (s.clock.reading : Int) < o.start * 1024 →
                        handed [] (some { slot := n, channel := c, deadline := o.start }) [])))) ∧
              (∀ q, s.guardSpan = some q → q.opened = false → e.policy = .skip →
                ∃ t, exec .dueTimerExpiry s = .next t ∧ preparing t ∧ t.mech.state = .threading ∧ t.mech.target = .fwind ∧
                  t.mech.inFlight = some { what := .fwind, origin := .timer n, tag := s.sched.nextTag } ∧
                  t.sched.holder.bind Holder.skip = some (q.last + 48)))))) ∧
      (∀ m (j : Slot) (f : Entry) (q : Occurrence) (h : Holder), s.hasSlot m j → m ≠ n →
        (∀ x ∈ (table Slot.reset).set (m - 1) Slot.reset, x.occ = none) → s.sched.holder = some h → h.slot = m →
        j.entry = some f → f.labelFollow = true → j.occ = some q → s.mech.owner = .timer m → s.mech.inFlight = none →
        s.mech.slot = none → s.mech.standbyStop = false → s.mark.search = none → s.mech.junction = none → s.mech.tab = true →
        s.pins.leaderEnd = false → s.guardSpan = none → s.pwr.power ≠ .standby → s.pwr.phase = .up →
        s.mech.recoveryPending = false → s.mech.recoveryRun = false → (s.preset e.preset).isSome = true →
        s.tuner.scan = none → 
        (j.state = .watching → s.mech.state = .idle → (s.clock.reading : Int) < q.lead * 1024 → q.winSeen = true →
          (s.clock.reading : Int) < q.winClose * 1024 → (s.clock.reading : Int) < q.endAt * 1024 → s.roomFor 6 → s.box.onPoint = .none →
          s.box.hold = none → s.box.deferred = none →
          ∃ t, exec .dueTimerExpiry s = .next t ∧ preparing t ∧
            t.sched.slots = (table { k with state := .preparing, occ := some taken }).set (m - 1) { j with state := .blocked } ∧
            t.mech.state = .threading ∧ t.mech.target = .recPause ∧
            List.Sublist (s.link.notices ++ [.entryState m .watching .armed (some q.date) none,
              .entryState n .armed .preparing (some o.date) none, .entryState m .armed .blocked (some q.date) none]) t.link.notices) ∧
        (j.state = .recording → s.mech.state = .record → q.mode = .label → h.overrun = true → f.repeats = .once →
          let ticks := q.recorded + (match h.recSince with | none => 0 | some x => s.clock.ticks - x)
          ∃ t, exec .dueTimerExpiry s = .next t ∧ preparing t ∧
            t.sched.slots = (table { k with state := .preparing, occ := some taken }).set (m - 1) { j with
              state := .done, lastDate := some q.date, outcome := .short, recSeconds := min (ticks / 1024) 86399, occ := none } ∧
            t.mech.state = .shifting ∧ t.mech.target = .halt ∧
            t.mech.inFlight = some { what := .stop, origin := .timer m, tag := s.sched.nextTag } ∧
            t.mech.slot = some { what := .record, paused := true, origin := .timer n, tag := s.sched.nextTag + 1 })))

/-- A recording starts when the deck is ready and its time has come, and ends at its stop timer, its window close or CANCEL. Slot n
holds the recorder with no command in flight, and no other entry has an occurrence. PREPARING with the deck ready in REC_PAUSE,
at the due timer's evaluation: in mode FIXED before the start instant nothing moves; at or after it, or in mode LABEL or
FALLBACK at once (before the window close), the entry is RECORDING with its notice and RECORD is in flight in its pre-roll. In
mode FIXED it is late from 1 s past the start; the stop timer is set to the stop instant, in mode LABEL the scheduled-stop and
window timers to the stop and the window close, as crystal counts from the reading (log 35, the model's choice). The report of
an entry to RECORD starts the count of recorded seconds and, the first time, hands BOX RECORD_START (no automatic speed here).
For a ONCE entry RECORDING in RECORD, at its instant the stop timer ends the occurrence with OK, or LATE with the late mark, the
window timer with SHORT, and CANCEL with CANCELLED: DONE, with date, outcome and recorded seconds (the running stretch counted,
at most 86,399); SCHED's STOP is in flight toward HALT; the recorder is released, the owner NONE, its timers off, the post-hold
timer started. That the stop and window timers do nothing before their instant is the model's choice (log 3). (Derived from R12,
R149, R154, R158, R160, R161, R167, R168, R169, R170, notes/assumptions/3, notes/assumptions/35.) -/
def Obligations.RecordingStartsAndEndsOnItsTimers : Prop :=
  ∀ (s : State) (n t0 : Nat) (k : Slot) (h : Holder) (e : Entry) (o : Occurrence), s.hears → s.hasSlot n k →
    s.onlyOccurrence n → s.sched.holder = some h → h.slot = n → k.entry = some e → k.occ = some o → s.mech.owner = .timer n →
    s.mech.inFlight = none → s.mech.standbyStop = false → s.mech.recoveryPending = false →
    (k.state = .preparing → s.clock.valid = true → s.sched.due = some t0 → t0 ≤ s.now → s.mech.state = .recPause →
      s.mech.junction = none → s.mech.slot = none → s.mech.tab = true → s.pins.leaderEnd = false → h.awaitReady = true →
      h.awaitDeck = false → h.waiting = false → h.want = [] → h.skip = none → h.retest = false →
      e.labelFollow = false ∨ o.winSeen = true ∧ (s.clock.reading : Int) < o.winClose * 1024 →
      (o.mode = .fixed → (s.clock.reading : Int) < o.start * 1024 →
        ∃ t d, exec .dueTimerExpiry s = .next t ∧ t.sched = { s.sched with due := d } ∧ t.link.notices = s.link.notices ∧
          sameBesideSched s t) ∧
      (o.mode ≠ .fixed ∨ o.start * 1024 ≤ (s.clock.reading : Int) → s.roomFor 1 →
        ∃ t d, exec .dueTimerExpiry s = .next t ∧
          t.sched = { s.sched with
            slots := s.sched.slots.set (n - 1) { k with state := .recording, occ := some { o with
              late := o.late || decide (o.mode = .fixed) && decide ((o.start + 1) * 1024 ≤ (s.clock.reading : Int)) } },
            holder := some { h with awaitReady := false, waiting := true, overrun := false }, due := d,
            stopAt := if o.mode = .label then s.sched.stopAt else some (s.crystalAt (o.stop * 1024)),
            schedAt := if o.mode = .label then some (s.crystalAt (o.stop * 1024)) else s.sched.schedAt,
            windowAt := if o.mode = .label then some (s.crystalAt (o.winClose * 1024)) else s.sched.windowAt } ∧
          .entryState n .preparing .recording (some o.date) none ∈ t.link.notices ∧
          t.mech.state = .recPause ∧ t.mech.junction = some .preRoll ∧ t.mech.owner = .timer n ∧ t.mech.recAmp = false ∧
          t.mech.inFlight = some { what := .record, origin := .timer n, tag := h.tag } ∧ t.clock = s.clock)) ∧
    (k.state ∈ [EntryState.recording, .held] → s.mech.state = .record → e.speed ≠ .auto → e.allowSlower = false →
      handleReport .recordEntered s =
        (if o.started then id else timepoint n .recordStart) (s.onSched fun c =>
          { c with slots := c.slots.set (n - 1) { k with occ := some { o with started := true } },
                   holder := some { h with recSince := some s.clock.ticks, awaitLive := true } })) ∧
    (k.state = .recording → e.repeats = .once → s.mech.state = .record →
      let ticks := o.recorded + (match h.recSince with | none => 0 | some t => s.clock.ticks - t)
      let ended (i : Instr) (out : EndCode) : Prop :=
        ∃ t, exec i s = .next t ∧
          t.sched.slots = s.sched.slots.set (n - 1) { k with state := .done, lastDate := some o.date, outcome := out,
                                                             recSeconds := min (ticks / 1024) 86399, occ := none } ∧
          t.sched.holder = none ∧ t.sched.stopAt = none ∧ t.sched.schedAt = none ∧ t.sched.windowAt = none ∧
          t.sched.held = none ∧ t.sched.loss = none ∧
          t.sched.post = some { since := s.now, slot := n, powerOff := e.powerOff } ∧
          t.mech.owner = .none ∧ t.mech.state = .shifting ∧ t.mech.target = .halt ∧ t.mech.recAmp = false ∧
          t.mech.inFlight = some { what := .stop, origin := .timer n, tag := s.sched.nextTag } ∧ t.clock = s.clock
      (s.sched.stopAt = some t0 →
        (s.now < t0 → exec .stopTimerExpiry s = .next s.closed) ∧
        (t0 ≤ s.now → ended .stopTimerExpiry (if o.late then .late else .ok))) ∧
      (s.sched.windowAt = some t0 →
        (s.now < t0 → exec .windowTimerExpiry s = .next s.closed) ∧
        (t0 ≤ s.now → ended .windowTimerExpiry .short)) ∧
      (s.takes → ended (.cancel n) .cancelled))

/-- A label entry is granted to watch, follows the labels of its programme, and falls back to fixed times where no label was
seen. Only slot n's label entry has an occurrence. At the due timer, ARMED between claim and window opening, which lies before
its window close and end instant, it is granted with the owner NONE, or PANEL in PLAY before the lead instant: WATCHING, owner
TIMER(n), preset tuned, mechanism as it is. As holder in mode LABEL, window open and its opening judged, which the model does
once (log 32), with a free deck, a label that LDD hands as new sets the label-seen flag, and: in WATCHING a matching RUN
prepares (PREPARING, from a clear IDLE deck RECORD start-paused in flight, THREADING); in PREPARING, RECORDING and HELD, and in
WATCHING with the held-timeout flag, a matching STOPPED or another programme's RUN ends it: with OK in RECORDING and HELD, else
OK with recorded seconds, MISSED without; ONCE is DONE, the recorder released, the post-hold timer started; a matching PAUSE
makes RECORDING and PREPARING HELD with the held timer started, PAUSE in flight in its backspace from RECORD; a matching RUN
makes HELD RECORDING with RECORD in flight in its pre-roll and the held timer off; in RECORDING and HELD the state's own label
again and another programme's PAUSE or STOPPED, and in WATCHING without that flag (the fallback test made) any label but a
matching RUN, leave the entry's state and the deck alone. At the due timer in WATCHING, the lead instant reached and 10 s after
WATCHING began, the fallback test, made once: with the flag set it stays; with it clear it is PREPARING in mode FIXED, late past
the start instant, and threads toward REC_PAUSE. (Derived from R145, R146, R150, R155, R156, R157, R158, R159, R160, R167,
notes/assumptions/32.) -/
def Obligations.LabelEntriesWatchFollowAndFallBack : Prop :=
  ∀ (s : State) (n t0 : Nat) (k : Slot) (e : Entry) (o : Occurrence) (p : Packet) (l : Label), s.hears → s.hasSlot n k →
    s.onlyOccurrence n → s.clock.valid = true → k.entry = some e → e.labelFollow = true → k.occ = some o →
    s.mech.inFlight = none → s.mech.slot = none → s.mech.standbyStop = false → s.mech.recoveryPending = false →
    s.mech.recoveryRun = false → s.mark.search = none → s.tuner.scan = none → s.pwr.power ≠ .standby → s.pwr.phase = .up →
    let table (j : Slot) : List Slot := s.sched.slots.set (n - 1) j
    let still (t : State) : Prop := t.mech = { s.mech with owner := .timer n, still := t.mech.still, halt := t.mech.halt }
    (s.sched.due = some t0 → t0 ≤ s.now → k.state = .armed → s.sched.holder = none → o.claim * 1024 ≤ (s.clock.reading : Int) →
      (s.clock.reading : Int) < o.winOpen * 1024 → (s.clock.reading : Int) < o.winClose * 1024 →
      (s.clock.reading : Int) < o.endAt * 1024 → s.mech.owner = .none ∨ s.mech.owner = .panel ∧ s.mech.state = .play ∧
        (s.clock.reading : Int) < o.lead * 1024 → (s.preset e.preset).isSome = true →
      ∃ t h, exec .dueTimerExpiry s = .next t ∧ t.sched.holder = some h ∧ h.slot = n ∧ h.watchSince = s.now ∧
        t.sched.slots = table { k with state := .watching } ∧ t.sched.post = none ∧ still t ∧
        t.tuner.selected = .tuner ∧ (∀ q, s.preset e.preset = some q → q.box = none → t.tuner.selection = some (.preset e.preset))) ∧
    (∀ h, s.sched.holder = some h → h.slot = n → s.mech.owner = .timer n → s.mech.junction = none → o.mode = .label →
      o.winSeen = true → o.winOpen * 1024 ≤ (s.clock.reading : Int) → (s.clock.reading : Int) < o.winClose * 1024 →
      h.want = [] → h.waiting = false →
      let clear : Prop := s.mech.state = .idle ∧ s.mech.tab = true ∧ s.pins.leaderEnd = false ∧ s.guardSpan = none ∧
        (s.preset e.preset).isSome = true
      let ticks := o.recorded + (match h.recSince with | none => 0 | some x => s.clock.ticks - x)
      let seen : Occurrence := { o with labelSeen := true }
      let mine : Prop := s.labelIsOf l e o
      (s.newLabelIn p l →
        (k.state = .watching → mine → l.status = .run → clear → h.awaitReady = false →
          ∃ t g, exec (.lineDataPacket p) s = .next t ∧ t.sched.holder = some g ∧ g.slot = n ∧ g.awaitReady = true ∧
            t.sched.slots = table { k with state := .preparing, occ := some seen } ∧ t.mech.owner = .timer n ∧
            t.mech.state = .threading ∧ t.mech.target = .recPause ∧
            t.mech.inFlight = some { what := .record, paused := true, origin := .timer n, tag := h.tag }) ∧
        (k.state ∈ [EntryState.preparing, .recording, .held] ∨ k.state = .watching ∧ o.heldOut = true →
          l.status = .stopped ∧ mine ∨ l.status = .run ∧ ¬ mine → e.repeats = .once →
          ∃ t, exec (.lineDataPacket p) s = .next t ∧ t.sched.holder = none ∧ t.mech.owner.isTimer = false ∧
            t.sched.post = some { since := s.now, slot := n, powerOff := e.powerOff } ∧
            t.sched.slots = table { k with
              state := .done, lastDate := some o.date, recSeconds := min (ticks / 1024) 86399, occ := none,
              outcome := if k.state = .recording ∨ k.state = .held ∨ 1024 ≤ ticks then .ok else .missed }) ∧
        (mine → l.status = .pause → h.awaitReady = false → h.skip = none → k.state = .recording → s.mech.state = .record →
          s.servo.recSpeed.isSome = true →
          ∃ t, exec (.lineDataPacket p) s = .next t ∧ t.sched.held = some s.now ∧ t.mech.owner = .timer n ∧
            t.sched.slots = table { k with state := .held, occ := some { seen with recorded := ticks } } ∧
            t.mech.state = .recPause ∧ t.mech.junction = some .backspace ∧
            t.mech.inFlight = some { what := .pause, origin := .timer n, tag := h.tag }) ∧
        (mine → l.status = .pause → k.state = .preparing → ∃ t, exec (.lineDataPacket p) s = .next t ∧
            t.sched.held = some s.now ∧ t.sched.slots = table { k with state := .held, occ := some seen } ∧
            t.sched.holder = some h ∧ still t) ∧
        (mine → l.status = .run → k.state = .held → h.awaitReady = false → h.skip = none → s.mech.state = .recPause →
          s.mech.tab = true → s.pins.leaderEnd = false →
          ∃ t, exec (.lineDataPacket p) s = .next t ∧ t.sched.held = none ∧ t.mech.owner = .timer n ∧
            t.sched.slots = table { k with state := .recording, occ := some seen } ∧ t.mech.state = .recPause ∧
            t.mech.junction = some .preRoll ∧
            t.mech.inFlight = some { what := .record, origin := .timer n, tag := h.tag }) ∧
        (k.state ∈ [EntryState.recording, .held] ∧ (mine ∧ l.status = (if k.state = .recording then LabelStatus.run else .pause) ∨
              ¬ mine ∧ l.status ≠ .run) ∨
            k.state = .watching ∧ (mine ∧ l.status ≠ .run ∨ ¬ mine) ∧ o.heldOut = false ∧ o.tested = true →
          ∃ t, exec (.lineDataPacket p) s = .next t ∧ t.sched.slots = table { k with occ := some seen } ∧
            t.sched.holder = some h ∧ still t)) ∧
      (s.sched.due = some t0 → t0 ≤ s.now → k.state = .watching → o.lead * 1024 ≤ (s.clock.reading : Int) → o.tested = false →
        10000 * 32768 ≤ (s.now - h.watchSince) * 1000 →
        (o.labelSeen = true → ∃ t, exec .dueTimerExpiry s = .next t ∧ t.sched.holder = some h ∧ still t ∧
          t.sched.slots = table { k with occ := some { o with tested := true } }) ∧
        (o.labelSeen = false → clear → ∃ t, exec .dueTimerExpiry s = .next t ∧ t.sched.slots = table { k with
            state := .preparing, occ := some { o with mode := .fixed, late := decide (o.start * 1024 < (s.clock.reading : Int)) } } ∧
          t.mech.state = .threading ∧ t.mech.target = .recPause ∧ t.mech.owner = .timer n)))

/-- The scheduled-stop, held, label-loss and post-hold timers and the 300-second check each do their one thing, and not before time.
At its instant the scheduled-stop timer marks label overrun. After 30 min in HELD the held timer sets the held-timeout flag,
returns the entry to WATCHING in mode LABEL and issues STOP, with another STOP to follow. After 60 s without label the label-
loss timer makes a RECORDING not past its scheduled stop FALLBACK, its stop timer being the scheduled stop and the window timer
stopped. The post-hold timer's 10 s do nothing if the recorder is held or the owner not NONE; else from HALT it issues STOP,
which unthreads, or asks for STANDBY for power-off-after in TIMER_ON. At each 300 recorded seconds the check count rises, and
SCHED asks for H where an AUTO entry at S does not last in the time left and H does. The model's choices: earlier, none does
anything (log 3); FALLBACK stops the window timer, where R160 and R166 differ from R161 (log 32); the slot is the origin of the
post-hold STOP (log 33); the time left is compared in crystal cycles (log 35). (Derived from R158, R159, R161, R162, R168,
notes/assumptions/3, notes/assumptions/32, notes/assumptions/33, notes/assumptions/35.) -/
def Obligations.HeldLossPostHoldAndSpeedTimers : Prop :=
  ∀ (s : State) (n t0 : Nat) (k : Slot) (h : Holder) (e : Entry) (o : Occurrence), s.hears →
    (s.sched.holder = some h → s.sched.schedAt = some t0 →
      (s.now < t0 → exec .scheduledStopExpiry s = .next s.closed) ∧
      (t0 ≤ s.now → exec .scheduledStopExpiry s =
        .next (s.onSched fun c => { c with schedAt := none, holder := some { h with overrun := true } }).closed)) ∧
    (s.hasSlot n k → s.sched.holder = some h → h.slot = n → k.entry = some e → k.occ = some o →
      (k.state = .held → s.sched.held = some t0 →
        ((s.now - t0) * 1000 < 1800000 * 32768 → exec .heldTimerExpiry s = .next s.closed) ∧
        (1800000 * 32768 ≤ (s.now - t0) * 1000 → s.mech.state = .recPause → s.mech.junction = none → s.mech.owner = .timer n →
          s.mech.inFlight = none → s.mech.standbyStop = false → s.mech.recoveryPending = false → h.want = [] →
          h.waiting = false →
          ∃ t g, exec .heldTimerExpiry s = .next t ∧ t.sched.holder = some g ∧ g.slot = n ∧ g.waiting = true ∧
            g.want = [{ what := .stop }] ∧ g.watchSince = s.now ∧ t.sched.held = none ∧
            t.sched.slots = s.sched.slots.set (n - 1)
              { k with state := .watching, occ := some { o with heldOut := true, mode := .label } } ∧
            t.mech.owner = .timer n ∧ t.mech.state = .shifting ∧ t.mech.target = .halt ∧
            t.mech.inFlight = some { what := .stop, origin := .timer n, tag := h.tag })) ∧
      (∀ t1, k.state = .recording → o.mode = .label → h.overrun = false → s.sched.schedAt = some t1 → s.now < t1 →
        s.sched.loss = some t0 →
        ((s.now - t0) * 1000 < 60000 * 32768 → exec .labelLossTimerExpiry s = .next s.closed) ∧
        (60000 * 32768 ≤ (s.now - t0) * 1000 → exec .labelLossTimerExpiry s = .next (s.onSched fun c =>
          { c with slots := c.slots.set (n - 1) { k with occ := some { o with mode := .fallback } }, loss := none,
                   windowAt := none, schedAt := none, stopAt := some t1, held := none }).closed)) ∧
      (∀ t1, k.state = .recording →
        let seconds := min ((o.recorded + (match h.recSince with | none => 0 | some t => s.clock.ticks - t)) / 1024) 86399
        let counted := s.onSched fun c => { c with slots := c.slots.set (n - 1) { k with occ := some { o with checks := o.checks + 1 } } }
        (seconds < 300 * (o.checks + 1) → exec .recordedSecondsCheck s = .next s.closed) ∧
        (300 * (o.checks + 1) ≤ seconds →
          (e.speed ≠ .auto → e.allowSlower = false → exec .recordedSecondsCheck s = .next counted.closed) ∧
          (∀ x y, e.speed = .auto → o.mode = .fixed → s.sched.stopAt = some t1 → s.now < t1 → o.speed = .s →
            s.servo.recSpeed = some .s → s.pos.estState ≠ .none → s.remainingAt .s = some x →
            (t1 - s.now ≤ x * 32768 → exec .recordedSecondsCheck s = .next counted.closed) ∧
            (x * 32768 < t1 - s.now → s.remainingAt .h = some y → t1 - s.now ≤ y * 32768 → exec .recordedSecondsCheck s =
              .next (counted.onServo fun v => { v with pendingSpeed := some .h }).closed))))) ∧
    (∀ p, s.sched.post = some p →
      ((s.now - p.since) * 1000 < 10000 * 32768 → exec .postHoldTimerExpiry s = .next s.closed) ∧
      (10000 * 32768 ≤ (s.now - p.since) * 1000 →
        (s.sched.holder.isSome = true ∨ s.mech.owner ≠ .none →
          exec .postHoldTimerExpiry s = .next (s.onSched fun c => { c with post := none }).closed) ∧
        (s.sched.holder = none → s.mech.owner = .none → s.mech.state = .halt → s.mech.inFlight = none →
          s.mech.standbyStop = false → s.mech.recoveryPending = false →
          (p.powerOff = false ∨ s.pwr.power ≠ .timerOn → ∃ t, exec .postHoldTimerExpiry s = .next t ∧ t.mech.state = .unthreading ∧
            t.mech.target = .idle ∧ t.mech.owner = .none ∧ t.sched = { s.sched with post := none, nextTag := s.sched.nextTag + 1 } ∧
            t.mech.inFlight = some { what := .stop, origin := .timer p.slot, tag := s.sched.nextTag } ∧ t.pwr = s.pwr) ∧
          (p.powerOff = true → s.pwr.power = .timerOn → s.pwr.phase = .up → ∃ t, exec .postHoldTimerExpiry s = .next t ∧
            t.mech.state = .unthreading ∧ t.mech.standbyStop = true ∧ t.pwr.phase = .stopping ∧ t.pwr.stopCause = .sched ∧
            t.sched.post = none))))

/-- The box profile is loaded, cleared and read in order of its checks; keys and a timer sequence join the IR queue, which the
emitter sends frame by frame. LOAD and CLEAR are refused TIMER_ACTIVE under TIMER, BUSY with a frame queued or a sequence
deferred, and LOAD INVALID_ARG for a bad profile; a profile is good exactly where every field of its encoding is in range, its
header mark and space are both 0 or neither, its two spaces differ under PULSE_DISTANCE, and its 12 codes lie within its bit
count. READ gives 0xFF or bytes 0..51 or 52..59. BOX_KEY is refused INVALID_ARG, TIMER_ACTIVE, BAD_STATE without a profile, BUSY
with 8 frames, else queues one frame. A frame is its transmission (header, the code's bits from the most significant, stop mark,
gap) repeated repeat-count times, and the output in each part and idle is that of the table of carrier and polarity; without a
profile it carries no carrier (log 40, the model's choice). A frame sent leaves the queue and the next is sent, out of STANDBY.
A retry after 1 s reports BOX_NO_PROFILE, queues the sequence if it fits, drops it with DEADLINE if the deadline has come, and
else waits another second; that it does nothing before 1 s is the model's choice (log 3). (Derived from R175, R176, R177, R178,
R179, R180, R182, R202, R214, notes/assumptions/3, notes/assumptions/40.) -/
def Obligations.BoxProfileAndKeysFillTheQueue : Prop :=
  ∀ (s : State) (p q : BoxProfile) (n key t0 : Nat) (d : Deferred), s.hears → s.pwr.power ≠ .standby →
    (s.takes →
      (s.mech.owner.isTimer = true → ∀ i ∈ [Instr.boxProfileLoad p, .boxProfileClear], refusedWith i 0x10 .timerActive [] s) ∧
      (s.mech.owner.isTimer = false →
        (s.box.queue ≠ [] ∨ s.box.deferred.isSome = true →
          ∀ i ∈ [Instr.boxProfileLoad p, .boxProfileClear], refusedWith i 0x10 .busy [] s) ∧
        (s.box.queue = [] → s.box.deferred = none →
          (BoxProfile.ok p = false → refusedWith (.boxProfileLoad p) 0x10 .invalidArg [] s) ∧
          (BoxProfile.ok p = true → exec (.boxProfileLoad p) s =
            .next ((s.onBox fun b => { b with profile := some p }).answered 0x10 .done .none []).closed) ∧
          exec .boxProfileClear s = .next ((s.onBox fun b => { b with profile := none }).answered 0x10 .done .none []).closed)) ∧
      (2 ≤ n → refusedWith (.boxProfileRead n) 0x10 .invalidArg [] s) ∧
      (n < 2 → s.box.profile = none → exec (.boxProfileRead n) s = .next (s.answered 0x10 .done .none [0xFF]).closed) ∧
      (s.box.profile = some p →
        exec (.boxProfileRead 0) s = .next (s.answered 0x10 .done .none ((profileBytes p).take 52)).closed ∧
        exec (.boxProfileRead 1) s = .next (s.answered 0x10 .done .none ((profileBytes p).drop 52)).closed) ∧
      (12 ≤ key → refusedWith (.boxKey key) 0x11 .invalidArg [] s) ∧
      (key < 12 →
        (s.mech.owner.isTimer = true → refusedWith (.boxKey key) 0x11 .timerActive [] s) ∧
        (s.mech.owner.isTimer = false →
          (s.box.profile = none → refusedWith (.boxKey key) 0x11 .badState [] s) ∧
          (s.box.profile = some p →
            (8 ≤ s.box.queue.length → refusedWith (.boxKey key) 0x11 .busy [] s) ∧
            (s.box.queue.length < 8 → exec (.boxKey key) s = .next ((s.onBox fun b =>
              { b with queue := b.queue ++ [{ key := key, code := p.codes.getD key 0, origin := .panel }],
                       sending := true }).answered 0x11 .done .none [byte (s.box.queue.length + 1)]).closed))))) ∧
    (BoxProfile.ok p = true ↔
      p.topBit = false ∧ p.carrier ≤ 4 ∧ p.bitField ≤ 24 ∧ 1 ≤ p.repeatField ∧ p.repeatField ≤ 3 ∧ 1 ≤ p.unit ∧ p.unit ≤ 255 ∧
      p.headerMark ≤ 255 ∧ p.headerSpace ≤ 255 ∧ p.stopMark ≤ 255 ∧ 1 ≤ p.gap ∧ p.gap ≤ 65535 ∧
      (p.biphase = true → 1 ≤ p.halfBit ∧ p.halfBit ≤ 255) ∧
      (p.biphase = false → 1 ≤ p.bitMark ∧ p.bitMark ≤ 255 ∧ 1 ≤ p.space0 ∧ p.space0 ≤ 255 ∧ 1 ≤ p.space1 ∧ p.space1 ≤ 255 ∧
        p.space0 ≠ p.space1) ∧
      (p.headerMark = 0 ↔ p.headerSpace = 0) ∧ p.codes.length = 12 ∧ ∀ c ∈ p.codes, c < 2 ^ (p.bitField + 8)) ∧
    (s.box.profile = none → s.irOutput n = .noCarrier) ∧
    (s.box.profile = some q →
      let idle : IrLine := if q.carrier = 4 then (if q.inverted then .high else .low) else .noCarrier
      let bit (one : Bool) : List IrPart :=
        if q.biphase then [{ kind := if one then .space else .mark, units := q.halfBit },
                           { kind := if one then .mark else .space, units := q.halfBit }]
        else [{ kind := .mark, units := q.bitMark }, { kind := .space, units := if one then q.space1 else q.space0 }]
      let transmission (code : Nat) : List IrPart :=
        (if q.headerMark = 0 ∧ q.headerSpace = 0 then [] else [{ kind := .mark, units := q.headerMark },
          { kind := .space, units := q.headerSpace }]) ++
        ((List.range (q.bitField + 8)).reverse.map fun i => bit (decide (code / 2 ^ i % 2 = 1))).flatten ++
        (if q.stopMark = 0 then [] else [{ kind := .mark, units := q.stopMark }]) ++ [{ kind := .gap, units := q.gap }]
      (s.box.sending = false → s.irParts = [] ∧ s.irOutput n = idle) ∧
      (∀ f rest, s.box.sending = true → s.box.queue = f :: rest →
        s.irParts = (List.replicate q.repeatField (transmission f.code)).flatten ∧
        (s.irParts.length ≤ n → s.irOutput n = idle) ∧
        (∀ part, s.irParts[n]? = some part → s.irOutput n =
          if q.carrier = 4 then (if (part.kind = .mark) ≠ (q.inverted = true) then .high else .low)
          else match part.kind with
            | .mark => if q.inverted then .noCarrier else .carrier
            | .space => if q.inverted then .carrier else .noCarrier
            | .gap => .noCarrier))) ∧
    (s.box.sending = false → exec .irFrameSent s = .next s.closed) ∧
    (s.box.sending = true → exec .irFrameSent s =
      .next (s.onBox fun b => { b with queue := b.queue.tail, sending := decide (b.queue.tail ≠ []) }).closed) ∧
    (s.box.deferred = some d → s.box.retry = some t0 →
      ((s.now - t0) * 1000 < 1000 * 32768 → exec .irRetryTimerExpiry s = .next s.closed) ∧
      (1000 * 32768 ≤ (s.now - t0) * 1000 →
        (s.box.profile = none → s.roomFor 1 → exec .irRetryTimerExpiry s =
          .next ((s.onBox fun b => { b with deferred := none, retry := none }).onLink fun l =>
            { l with notices := l.notices ++ [.boxNoProfile (.timer d.slot) d.channel] }).closed) ∧
        (s.box.profile = some q → d.channel ≤ 999 →
          let keys := (if q.minimal then (if d.channel < 10 then [] else if d.channel < 100 then [d.channel / 10]
              else [d.channel / 100, d.channel / 10 % 10]) ++ [d.channel % 10]
            else [d.channel / 100, d.channel / 10 % 10, d.channel % 10]) ++ (if q.enter then [10] else [])
          (s.box.queue.length + keys.length ≤ 8 → exec .irRetryTimerExpiry s = .next (s.onBox fun b =>
            { b with deferred := none, retry := none, sending := true,
                     queue := b.queue ++ keys.map fun k => { key := k, code := q.codes.getD k 0, origin := .timer d.slot } }).closed) ∧
          (8 < s.box.queue.length + keys.length → d.deadline * 1024 ≤ (s.clock.reading : Int) → s.roomFor 1 →
            exec .irRetryTimerExpiry s = .next ((s.onBox fun b => { b with deferred := none, retry := none }).onLink fun l =>
              { l with notices := l.notices ++ [.irDropped d.slot d.channel .deadline] }).closed) ∧
          (8 < s.box.queue.length + keys.length → (s.clock.reading : Int) < d.deadline * 1024 →
            exec .irRetryTimerExpiry s = .next (s.onBox fun b => { b with retry := some s.now }).closed))))

/-- The outlet is configured and switched by the host, follows the plan of the slot that holds it, and is on for at least 200
ms. CONFIG takes the ON codes 0..2 and the OFF codes 3..5, else INVALID_ARG; ON and OFF are refused TIMER_ACTIVE under TIMER,
else set the output and clear the timer, the pending OFF and the hold; READ changes nothing; every reply, a refusal's too, gives
output, hold and configuration. LEAD copies the configuration into the slot's plan, and with ON timepoint LEAD, as RECORD_START
does with ON timepoint RECORD_START once per grant, sets the output and the hold, starts the 200 ms timer and with OFF SAME
notes the end of the pulse. RECORD_END, where the plan of the slot that holds the outlet names it, and OCCURRENCE_END whatever
the plan, set the output OFF and clear the hold, or wait for the timer where it runs; OCCURRENCE_END removes the slot's plan,
and drops its deferred sequence with cause ENDED, that of the slot that holds the outlet too, an OUTLET_STATE (OFF) sent then
before IR_DROPPED. OUTLET_STATE is sent if the output changed. A timepoint of a slot without hold and plan changes nothing. At
200 ms the timer stops, and a pending OFF sets the output OFF and clears the hold, with OUTLET_STATE if the output was ON. The
model's choices: the timer does nothing before 200 ms (log 3); an OFF held back keeps its first timepoint, the end of a pulse
names its ON timepoint in OUTLET_STATE, and OUTLET_STATE comes before IR_DROPPED (log 49). (Derived from R182, R184, R185, R202,
notes/assumptions/3, notes/assumptions/49.) -/
def Obligations.OutletFollowsTheHostAndTimepoints : Prop :=
  ∀ (s : State) (a b n t0 : Nat) (point : Timepoint), s.hears →
    let tells (on : Bool) (x : Timepoint) (t : State) : Prop :=
      (s.box.output = on → t.link = s.link) ∧
      (s.box.output ≠ on → s.roomFor 1 → t.link.notices = s.link.notices ++ [.outletState on n x])
    (s.takes →
      (a ≤ 2 → 3 ≤ b → b ≤ 5 → ∃ x y, x.code = a ∧ y.code = b ∧ exec (.outletConfig a b) s =
        .next ((s.onBox fun c => { c with onPoint := x, offPoint := y }).answered 0x12 .done .none
          (flag s.box.output :: optional 1 (s.box.hold.map fun k => [byte k]) ++ [byte a, byte b])).closed) ∧
      (2 < a ∨ b < 3 ∨ 5 < b → refusedWith (.outletConfig a b) 0x12 .invalidArg (flag s.box.output ::
        optional 1 (s.box.hold.map fun k => [byte k]) ++ [byte s.box.onPoint.code, byte s.box.offPoint.code]) s) ∧
      (s.mech.owner.isTimer = true → ∀ i ∈ [Instr.outletOn, .outletOff], refusedWith i 0x12 .timerActive
        (flag s.box.output :: optional 1 (s.box.hold.map fun k => [byte k]) ++
          [byte s.box.onPoint.code, byte s.box.offPoint.code]) s) ∧
      (s.mech.owner.isTimer = false → ∀ j ∈ [(Instr.outletOn, true), (.outletOff, false)], exec j.1 s =
        .next ((s.onBox fun c => { c with output := j.2, minimum := none, offDue := none, hold := none }).answered 0x12 .done .none
          [flag j.2, 0, 0, byte s.box.onPoint.code, byte s.box.offPoint.code]).closed) ∧
      exec .outletRead s = .next (s.answered 0x12 .done .none (flag s.box.output ::
        optional 1 (s.box.hold.map fun k => [byte k]) ++ [byte s.box.onPoint.code, byte s.box.offPoint.code])).closed) ∧
    (s.box.offPoint ∈ [Timepoint.recordEnd, .occurrenceEnd, .same] →
      (s.box.onPoint = .lead →
        (timepoint n .lead s).box = { s.box with
          plan := some { slot := n, onPoint := .lead, offPoint := s.box.offPoint, acted := true }, output := true, hold := some n,
          minimum := some s.now, offDue := if s.box.offPoint = .same then some .lead else none } ∧
        tells true .lead (timepoint n .lead s)) ∧
      (s.box.onPoint ≠ .lead → timepoint n .lead s = s.onBox fun c =>
        { c with plan := some { slot := n, onPoint := c.onPoint, offPoint := c.offPoint, acted := false } })) ∧
    (∀ q, s.box.plan = some q → q.slot = n → q.offPoint ∈ [Timepoint.recordEnd, .occurrenceEnd, .same] →
      (q.onPoint = .recordStart → q.acted = false →
        (timepoint n .recordStart s).box = { s.box with
          plan := some { q with acted := true }, output := true, hold := some n,
          minimum := some s.now, offDue := if q.offPoint = .same then some .recordStart else none } ∧
        tells true .recordStart (timepoint n .recordStart s)) ∧
      (q.onPoint ≠ .recordStart ∨ q.acted = true → timepoint n .recordStart s = s) ∧
      (q.onPoint ∈ [Timepoint.none, .lead, .recordStart] → s.box.hold = some n → ∀ x ∈ [Timepoint.recordEnd, .occurrenceEnd],
        (x = .recordEnd → q.offPoint = .recordEnd) → (∀ d ∈ s.box.deferred, d.slot ≠ n) →
        let ends := if x = .occurrenceEnd then none else some q
        (s.box.minimum = none →
          (timepoint n x s).box = { s.box with output := false, hold := none, offDue := none, plan := ends } ∧
          tells false x (timepoint n x s)) ∧
        (s.box.minimum = some t0 → timepoint n x s = s.onBox fun c =>
          { c with offDue := some (c.offDue.getD x), plan := ends })) ∧
      (q.onPoint ∈ [Timepoint.none, .lead, .recordStart] → s.box.hold = some n → ∀ d, s.box.deferred = some d → d.slot = n →
        let told (first : List Notice) (u : State) : State :=
          (u.onBox fun c => { c with deferred := none, retry := none }).onLink fun l =>
            { l with notices := l.notices ++ first ++ [.irDropped n d.channel .ended] }
        (s.box.minimum = none → s.roomFor 2 → timepoint n .occurrenceEnd s =
          told (if s.box.output then [.outletState false n .occurrenceEnd] else [])
            (s.onBox fun c => { c with output := false, hold := none, offDue := none, plan := none })) ∧
        (s.box.minimum = some t0 → s.roomFor 1 → timepoint n .occurrenceEnd s =
          told [] (s.onBox fun c => { c with offDue := some (c.offDue.getD .occurrenceEnd), plan := none }))) ∧
      (q.onPoint ≠ .recordEnd → q.offPoint ≠ .recordEnd → timepoint n .recordEnd s = s)) ∧
    (s.box.hold ≠ some n → (∀ q ∈ s.box.plan, q.slot ≠ n) →
      (point ≠ .lead → point ≠ .occurrenceEnd → timepoint n point s = s) ∧
      ((∀ d ∈ s.box.deferred, d.slot ≠ n) → timepoint n .occurrenceEnd s = s) ∧
      (∀ d, s.box.deferred = some d → d.slot = n → s.roomFor 1 → timepoint n .occurrenceEnd s =
        ((s.onBox fun c => { c with deferred := none, retry := none }).onLink fun l =>
          { l with notices := l.notices ++ [.irDropped n d.channel .ended] }))) ∧
    (s.box.minimum = none → exec .minimumOnTimerExpiry s = .next s.closed) ∧
    (s.box.minimum = some t0 →
      ((s.now - t0) * 1000 < 200 * 32768 → exec .minimumOnTimerExpiry s = .next s.closed) ∧
      (200 * 32768 ≤ (s.now - t0) * 1000 →
        (s.box.offDue = none → exec .minimumOnTimerExpiry s = .next (s.onBox fun c => { c with minimum := none }).closed) ∧
        (s.box.offDue = some point → s.box.hold = some n → s.roomFor 1 → exec .minimumOnTimerExpiry s =
          .next ((s.onBox fun c => { c with minimum := none, output := false, hold := none, offDue := none }).onLink fun l =>
            { l with notices := l.notices ++ (if s.box.output then [.outletState false n point] else []) }).closed)))

/-- Power key and cassette wake the deck, the key asks for standby in ON, SUP_GOOD brings the supply up, its failure ends in
STANDBY. The power key in STANDBY with the phase OFF raises the supply with the ON mark set, if its enable is set; during a
raise and a standby stop it changes nothing; in TIMER_ON it makes ON with the supply up, else sets the ON mark; in ON under
TIMER it makes TIMER_ON; in ON under another owner it is a standby request: in a raise the release, STANDBY with IR_FLUSHED and
POWER_STATE (KEY), with the supply up and the deck in HALT the standby stop, which unthreads. In STANDBY a change of the
cassette-in switch, closing or opening, wakes with cause CASSETTE where its enable is set and the phase is OFF, and else changes
the lines alone, the tab line absent once the switch is open by the model's choice of log 5. SUP_GOOD rising in RAISING makes
the phase UP, ON with the ON mark, starts INIT and a recovery run; in another phase it changes the pin alone. A raise of 2 s
fails: STANDBY with IR_FLUSHED and SUPPLY_FAULT. SUP_GOOD falling in UP or STOPPING makes STANDBY with SUPPLY_FAIL, the
mechanism IDLE or EMPTY with nothing in flight, the tuner OFF; the fault code is kept with a cassette in and from JAMMED, as the
model chooses between R5 and R30 (log 31). The model's other choices: the raise timer changes nothing before its 2 s (log 3);
the key in TIMER_ON during a raise replaces the kept cause though the mark is set (log 50); IR_FLUSHED comes before POWER_STATE
and SUPPLY_FAULT, an order R204 leaves open between blocks (log 9). No entry has an occurrence here, and where the supply moves
no sequence is deferred. (Derived from R30, R98, Chapter 10 section 10.1, R191, R192, R193, notes/assumptions/3,
notes/assumptions/5, notes/assumptions/9, notes/assumptions/31, notes/assumptions/50.) -/
def Obligations.WakesRaiseTheSupplyAndFailuresDropIt : Prop :=
  ∀ (s : State) (t0 : Nat), s.hears → s.noOccurrence → s.sched.due = none →
    (s.pwr.power = .standby → s.pwr.phase = .off → s.link.settings.keyWake = true → s.pins.supGood = false →
      exec .powerKeyPress s = .next (s.onPwr fun p => { p with phase := .raising, timer := some s.now, onMark := true,
                                                               onCause := .key, resetMark := false }).closed) ∧
    (s.pwr.power = .standby → s.link.settings.keyWake = false ∨ s.pwr.phase = .raising →
      exec .powerKeyPress s = .next s.closed) ∧
    (s.pwr.power ≠ .standby → s.pwr.phase = .stopping → exec .powerKeyPress s = .next s.closed) ∧
    (s.pwr.power = .timerOn → s.link.settings.keyWake = true →
      (s.pwr.phase = .up → s.roomFor 1 → exec .powerKeyPress s =
        .next ((s.onPwr fun p => { p with power := .on, resetMark := false, onOpen := false }).onLink fun l =>
          { l with notices := l.notices ++ [.powerState .on .timerOn .key .none .none] }).closed) ∧
      (s.pwr.phase = .raising → exec .powerKeyPress s =
        .next (s.onPwr fun p => { p with onMark := true, onCause := .key, resetMark := false }).closed)) ∧
    (s.pwr.power = .on → s.pwr.phase = .up → s.mech.owner.isTimer = true → s.pwr.onOpen = false → s.roomFor 1 →
      exec .powerKeyPress s = .next ((s.onPwr fun p => { p with power := .timerOn, onMark := false, resetMark := false }).onLink fun l =>
        { l with notices := l.notices ++ [.powerState .timerOn .on .key .none .none] }).closed) ∧
    (s.pwr.power = .on → s.mech.owner.isTimer = false →
      (s.pwr.phase = .raising → s.box.deferred = none → s.roomFor 2 → exec .powerKeyPress s =
        .next (((s.onPwr fun p => { p with power := .standby, phase := .off, timer := none, onMark := false, resetMark := false,
                                           onOpen := false, stopOpen := false }).onBox fun b =>
            { b with queue := [], sending := false }).onLink fun l =>
            { l with notices := l.notices ++
                [.irFlushed s.box.queue.length, .powerState .standby .on .key .none .none] }).closed) ∧
      (s.pwr.phase = .up → s.mech.state = .halt → s.mech.inFlight = none → s.mech.slot = none → s.servo.reference = .internal →
        ∃ t, exec .powerKeyPress s = .next t ∧ t.pwr = { s.pwr with phase := .stopping, stopCause := .key, resetMark := false } ∧
          t.mech.standbyStop = true ∧ t.mech.state = .unthreading ∧ t.mech.target = .idle ∧ t.mech.owner = s.mech.owner ∧
          t.link.notices = s.link.notices)) ∧
    (s.pwr.power = .standby → (s.mech.state = .idle ∨ s.mech.state = .empty) →
      ∀ (tab closing : Bool), let pins := s.onPins fun p => { p with cassetteIn := closing, tabSwitch := closing && tab }
        let i : Instr := if closing then .cassetteInClose tab else .cassetteInOpen
        (s.pwr.phase = .off → s.link.settings.casWake = true → s.pins.supGood = false →
          exec i s = .next (pins.onPwr fun p => { p with phase := .raising, timer := some s.now, onMark := true,
                                                         onCause := .cassette, resetMark := false }).closed) ∧
        (s.pwr.phase ≠ .up → s.pwr.phase ≠ .stopping → s.link.settings.casWake = false ∨ s.pwr.phase = .raising →
          exec i s = .next pins.closed)) ∧
    (s.pwr.phase ≠ .raising → exec .supGoodRise s = .next (s.onPins fun p => { p with supGood := true }).closed) ∧
    (s.pwr.phase = .raising → s.mech.recoveryPending = true → s.mech.state = .idle → s.pins.cam ∉ [0, 1, 7] → s.mech.slot = none →
      ∃ t, exec .supGoodRise s = .next t ∧ t.pwr.phase = .up ∧ t.pwr.timer = none ∧ t.pwr.onMark = false ∧
        t.pwr.power = (if s.pwr.onMark then .on else s.pwr.power) ∧ t.tuner.state = .init ∧ t.mech.recoveryPending = false ∧
        t.mech.recoveryRun = true ∧ t.mech.state = .unthreading ∧ t.mech.target = .idle ∧
        (s.pwr.onMark = true → s.roomFor 1 → .powerState .on s.pwr.power s.pwr.onCause .none .none ∈ t.link.notices)) ∧
    (s.pwr.phase = .raising → s.pwr.timer = some t0 → s.box.deferred = none →
      ((s.now - t0) * 1000 < 2000 * 32768 → exec .supplyTimerExpiry s = .next s.closed) ∧
      (2000 * 32768 ≤ (s.now - t0) * 1000 → s.roomFor 2 → exec .supplyTimerExpiry s =
        .next (((s.onPwr fun p => { p with power := .standby, phase := .off, timer := none, onMark := false, resetMark := false,
                                           onOpen := false, stopOpen := false }).onBox fun b =>
            { b with queue := [], sending := false }).onLink fun l =>
            { l with notices := l.notices ++
                [.irFlushed s.box.queue.length, .supplyFault s.pwr.power s.pwr.onMark false] }).closed)) ∧
    (s.pwr.phase = .off ∨ s.pwr.phase = .raising →
      exec .supplyFailure s = .next (s.onPins fun p => { p with supGood := false }).closed) ∧
    (s.pwr.phase = .up ∨ s.pwr.phase = .stopping → s.box.deferred = none → s.roomFor 2 →
      ∃ t, exec .supplyFailure s = .next t ∧ t.pwr.power = .standby ∧ t.pwr.phase = .off ∧ t.pwr.onMark = false ∧
        t.box.queue = [] ∧ t.box.sending = false ∧ t.mech.state = (if s.pins.cassetteIn then .idle else .empty) ∧
        t.mech.recoveryPending = true ∧ t.mech.inFlight = none ∧ t.mech.slot = none ∧ t.mech.recAmp = false ∧
        (s.pins.cassetteIn = true ∨ s.mech.state = .jammed → t.mech.fault = s.mech.fault) ∧ t.tuner.state = .off ∧
        .supplyFail s.pwr.power s.mech.owner (decide (s.pwr.phase = .stopping)) ∈ t.link.notices)

/-- POWER READ, ON and STANDBY act by the state they find, other requests wake the deck, a standby stop is released or
withdrawn. READ is answered DONE with state, phase, ON mark, reset mark, wake enables and reset record. ON is BUSY during a
standby stop, DONE in ON, makes TIMER_ON ON with the supply up (DONE), sets the ON mark in a raise under TIMER_ON (ACCEPTED);
completed in STANDBY with the phase OFF it raises the supply as a wake of cause LINK (ACCEPTED). STANDBY under TIMER makes ON
TIMER_ON (DONE); with the supply up, an owner other than TIMER and the deck in HALT it starts a standby stop that unthreads
(ACCEPTED); in STANDBY with the phase OFF it changes nothing but the reset mark (DONE); in a raise under STANDBY it releases
(DONE). Every request but POWER and RESTART that is completed in STANDBY (ENTRY_WRITE and ENABLE here with the clock INVALID,
CLOCK_SET and the other entry controls with every entry EMPTY, DISABLED or DONE) wakes the deck with cause LINK where the phase
is OFF, changes nothing of PWR in a raise, and is answered, a mechanism command with BAD_STATE. Where SUP_GOOD is high already,
a mechanism command is refused so all the same and POWER ON is ACCEPTED in STANDBY and RAISING, and the supply is up, and the
state ON, after it: the model's choice of log 51. A standby stop whose UNTHREADING reaches SEATED is released: STANDBY,
IR_FLUSHED, then POWER_STATE with the request's cause and the result DONE; one whose UNTHREADING times out ends so too, with
JAMMED and CAM_TIMEOUT behind MECH_FAULT, the mechanism IDLE or EMPTY with the fault code kept, into EMPTY too by the model's
choice between R5 and R30 (log 31). The grant of a due fixed entry withdraws a standby stop: TIMER_ON with the supply up,
POWER_STATE where the state changed or a POWER STANDBY waits, the UNTHREADING running on with RECORD start-paused stored behind
it. The model's other choices: the reply bytes of ON and STANDBY (state, phase, ON mark; log 26); ON in a raise under TIMER_ON
replaces the kept cause though the mark is set (log 50); IR_FLUSHED then POWER_STATE, behind MECH_FAULT (log 9). (Derived from
R6, Chapter 1 section 1.12, R183, R191, R193, R194, R195, notes/assumptions/9, notes/assumptions/26, notes/assumptions/31,
notes/assumptions/50, notes/assumptions/51.) -/
def Obligations.PowerRequestsActByStateAndPhase : Prop :=
  (∀ s : State, s.hears → s.link.reply = none → s.link.holding = [] →
    (s.pwr.power ≠ .standby →
      (s.pwr.phase = .stopping → refusedWith .powerRequestOn 0x17 .busy [byte s.pwr.power.code, 3, flag s.pwr.onMark] s) ∧
      (s.pwr.power = .on → s.pwr.phase ≠ .stopping → exec .powerRequestOn s =
        .next (s.answered 0x17 .done .none [byte s.pwr.power.code, byte s.pwr.phase.code, flag s.pwr.onMark]).closed) ∧
      (s.pwr.power = .timerOn → s.pwr.phase = .up → s.roomFor 1 → exec .powerRequestOn s =
        .next (((s.onPwr fun p => { p with power := .on, resetMark := false, onOpen := false }).onLink fun l =>
            { l with notices := l.notices ++ [.powerState .on .timerOn .request .none .none] }).answered 0x17 .done .none
          [byte Power.on.code, byte Phase.up.code, flag s.pwr.onMark]).closed) ∧
      (s.pwr.power = .timerOn → s.pwr.phase = .raising → exec .powerRequestOn s =
        .next ((s.onPwr fun p => { p with onMark := true, onCause := .request, resetMark := false, onOpen := true }).answered
          0x17 .accepted .none [byte Power.timerOn.code, byte Phase.raising.code, 1]).closed) ∧
      (s.pwr.power = .on → s.pwr.phase = .up → s.mech.owner.isTimer = true → s.pwr.onOpen = false → s.roomFor 1 →
        exec .powerRequestStandby s =
        .next (((s.onPwr fun p => { p with power := .timerOn, onMark := false, resetMark := false }).onLink fun l =>
            { l with notices := l.notices ++ [.powerState .timerOn .on .request .none .none] }).answered 0x17 .done .none
          [byte Power.timerOn.code, byte Phase.up.code, 0]).closed) ∧
      (s.pwr.phase = .up → s.mech.owner.isTimer = false → s.mech.state = .halt → s.mech.slot = none → s.mech.inFlight = none →
        ∃ t, exec .powerRequestStandby s = .next t ∧
          t.pwr = { s.pwr with phase := .stopping, stopCause := .request, resetMark := false, stopOpen := true } ∧ t.mech.standbyStop = true ∧ t.mech.state = .unthreading ∧
          t.mech.target = .idle ∧ t.link.reply =
            some { kind := 0x17, result := .accepted, reason := .none, data := [byte s.pwr.power.code, byte Phase.stopping.code, flag s.pwr.onMark] })) ∧
    (s.pwr.power = .standby →
      (s.pwr.phase = .off → s.pins.supGood = false → exec .powerRequestOn s =
        .next ((s.onPwr fun p => { p with phase := .raising, timer := some s.now, onMark := true, onCause := .link,
                                          resetMark := false, onOpen := true }).answered 0x17 .accepted .none
          [byte Power.standby.code, byte Phase.raising.code, 1]).closed) ∧
      (s.pwr.phase = .off → exec .powerRequestStandby s =
        .next ((s.onPwr fun p => { p with resetMark := false }).answered 0x17 .done .none
          [byte Power.standby.code, byte Phase.off.code, flag s.pwr.onMark]).closed) ∧
      (s.pwr.phase = .raising → s.pwr.onOpen = false → exec .powerRequestStandby s =
        .next ((s.onPwr fun p => { p with phase := .off, onMark := false, timer := none, resetMark := false }).answered
          0x17 .done .none [byte Power.standby.code, byte Phase.off.code, 0]).closed)) ∧
    exec .powerRequestRead s = .next (s.answered 0x17 .done .none
      ([byte s.pwr.power.code, byte s.pwr.phase.code, flag s.pwr.onMark, flag s.pwr.resetMark, flag s.link.settings.keyWake,
        flag s.link.settings.casWake, byte s.pwr.record.cause.code, flag s.pwr.record.wasStandby,
        flag s.pwr.record.clockValid])).closed) ∧
  (∀ (s : State) (n k : Nat) (v : Int) (f : Bool) (src : Source) (m : TrackingArg) (mv trim : Option Int) (p : PresetRecord)
    (time : Option DateTime) (e : EntryRecord) (stop : DateTime) (x : BoxProfile) (b : SettingsBytes),
    s.hears → s.link.reply = none → s.link.holding = [] → s.pwr.power = .standby → s.noOccurrence →
    s.pins.supGood = false → s.pwr.phase = .off ∨ s.pwr.phase = .raising →
    let woken := if s.pwr.phase = .raising then s else s.onPwr fun p =>
      { p with phase := .raising, timer := some s.now, onMark := true, onCause := .link, resetMark := false }
    (s.mech.state ≠ .jammed → s.mech.recoveryPending = true → s.mech.slot = none → s.mech.inFlight = none →
      s.mech.state.transition = false → s.mech.standbyStop = false → s.mech.owner.isTimer = false → s.mark.search = none →
      ∀ i ∈ [Instr.play, .record false, .record true, .pause, .stop false, .stop true, .cue, .review, .fwind, .rwind, .eject],
        exec i s = .next (woken.answered 1 .refused .badState []).closed) ∧
    let wakes (i : Instr) : Prop := ∃ t, exec i s = .next t ∧ t.pwr = woken.pwr ∧ t.link.reply.isSome = true
    (∀ i ∈ [Instr.indexSearch v f, .counterSearch v f, .blankSearch, .indexScan, .markList n, .markWrite n k, .markErase,
        .tracking m mv, .zero, .setMemory v, .clearMemory, .position, .tunePreset n, .tuneChannel n k, .tuneDirect n, .tuneUp,
        .tuneDown, .source src, .presetWrite n p, .presetRead n, .scanStart n, .scanStop, .clockRead, .entryRead n,
        .boxProfileLoad x, .boxProfileClear, .boxProfileRead n, .boxKey n, .outletConfig n k, .outletOn, .outletOff, .outletRead,
        .settingsWrite b, .settingsRead, .status], wakes i) ∧
    (s.clock.valid = false → ∀ i ∈ [Instr.entryWrite n e, .enable n], wakes i) ∧
    ((∀ c ∈ s.sched.slots, c.state ∈ [EntryState.empty, .disabled, .done]) →
      ∀ i ∈ [Instr.cancel n, .delete n, .disable n, .extend n stop, .clockSet time trim], wakes i)) ∧
  (∀ s : State, s.hears → s.link.reply = none → s.link.holding = [] → s.pwr.power = .standby → s.pwr.phase = .off →
    s.pins.supGood = true → s.noOccurrence → s.mech.recoveryPending = true → s.mech.state = .idle → s.pins.cam ∉ [0, 1, 7] →
    s.mech.slot = none → s.mech.inFlight = none → s.mech.standbyStop = false → s.mech.owner.isTimer = false →
    s.mark.search = none → s.roomFor 1 →
    let rises (i : Instr) (kind : Byte) (result : Result) (why : Reason) (data : List Byte) : Prop :=
      ∃ t, exec i s = .next t ∧ t.link.reply = some { kind := kind, result := result, reason := why, data := data } ∧
        t.pwr.power = .on ∧ t.pwr.phase = .up ∧ t.pwr.onMark = false ∧ t.pwr.onOpen = false ∧ t.mech.recoveryRun = true ∧
        t.mech.state = .unthreading ∧ t.tuner.state = .init ∧ .powerState .on .standby .link .none .none ∈ t.link.notices
    (∀ i ∈ [Instr.play, .record false, .record true, .pause, .stop false, .stop true, .cue, .review, .fwind, .rwind, .eject],
      rises i 1 .refused .badState []) ∧
    rises .powerRequestOn 0x17 .accepted .none [byte Power.standby.code, byte Phase.raising.code, 1]) ∧
  (∀ s : State, s.hears → s.mech.state = .unthreading → s.mech.target = .idle → s.mech.camTarget = some 1 →
    s.mech.inFlight = none → s.mech.slot = none → s.mech.standbyStop = true → s.mech.recoveryRun = false →
    s.mech.cause = none → s.pwr.phase = .stopping → s.mark.search = none → s.mark.writer = .idle → s.pos.motion = none →
    s.servo.reference = .internal → s.noOccurrence → s.box.deferred = none → s.tuner.tune = none → s.tuner.scan = none →
    s.roomFor 3 →
    let released (t : State) (before : List Notice) (r : StopResult) (f : FaultCode) : Prop :=
      t.pwr = { s.pwr with power := .standby, phase := .off, timer := none, onMark := false, resetMark := false, onOpen := false,
                           stopOpen := false } ∧
      t.box = { s.box with queue := [], sending := false } ∧
      t.link.notices = s.link.notices ++ before ++ [.irFlushed s.box.queue.length,
        .powerState .standby s.pwr.power s.pwr.stopCause r f] ∧
      t.mech.state = (if s.pins.cassetteIn then .idle else .empty) ∧ t.mech.standbyStop = false ∧
      t.mech.recoveryPending = true ∧ t.mech.camTarget = none ∧ t.mech.motor = .off ∧ t.mech.inFlight = none ∧
      t.tuner.state = .off ∧ t.clock = s.clock ∧ t.sched.slots = s.sched.slots
    (s.pins.cassetteIn = true →
      ∃ t, exec (.camTargetReached 1) s = .next t ∧ released t [] .done s.mech.fault ∧ t.mech.fault = s.mech.fault) ∧
    (∀ t0, s.mech.camTimer = some t0 → 4000 * 32768 ≤ (s.now - t0) * 1000 →
      ∃ t, exec .camTimeout s = .next t ∧ released t [.mechFault .camTimeout .jammed] .jammed .camTimeout ∧
        t.mech.fault = .camTimeout)) ∧
  (∀ (s : State) (n t0 : Nat) (k : Slot) (e : Entry) (o : Occurrence) (p : Preset), s.hears → s.sched.due = some t0 → t0 ≤ s.now →
    s.clock.valid = true → s.hasSlot n k → k.state = .armed → k.entry = some e → e.labelFollow = false → k.occ = some o →
    o.claim * 1024 ≤ (s.clock.reading : Int) → (s.clock.reading : Int) < o.endAt * 1024 → s.onlyOccurrence n →
    s.sched.holder = none → s.mech.owner = .none → s.mech.state = .unthreading → s.mech.target = .idle →
    s.mech.inFlight = none → s.mech.slot = none → s.mech.standbyStop = true → s.mech.recoveryPending = false →
    s.mech.recoveryRun = false → s.mech.junction = none → s.mark.search = none → s.pwr.phase = .stopping →
    s.pwr.power ≠ .standby → s.mech.tab = true → s.pins.leaderEnd = false → s.preset e.preset = some p → p.box = none →
    s.tuner.scan = none → (s.guardSpan = none ∨ e.policy = .stop) → s.roomFor 4 →
    ∃ t, exec .dueTimerExpiry s = .next t ∧ t.pwr = { s.pwr with phase := .up, power := .timerOn, stopOpen := false,
                                                                 resetMark := false } ∧
      t.mech.standbyStop = false ∧ t.mech.state = .unthreading ∧ t.mech.target = .idle ∧ t.mech.camTarget = s.mech.camTarget ∧
      t.mech.owner = .timer n ∧
      t.mech.slot = some { what := .record, paused := true, origin := .timer n, tag := s.sched.nextTag } ∧
      (s.pwr.power ≠ .timerOn ∨ s.pwr.stopOpen = true →
        .powerState .timerOn s.pwr.power .claim .none .none ∈ t.link.notices))

/-- PIN and RESTART leave MECH, SERVO, POS, MARK, TUNER, LDD and CLOCK as their tables say. PIN, whether RESET_N was seen low before
it or stands for the whole pulse (log 10, the model's choice), and RESTART keep the clock but for trim and crystal count, the
presets, the host source and the selection (a scan's saved one), the tracking mode and manual value and the record speed of the
settings. A raise starts its 2 s again, or is up at once where SUP_GOOD is high (log 11, the model's choice); UP and STOPPING
are UP, with the recovery run and INIT started and the deck unthreading where the cam is not at its eject or idle place; else
MECH, SERVO and POS are at their reset values and the tuner is OFF. MARK and LDD are at their reset values. No next occurrence
is due here, and a raise that is up at once has no ON mark. A channel sequence not yet handed to BOX is dropped (log 47, the
model's choice: R115's table does not name it). (Derived from R32, R51, R73, R94, R115, R128, R139, R196, R197,
notes/assumptions/10, notes/assumptions/11, notes/assumptions/47.) -/
def Obligations.ResetsLeaveTheDeckAndTheTuner : Prop :=
  ∀ s : State, s.reports = [] →
    ((∀ h, s.sched.holder = some h → 1 ≤ h.slot) →
      (s.clock.valid = true → ∀ k ∈ s.sched.slots, ∀ e ∈ k.entry, ∀ d ∈ [k.lastDate, k.date],
        ∀ o ∈ nextOcc e d s.clock.reading, s.reachedInstant o.claim = false) →
      (s.pwr.phase = .raising → s.pins.supGood = true → s.pwr.onMark = false) →
      ∀ j ∈ [(Instr.pinReset, ResetKind.pin), (.restart, .restart)],
        (j.2 = .restart → s.pins.resetLow = false ∧ s.link.reply = none ∧ s.link.holding = []) → ∃ t, exec j.1 s = .next t ∧
        (s.pwr.phase = .off ∨ s.pwr.phase = .raising ∧ s.pins.supGood = false → t.mech = Mech.reset s.pins.cassetteIn ∧
          t.servo = Servo.reset s.link.settings.recordSpeed s.servo.tracking.mode s.servo.tracking.manual ∧
          t.pos = Pos.reset ∧ t.tuner.state = .off ∧ t.pwr.phase = s.pwr.phase ∧
          t.pwr.timer = (if s.pwr.phase = .raising then some 0 else none)) ∧
        (s.pwr.phase = .up ∨ s.pwr.phase = .stopping ∨ s.pwr.phase = .raising ∧ s.pins.supGood = true →
          s.pins.cam ∉ [0, 1] → t.tuner.state = .init ∧ t.pwr.phase = .up ∧ t.pwr.timer = none ∧
          t.mech.state = .unthreading ∧ t.mech.target = .idle ∧ t.mech.recoveryPending = false ∧ t.mech.recoveryRun = true ∧
          t.mech.standbyStop = false ∧ t.mech.owner = .none ∧ t.mech.inFlight = none ∧ t.mech.slot = none ∧ t.mech.fault = .none ∧
          t.pos.counter = 0) ∧
        (s.pins.cam ∉ [0, 1] ∨ s.pwr.phase = .off ∨ s.pwr.phase = .raising ∧ s.pins.supGood = false →
          t.pins = { s.pins with resetLow := false } ∧ t.mark = Mark.reset ∧ t.ldd = Ldd.reset ∧
          t.tuner.presets = s.tuner.presets ∧ t.tuner.hostSource = s.tuner.hostSource ∧ t.tuner.selected = s.tuner.hostSource ∧
          t.tuner.selection = (match s.tuner.scan with | some c => c.saved | none => s.tuner.selection) ∧
          t.tuner.scan = none ∧ t.tuner.tune = none ∧ t.tuner.boxSend = false ∧
          t.clock = { s.clock with trimCount := 0, crystal := 0 } ∧ t.pending = s.pending))

/-- POWER_ON leaves the reset state; PIN and RESTART end a held occurrence with RESET and keep the host's settings; RESET_N low
stops the outputs. POWER_ON gives the reset state, the mechanism EMPTY or IDLE by the cassette switch; that the lines keep their
levels (log 4) and a held RESET_N ends (log 38) is the model's choice. PIN, whether RESET_N was seen low before it or stands for
the whole pulse (log 10, the model's choice), and RESTART keep the programme: an occurrence that held the recorder ends with
RESET and its recorded seconds, ONCE to DONE, others to ARMED; ARMED and BLOCKED entries are ARMED anew, DONE if nothing is to
come, without MISSED (log 37, the model's choice); the rest of SCHED is at its reset value. BOX keeps the profile and the outlet
configuration alone, LINK the settings alone, with BOOT being sent. The power state and ON mark stay, the post-reset standby
mark is set in TIMER_ON and after STOPPING, and the record is formed, was-standby being taken where RESET_N went low if it was
seen. No next occurrence is due here, and a raise that is up at once has no ON mark. RESET_N low turns off motor, reels,
amplifier and emitter and keeps the clock; while it is low the events named change nothing, and a second boundary moves the
clock alone (log 10, the model's choice). (Derived from R174, R187, R196, R197, R208, R210, notes/assumptions/4,
notes/assumptions/10, notes/assumptions/37, notes/assumptions/38.) -/
def Obligations.ResetsEndOccurrencesAndKeepTheSettings : Prop :=
  ∀ (s : State) (p : Packet), s.reports = [] →
    exec .powerOnReset s = .next ({ State.reset with
      pins := { s.pins with resetLow := false }, mech := Mech.reset s.pins.cassetteIn, pending := s.pending } : State).closed ∧
    ((∀ h, s.sched.holder = some h → 1 ≤ h.slot) →
      (s.clock.valid = true → ∀ k ∈ s.sched.slots, ∀ e ∈ k.entry, ∀ d ∈ [k.lastDate, k.date],
        ∀ o ∈ nextOcc e d s.clock.reading, s.reachedInstant o.claim = false) →
      (s.pwr.phase = .raising → s.pins.supGood = true → s.pwr.onMark = false) →
      s.pins.cam ∉ [0, 1] ∨ s.pwr.phase = .off ∨ s.pwr.phase = .raising ∧ s.pins.supGood = false →
      ∀ j ∈ [(Instr.pinReset, ResetKind.pin), (.restart, .restart)],
        (j.2 = .restart → s.pins.resetLow = false ∧ s.link.reply = none ∧ s.link.holding = []) → ∃ t, exec j.1 s = .next t ∧
        t.sched = { Sched.reset with slots := t.sched.slots, due := t.sched.due } ∧ t.sched.slots.length = 16 ∧
        (∀ n, 1 ≤ n → n ≤ 16 →
          ((s.slot n).state ∈ [EntryState.empty, .disabled, .done] → t.slot n = { s.slot n with occ := none }) ∧
          ∀ e, (s.slot n).entry = some e →
            ((s.slot n).state = .armed ∨ (s.slot n).state = .blocked →
              (∀ o, nextOcc e (s.slot n).lastDate s.clock.reading = some o →
                t.slot n = { s.slot n with state := .armed, occ := some o }) ∧
              (nextOcc e (s.slot n).lastDate s.clock.reading = none →
                t.slot n = { s.slot n with state := .done, occ := none })) ∧
            ((s.slot n).state ∈ [EntryState.watching, .preparing, .recording, .held] →
              (e.repeats = .once → t.slot n = { s.slot n with state := .done, lastDate := (s.slot n).date, outcome := .reset,
                                                              recSeconds := s.recordedSeconds n, occ := none }) ∧
              (e.repeats ≠ .once → ∀ o, nextOcc e (s.slot n).date s.clock.reading = some o →
                t.slot n = { s.slot n with state := .armed, lastDate := (s.slot n).date, outcome := .reset,
                                           recSeconds := s.recordedSeconds n, occ := some o }))) ∧
        t.box = { Box.reset with profile := s.box.profile, onPoint := s.box.onPoint, offPoint := s.box.offPoint } ∧
        t.pwr.power = s.pwr.power ∧ t.pwr.onMark = s.pwr.onMark ∧ t.pwr.resetFrom = none ∧
        t.pwr.resetMark = (decide (s.pwr.power = .timerOn) || decide (s.pwr.phase = .stopping)) ∧
        t.pwr.record = { cause := j.2, clockValid := s.clock.valid, wasStandby :=
          if s.pins.resetLow then s.pwr.resetFrom.getD (decide (s.pwr.power = .standby)) else decide (s.pwr.power = .standby) } ∧
        t.link = { Link.reset s.link.settings with sending := some .boot }) ∧
    (s.pins.resetLow = false → ∃ t, exec .resetLineLow s = .next t ∧ t.pins = { s.pins with resetLow := true } ∧
      t.mech.motor = .off ∧ t.mech.reel = .off ∧ t.mech.recAmp = false ∧ t.box = { s.box with sending := false } ∧
      t.link = { s.link with sending := none } ∧ t.clock = s.clock ∧
      t.pwr = { s.pwr with resetFrom := some (decide (s.pwr.power = .standby)) } ∧ t.pending = s.pending) ∧
    (s.pins.resetLow = true →
      (∀ i ∈ [Instr.powerKeyPress, .stop false, .haltTimerExpiry, .capstanFgPulse 1000000, .tunerTransactionEnd none,
        .lineDataPacket p, .dueTimerExpiry, .irFrameSent, .byteReceived 0xA6, .txFrameEnd, .resetLineLow],
        exec i s = .next s) ∧
      ∃ t, exec .secondBoundary s = .next t ∧ t = { s with clock := t.clock } ∧
        t.clock.time = (if s.clock.time = lastTime then firstTime else nextSecond s.clock.time))

/-- The receiver assembles frames byte by byte, abandons and counts broken ones, and a complete frame is judged and acts as its
request. In HUNT only 0xA6 opens a frame. LENGTH keeps 0..60; 61..255 abandons the frame and counts it, 0xA6 being taken as a
new lead. KIND is kept, then PAYLOAD or CHECK by the length; each byte kept restarts the gap timer. The byte in CHECK completes
the frame: with a bad sum it is answered BAD_FRAME, an unknown kind UNKNOWN, a payload that is no request INVALID_ARG, each with
the kind received; a payload that is a request acts as that request does. A MECH request coded outside the codes arrives as it
is taken: where its layout is whole (the command code and, for RECORD and STOP, the flag) it cancels a search with
SEARCH_CANCELLED before that answer, and where it is shorter, as every request of another kind, it leaves the search. A missing
stop bit abandons a frame outside HUNT, and so does more than 10 ms without a byte; that GAP_TIMEOUT before changes nothing is
the model's choice (log 3). FRAME_COMPLETE in no CHECK changes nothing. Which payloads are requests is partly the model's choice
(log 27). (Derived from R92, R198, R199, R201, R202, notes/assumptions/3, notes/assumptions/27.) -/
def Obligations.ReceiverAssemblesAndJudgesFrames : Prop :=
  ∀ (s : State) (b kind : Byte) (len t0 : Nat) (bytes : List Byte), s.hears →
    let put (r : Receiver) : State := s.onLink fun l => { l with receiver := r, gap := some s.now }
    let hunting : State := s.onLink fun l => { l with receiver := .hunt, gap := none }
    let abandoned : State := hunting.onLink fun l => { l with framing := satInc 255 l.framing }
    (s.link.receiver = .hunt →
      (b = 0xA6 → exec (.byteReceived b) s = .next (put .length).closed) ∧
      (b ≠ 0xA6 → exec (.byteReceived b) s = .next s.closed) ∧
      exec (.frameAbandoned .missingStop) s = .next s.closed ∧ exec .receiveGapTimeout s = .next s.closed) ∧
    (s.link.receiver = .length →
      (b.toNat ≤ 60 → exec (.byteReceived b) s = .next (put (.kind b.toNat)).closed) ∧
      (60 < b.toNat → exec (.frameAbandoned (.badLength b)) s = exec (.byteReceived b) s ∧
        (b ≠ 0xA6 → exec (.byteReceived b) s = .next abandoned.closed) ∧
        (b = 0xA6 → exec (.byteReceived b) s =
          .next ((put .length).onLink fun l => { l with framing := satInc 255 l.framing }).closed))) ∧
    (s.link.receiver = .kind len → exec (.byteReceived b) s =
      .next (put (if len = 0 then .check 0 b [] else .payload len b [])).closed) ∧
    (s.link.receiver = .payload len kind bytes → exec (.byteReceived b) s =
      .next (put (if bytes.length + 1 < len then .payload len kind (b :: bytes) else .check len kind (b :: bytes))).closed) ∧
    (s.link.receiver ≠ .hunt →
      exec (.frameAbandoned .missingStop) s = .next abandoned.closed ∧
      (s.link.gap = some t0 →
        ((s.now - t0) * 1000 ≤ 10 * 32768 → exec .receiveGapTimeout s = .next s.closed) ∧
        (10 * 32768 < (s.now - t0) * 1000 → exec .receiveGapTimeout s = .next abandoned.closed))) ∧
    ((∀ n k l, s.link.receiver ≠ .check n k l) → exec (.frameComplete b) s = .next s.closed) ∧
    (s.link.receiver = .check len kind bytes →
      exec (.byteReceived b) s = exec (.frameComplete b) s ∧
      (∀ i, byte len + kind + bytes.reverse.sum + b = 0 → requestKind kind = true → parseRequest kind bytes.reverse = some i →
        exec (.frameComplete b) s = exec i hunting) ∧
      (s.takes →
        (byte len + kind + bytes.reverse.sum + b ≠ 0 →
          exec (.frameComplete b) s = .next (hunting.answered kind .refused .badFrame []).closed) ∧
        (byte len + kind + bytes.reverse.sum + b = 0 → requestKind kind = false →
          exec (.frameComplete b) s = .next (hunting.answered kind .refused .unknown []).closed) ∧
        (byte len + kind + bytes.reverse.sum + b = 0 → requestKind kind = true → parseRequest kind bytes.reverse = none →
          let cancels : Prop := kind = 1 ∧ bytes ≠ [] ∧ (bytes.reverse.head? ∉ [some 1, some 3] ∨ 2 ≤ bytes.length)
          (s.mark.search = none ∨ ¬ cancels →
            exec (.frameComplete b) s = .next (hunting.answered kind .refused .invalidArg []).closed) ∧
          (∀ q, s.mark.search = some q → cancels → s.roomFor 1 →
            exec (.frameComplete b) s = .next (((hunting.onMark fun m => { m with search := none }).onLink fun l =>
              { l with notices := l.notices ++ [.searchCancelled q.kind false] }).answered 1 .refused .invalidArg []).closed))))

/-- At most two frames are held, bad and unknown ones are answered and wake nothing, and BOOT, replies and notices are sent in that
order. A bad frame and a frame of unknown kind, with the reply slot and the holding empty, are answered BAD_FRAME and UNKNOWN
with the kind received, in every power state, and wake nothing. With a reply standing they are held while fewer than 2 frames
are held; else the frame is discarded and the drop count rises. The end of a frame sent removes BOOT, the reply or the oldest
notice; a reply that goes lets the oldest held frame be taken and answered. An idle transmitter chooses BOOT, then the reply,
then the oldest notice. The notice queue takes 12 notices; one more is dropped and counted. (Derived from R191, R199, R200,
R201, R203, R204.) -/
def Obligations.FramesAreHeldAnsweredAndSentInOrder : Prop :=
  ∀ (s : State) (kind k2 : Byte) (r : Reply) (f : HeldFrame) (x : Notice), s.hears →
    (∀ j ∈ [(Instr.badFrame kind, HeldFrame.bad kind, Reason.badFrame), (.unknownFrame kind, .unknown kind, .unknown)],
      (j.1 = .unknownFrame kind → requestKind kind = false) →
      (s.link.reply = none → s.link.holding = [] → exec j.1 s = .next (s.answered kind .refused j.2.2 []).closed) ∧
      (s.link.reply = some r → s.link.holding.length < 2 → exec j.1 s =
        .next (s.onLink fun l => { l with holding := l.holding ++ [j.2.1] }).closed) ∧
      (2 ≤ s.link.holding.length → exec j.1 s = .next (s.onLink fun l => { l with drop := satInc 255 l.drop }).closed)) ∧
    (s.link.sending = none → exec .txFrameEnd s = .next s.closed) ∧
    (s.link.sending = some .boot → exec .txFrameEnd s =
      .next (s.onLink fun l => { l with sending := none, bootPending := false }).closed) ∧
    (s.link.sending = some .notice → exec .txFrameEnd s =
      .next (s.onLink fun l => { l with sending := none, notices := l.notices.tail }).closed) ∧
    (s.link.sending = some .reply →
      (s.link.holding = [] → exec .txFrameEnd s = .next (s.onLink fun l => { l with sending := none, reply := none }).closed) ∧
      (s.link.holding = [.bad k2, f] → exec .txFrameEnd s =
        .next ((s.onLink fun l => { l with sending := none, holding := [f] }).answered k2 .refused .badFrame []).closed)) ∧
    (s.link.sending = none →
      (s.link.bootPending = true → s.closed.link.sending = some .boot) ∧
      (s.link.bootPending = false → s.link.reply = some r → s.closed.link.sending = some .reply) ∧
      (s.link.bootPending = false → s.link.reply = none → s.link.notices = x :: s.link.notices.tail →
        s.closed.link.sending = some .notice) ∧
      (s.link.bootPending = false → s.link.reply = none → s.link.notices = [] → s.closed.link.sending = none)) ∧
    (s.link.notices.length < 12 → notify x s = s.onLink fun l => { l with notices := l.notices ++ [x] }) ∧
    (12 ≤ s.link.notices.length → notify x s = s.onLink fun l => { l with overflow := satInc 255 l.overflow })

/-- STATUS reports and re-latches the flags, and SETTINGS_WRITE stores the masked fields with the record speed corrected. STATUS
is answered DONE with 24 bytes (power state, supply phase, mechanism state, for SHIFTING its target state, owner with its slot,
the counter in three bytes, the flags with the approximate flag, tuner, label and clock state, fault code, FRAMING, DROP,
overflow and slip counts, and LDD's good, bad and toggle-error counters in two bytes each), and then each flag is its present
condition and the overflow count 0. SETTINGS_READ is answered with the five bytes and changes nothing. SETTINGS_WRITE is refused
INVALID_ARG where the mask names a field that does not exist or a value out of range; else the fields the mask names are taken
and the others kept; a standard is pending; in EMPTY a write that changes the pending one makes it current at once; the record
speed is corrected to one legal under the current standard; the reply gives the record. The part is out of STANDBY. The model's
choice: in EMPTY the speed is corrected once, against the new current standard, where standard and speed are written together
(log 22). (Derived from R28, R202, R206, R207, R208, R209, R211, notes/assumptions/22.) -/
def Obligations.StatusRelatchesAndSettingsAreKept : Prop :=
  ∀ (s : State) (r : SettingsBytes), s.takes →
    (exec .status s = .next ((s.onLink fun l => { l with
        signalOk := !s.servo.envelope.noSignal, tapeEnd := s.supplyGood && s.pins.leaderEnd, servoSlip := false,
        labelLost := decide (s.ldd.state = .lost), overflow := 0 }).answered 0x15 .done .none (statusData s)).closed ∧
      (statusData s).length = 24 ∧
      (statusData s).take 6 = [byte s.pwr.power.code, byte s.pwr.phase.code, byte s.mech.state.code,
        byte (if s.mech.state = .shifting then s.mech.target.code else s.mech.state.code), byte s.mech.owner.code,
        byte s.mech.owner.slotOf] ∧
      (let two := s.pos.counter % 16777216
       ((statusData s).drop 6).take 3 = [byte (two / 65536).toNat, byte (two / 256 % 256).toNat, byte (two % 256).toNat]) ∧
      ((statusData s).drop 9).take 9 = [byte (weight s.link.signalOk 1 + weight s.link.tapeEnd 2 + weight s.link.servoSlip 4 +
          weight s.link.labelLost 8 + weight s.pos.approx 16), byte s.tuner.state.code, byte s.ldd.state.code,
        byte s.clock.state.code, byte s.mech.fault.code, byte s.link.framing, byte s.link.drop, byte s.link.overflow,
        byte s.servo.slip] ∧
      (s.ldd.good < 65536 → s.ldd.bad < 65536 → s.ldd.toggles < 65536 → (statusData s).drop 18 =
        [byte (s.ldd.good / 256), byte (s.ldd.good % 256), byte (s.ldd.bad / 256), byte (s.ldd.bad % 256),
         byte (s.ldd.toggles / 256), byte (s.ldd.toggles % 256)])) ∧
    exec .settingsRead s = .next (s.answered 0x14 .done .none (settingsData s)).closed ∧
    (settingsData s).length = 5 ∧
    (let bad := 16 ≤ r.mask.toNat ∨ (bitOf r.mask 0 = true ∧ 2 ≤ r.standard.toNat) ∨
        (bitOf r.mask 1 = true ∧ 3 ≤ r.speed.toNat) ∨ (bitOf r.mask 3 = true ∧ 80 < r.feed.toNat);
      let x := s.link.settings;
      let std (old : Standard) := if bitOf r.mask 0 then (if r.standard = 0 then Standard.a else .b) else old;
      let current := if s.mech.state = .empty ∧ std x.pendingStd ≠ x.pendingStd then std x.pendingStd else x.currentStd;
      let speed := if bitOf r.mask 1 then (if r.speed = 0 then Speed.s else if r.speed = 1 then .h else .t) else x.recordSpeed;
      let switch (n : Nat) (old : Bool) := if bitOf r.mask 2 then bitOf r.switches n else old;
      let t := s.onLink fun l => { l with settings :=
        { pendingStd := std x.pendingStd, currentStd := current, recordSpeed := speed.legal current,
          autoRewind := switch 0 x.autoRewind, autoplay := switch 1 x.autoplay, indexStart := switch 2 x.indexStart,
          autoClock := switch 3 x.autoClock, keyWake := switch 4 x.keyWake, casWake := switch 5 x.casWake,
          counterNotices := switch 6 x.counterNotices, remainingNotices := switch 7 x.remainingNotices,
          boxFeed := if bitOf r.mask 3 then (if r.feed = 0 then none else some r.feed.toNat) else x.boxFeed } };
      (bad → refusedWith (.settingsWrite r) 0x13 .invalidArg [] s) ∧
      (¬ bad → exec (.settingsWrite r) s = .next (t.answered 0x13 .done .none (settingsData t)).closed))

/-- The reset state has the reset values of the blocks' tables and satisfies the six invariants that every step keeps. Right after a
POWER_ON reset: the mechanism EMPTY (no cassette in the switch, log 4) with owner NONE, no fault, recovery pending; the counter
0, the mark list empty; the tuner OFF with 80 unused presets; the clock 1990-01-01 00:00:00 INVALID with trim 0; the 16 slots
EMPTY; no box profile, the outlet OFF, NONE and OCCURRENCE_END; the power state STANDBY, phase OFF, reset-cause POWER_ON with
was-standby set; the settings at their defaults; SIGNAL_OK 1 and the other flags 0; BOOT pending; no command waits. The six
invariants that every step keeps hold. (Derived from R32, R73, R94, R115, R139, R174, R187, R196, R197, R208, R210,
notes/assumptions/4.) -/
def Obligations.ResetStateHoldsTheResetValues : Prop :=
  let s := State.reset
  s.clockSound ∧ s.ampOnlyInRecord ∧ s.placesKept ∧ s.recorderHeldOnce ∧ s.restSound ∧ s.supplySound ∧ s.hears ∧ s.noOccurrence ∧
  s.mech.state = .empty ∧ s.mech.owner = .none ∧ s.mech.fault = .none ∧ s.mech.recoveryPending = true ∧
  s.pos.counter = 0 ∧ s.mark.list = [] ∧ s.tuner.state = .off ∧ s.tuner.presets = List.replicate 80 none ∧
  s.clock.time = firstTime ∧ s.clock.state = .invalid ∧ s.clock.trim = 0 ∧ s.clock.trimCount = 0 ∧
  s.sched.slots = List.replicate 16 Slot.reset ∧ s.box.profile = none ∧ s.box.output = false ∧ s.box.onPoint = .none ∧
  s.box.offPoint = .occurrenceEnd ∧ s.pwr.power = .standby ∧ s.pwr.phase = .off ∧
  s.pwr.record = { cause := .powerOn, wasStandby := true, clockValid := false } ∧
  s.link.settings = { pendingStd := .a, currentStd := .a, recordSpeed := .s, autoRewind := true, autoplay := true,
                      indexStart := true, autoClock := true, boxFeed := none, keyWake := true, casWake := true,
                      counterNotices := false, remainingNotices := false } ∧
  s.link.signalOk = true ∧ s.link.tapeEnd = false ∧ s.link.servoSlip = false ∧ s.link.labelLost = false ∧
  s.link.bootPending = true ∧ s.pending = []

/-- Every well-formed request, laid out as its frame by section 11.9 and log 27, is judged and read back as that very request. For
every well-formed command that is a request, the frame of section 11.9 for it (the payloads of MECH, TRACKING and CLOCK_SET
being laid out by log 27, the model's choice) has at most 60 payload bytes and a request kind, its payload is read as that same
request with every operand at its value, and with its check byte the frame is judged to be that request; a frame whose check
byte is another is a bad frame. (Derived from R199, R201, R211, R212, R213, R214, chapter 11, section 11.9,
notes/assumptions/27.) -/
def Obligations.RequestsReadBackFromTheirFrames : Prop :=
  ∀ (i : Instr) (kind : Byte) (p : List Byte), i.wellFormed = true → requestFrame i = some (kind, p) →
    p.length ≤ 60 ∧ requestKind kind = true ∧ parseRequest kind p = some i ∧
    judgeFrame p.length kind p (checkByte kind p) = .request i ∧
    ∀ b, b ≠ checkByte kind p → judgeFrame p.length kind p b = .bad kind

/-- Every step keeps the clock on a real date-time of the calendar, its trim within −31..31 and its trim count within 0..15. For
every state with a date-time of the calendar 1990-01-01 00:00:00 to 2089-12-31 23:59:59, a trim within −31..+31 and a trim count
of at most 15, the state after any step, whatever command stands in front or none, has all three too. (Derived from R130, R131,
R133, R135, R136, R139.) -/
def Obligations.EveryStepKeepsTheClockSound : Prop :=
  ∀ s t : State, s.clockSound → step s = .next t → t.clockSound

/-- Every step keeps the record amplifier off in every state but RECORD. For every state in which the record amplifier is enabled in
RECORD only, the state after any step, whatever command stands in front or none, has it enabled in RECORD only: no command,
event, leader, fault, supply loss, standby stop or reset leaves the tape being erased and recorded in another state. (Derived
from R3, R21, R31, R86, R196.) -/
def Obligations.EveryStepKeepsTheAmplifierToRecord : Prop :=
  ∀ s t : State, s.ampOnlyInRecord → step s = .next t → t.ampOnlyInRecord

/-- Every step keeps the tables, the mark list and the queues within their places, and the record speed legal. For every state with
16 programme slots, 80 presets, at most 32 listed marks, at most 8 frames in the IR queue, at most 2 frames held, at most 12
notices queued and a record speed legal under the current line standard, the state after any step, whatever command stands in
front or none, has them all too. (Derived from R76, R140, R178, R181, R182, R200, R204, R208, R209.) -/
def Obligations.EveryStepKeepsTheQueuesWithinTheirPlaces : Prop :=
  ∀ s t : State, s.placesKept → step s = .next t → t.placesKept

/-- Every step keeps the recorder held by at most one entry, and the owner TIMER of that entry's slot exactly while it is held. For
every state in which an entry is in WATCHING, PREPARING, RECORDING or HELD only as the one holder, the holder is in one of these
states and has an occurrence, and the owner is TIMER of the holder's slot where there is a holder and not TIMER where there is
none, the state after any step, whatever command stands in front or none, is such a state too. (Derived from R12, R13, R146,
R147, R150, R167, R174.) -/
def Obligations.EveryStepKeepsOneHolderUnderItsOwner : Prop :=
  ∀ s t : State, s.recorderHeldOnce → step s = .next t → t.recorderHeldOnce

/-- Every step keeps a deck without its supply at rest: in STANDBY no supply and no holder; without supply EMPTY or IDLE, the tuner
OFF. For every state with the recorder held as the statement of the one holder says, with a junction operation running in
REC_PAUSE only, the still timer in STILL and REC_PAUSE only and the halt timer in HALT only, in which in STANDBY the phase is
OFF, or RAISING with the ON mark set, and no entry holds the recorder (but for a loss of supply still to be reported to SCHED
within the step), and in which without supply-good the mechanism is EMPTY or IDLE with no movement, motion or command and
recovery pending, and the tuner is OFF with no scan, bus transaction or timer, the state after any step, whatever command stands
in front or none, is such a state too. (Derived from R19, R20, R29, R30, R97, R105, R174, R188, R189, R190, R191, R194.) -/
def Obligations.EveryStepKeepsStandbyAtRest : Prop :=
  ∀ s t : State, s.recorderHeldOnce → s.restSound → s.supplySound → step s = .next t → t.restSound ∧ t.supplySound
end

