-- ==== Sys2Proof/Laws/State.lean ====
section
/-!
SUPPORT. Sys2Proof/Laws/State.lean: what every named update of the state leaves of each field, true by unfolding, so that no later
proof unfolds a record update: the updates of one block, a notice, a report, the end of a step.
-/

namespace Sys2Proof.Machine

/-! ## State.onPins -/

@[simp] theorem State.onPins_pins (f : Pins → Pins) (s : State) : (s.onPins f).pins = f s.pins := rfl
@[simp] theorem State.onPins_mech (f : Pins → Pins) (s : State) : (s.onPins f).mech = s.mech := rfl
@[simp] theorem State.onPins_servo (f : Pins → Pins) (s : State) : (s.onPins f).servo = s.servo := rfl
@[simp] theorem State.onPins_pos (f : Pins → Pins) (s : State) : (s.onPins f).pos = s.pos := rfl
@[simp] theorem State.onPins_mark (f : Pins → Pins) (s : State) : (s.onPins f).mark = s.mark := rfl
@[simp] theorem State.onPins_tuner (f : Pins → Pins) (s : State) : (s.onPins f).tuner = s.tuner := rfl
@[simp] theorem State.onPins_ldd (f : Pins → Pins) (s : State) : (s.onPins f).ldd = s.ldd := rfl
@[simp] theorem State.onPins_clock (f : Pins → Pins) (s : State) : (s.onPins f).clock = s.clock := rfl
@[simp] theorem State.onPins_sched (f : Pins → Pins) (s : State) : (s.onPins f).sched = s.sched := rfl
@[simp] theorem State.onPins_box (f : Pins → Pins) (s : State) : (s.onPins f).box = s.box := rfl
@[simp] theorem State.onPins_pwr (f : Pins → Pins) (s : State) : (s.onPins f).pwr = s.pwr := rfl
@[simp] theorem State.onPins_link (f : Pins → Pins) (s : State) : (s.onPins f).link = s.link := rfl
@[simp] theorem State.onPins_reports (f : Pins → Pins) (s : State) : (s.onPins f).reports = s.reports := rfl
@[simp] theorem State.onPins_pending (f : Pins → Pins) (s : State) : (s.onPins f).pending = s.pending := rfl

/-! ## State.onMech -/

@[simp] theorem State.onMech_pins (f : Mech → Mech) (s : State) : (s.onMech f).pins = s.pins := rfl
@[simp] theorem State.onMech_mech (f : Mech → Mech) (s : State) : (s.onMech f).mech = f s.mech := rfl
@[simp] theorem State.onMech_servo (f : Mech → Mech) (s : State) : (s.onMech f).servo = s.servo := rfl
@[simp] theorem State.onMech_pos (f : Mech → Mech) (s : State) : (s.onMech f).pos = s.pos := rfl
@[simp] theorem State.onMech_mark (f : Mech → Mech) (s : State) : (s.onMech f).mark = s.mark := rfl
@[simp] theorem State.onMech_tuner (f : Mech → Mech) (s : State) : (s.onMech f).tuner = s.tuner := rfl
@[simp] theorem State.onMech_ldd (f : Mech → Mech) (s : State) : (s.onMech f).ldd = s.ldd := rfl
@[simp] theorem State.onMech_clock (f : Mech → Mech) (s : State) : (s.onMech f).clock = s.clock := rfl
@[simp] theorem State.onMech_sched (f : Mech → Mech) (s : State) : (s.onMech f).sched = s.sched := rfl
@[simp] theorem State.onMech_box (f : Mech → Mech) (s : State) : (s.onMech f).box = s.box := rfl
@[simp] theorem State.onMech_pwr (f : Mech → Mech) (s : State) : (s.onMech f).pwr = s.pwr := rfl
@[simp] theorem State.onMech_link (f : Mech → Mech) (s : State) : (s.onMech f).link = s.link := rfl
@[simp] theorem State.onMech_reports (f : Mech → Mech) (s : State) : (s.onMech f).reports = s.reports := rfl
@[simp] theorem State.onMech_pending (f : Mech → Mech) (s : State) : (s.onMech f).pending = s.pending := rfl

/-! ## State.onServo -/

@[simp] theorem State.onServo_pins (f : Servo → Servo) (s : State) : (s.onServo f).pins = s.pins := rfl
@[simp] theorem State.onServo_mech (f : Servo → Servo) (s : State) : (s.onServo f).mech = s.mech := rfl
@[simp] theorem State.onServo_servo (f : Servo → Servo) (s : State) : (s.onServo f).servo = f s.servo := rfl
@[simp] theorem State.onServo_pos (f : Servo → Servo) (s : State) : (s.onServo f).pos = s.pos := rfl
@[simp] theorem State.onServo_mark (f : Servo → Servo) (s : State) : (s.onServo f).mark = s.mark := rfl
@[simp] theorem State.onServo_tuner (f : Servo → Servo) (s : State) : (s.onServo f).tuner = s.tuner := rfl
@[simp] theorem State.onServo_ldd (f : Servo → Servo) (s : State) : (s.onServo f).ldd = s.ldd := rfl
@[simp] theorem State.onServo_clock (f : Servo → Servo) (s : State) : (s.onServo f).clock = s.clock := rfl
@[simp] theorem State.onServo_sched (f : Servo → Servo) (s : State) : (s.onServo f).sched = s.sched := rfl
@[simp] theorem State.onServo_box (f : Servo → Servo) (s : State) : (s.onServo f).box = s.box := rfl
@[simp] theorem State.onServo_pwr (f : Servo → Servo) (s : State) : (s.onServo f).pwr = s.pwr := rfl
@[simp] theorem State.onServo_link (f : Servo → Servo) (s : State) : (s.onServo f).link = s.link := rfl
@[simp] theorem State.onServo_reports (f : Servo → Servo) (s : State) : (s.onServo f).reports = s.reports := rfl
@[simp] theorem State.onServo_pending (f : Servo → Servo) (s : State) : (s.onServo f).pending = s.pending := rfl

/-! ## State.onPos -/

@[simp] theorem State.onPos_pins (f : Pos → Pos) (s : State) : (s.onPos f).pins = s.pins := rfl
@[simp] theorem State.onPos_mech (f : Pos → Pos) (s : State) : (s.onPos f).mech = s.mech := rfl
@[simp] theorem State.onPos_servo (f : Pos → Pos) (s : State) : (s.onPos f).servo = s.servo := rfl
@[simp] theorem State.onPos_pos (f : Pos → Pos) (s : State) : (s.onPos f).pos = f s.pos := rfl
@[simp] theorem State.onPos_mark (f : Pos → Pos) (s : State) : (s.onPos f).mark = s.mark := rfl
@[simp] theorem State.onPos_tuner (f : Pos → Pos) (s : State) : (s.onPos f).tuner = s.tuner := rfl
@[simp] theorem State.onPos_ldd (f : Pos → Pos) (s : State) : (s.onPos f).ldd = s.ldd := rfl
@[simp] theorem State.onPos_clock (f : Pos → Pos) (s : State) : (s.onPos f).clock = s.clock := rfl
@[simp] theorem State.onPos_sched (f : Pos → Pos) (s : State) : (s.onPos f).sched = s.sched := rfl
@[simp] theorem State.onPos_box (f : Pos → Pos) (s : State) : (s.onPos f).box = s.box := rfl
@[simp] theorem State.onPos_pwr (f : Pos → Pos) (s : State) : (s.onPos f).pwr = s.pwr := rfl
@[simp] theorem State.onPos_link (f : Pos → Pos) (s : State) : (s.onPos f).link = s.link := rfl
@[simp] theorem State.onPos_reports (f : Pos → Pos) (s : State) : (s.onPos f).reports = s.reports := rfl
@[simp] theorem State.onPos_pending (f : Pos → Pos) (s : State) : (s.onPos f).pending = s.pending := rfl

/-! ## State.onMark -/

@[simp] theorem State.onMark_pins (f : Mark → Mark) (s : State) : (s.onMark f).pins = s.pins := rfl
@[simp] theorem State.onMark_mech (f : Mark → Mark) (s : State) : (s.onMark f).mech = s.mech := rfl
@[simp] theorem State.onMark_servo (f : Mark → Mark) (s : State) : (s.onMark f).servo = s.servo := rfl
@[simp] theorem State.onMark_pos (f : Mark → Mark) (s : State) : (s.onMark f).pos = s.pos := rfl
@[simp] theorem State.onMark_mark (f : Mark → Mark) (s : State) : (s.onMark f).mark = f s.mark := rfl
@[simp] theorem State.onMark_tuner (f : Mark → Mark) (s : State) : (s.onMark f).tuner = s.tuner := rfl
@[simp] theorem State.onMark_ldd (f : Mark → Mark) (s : State) : (s.onMark f).ldd = s.ldd := rfl
@[simp] theorem State.onMark_clock (f : Mark → Mark) (s : State) : (s.onMark f).clock = s.clock := rfl
@[simp] theorem State.onMark_sched (f : Mark → Mark) (s : State) : (s.onMark f).sched = s.sched := rfl
@[simp] theorem State.onMark_box (f : Mark → Mark) (s : State) : (s.onMark f).box = s.box := rfl
@[simp] theorem State.onMark_pwr (f : Mark → Mark) (s : State) : (s.onMark f).pwr = s.pwr := rfl
@[simp] theorem State.onMark_link (f : Mark → Mark) (s : State) : (s.onMark f).link = s.link := rfl
@[simp] theorem State.onMark_reports (f : Mark → Mark) (s : State) : (s.onMark f).reports = s.reports := rfl
@[simp] theorem State.onMark_pending (f : Mark → Mark) (s : State) : (s.onMark f).pending = s.pending := rfl

/-! ## State.onTuner -/

@[simp] theorem State.onTuner_pins (f : Tuner → Tuner) (s : State) : (s.onTuner f).pins = s.pins := rfl
@[simp] theorem State.onTuner_mech (f : Tuner → Tuner) (s : State) : (s.onTuner f).mech = s.mech := rfl
@[simp] theorem State.onTuner_servo (f : Tuner → Tuner) (s : State) : (s.onTuner f).servo = s.servo := rfl
@[simp] theorem State.onTuner_pos (f : Tuner → Tuner) (s : State) : (s.onTuner f).pos = s.pos := rfl
@[simp] theorem State.onTuner_mark (f : Tuner → Tuner) (s : State) : (s.onTuner f).mark = s.mark := rfl
@[simp] theorem State.onTuner_tuner (f : Tuner → Tuner) (s : State) : (s.onTuner f).tuner = f s.tuner := rfl
@[simp] theorem State.onTuner_ldd (f : Tuner → Tuner) (s : State) : (s.onTuner f).ldd = s.ldd := rfl
@[simp] theorem State.onTuner_clock (f : Tuner → Tuner) (s : State) : (s.onTuner f).clock = s.clock := rfl
@[simp] theorem State.onTuner_sched (f : Tuner → Tuner) (s : State) : (s.onTuner f).sched = s.sched := rfl
@[simp] theorem State.onTuner_box (f : Tuner → Tuner) (s : State) : (s.onTuner f).box = s.box := rfl
@[simp] theorem State.onTuner_pwr (f : Tuner → Tuner) (s : State) : (s.onTuner f).pwr = s.pwr := rfl
@[simp] theorem State.onTuner_link (f : Tuner → Tuner) (s : State) : (s.onTuner f).link = s.link := rfl
@[simp] theorem State.onTuner_reports (f : Tuner → Tuner) (s : State) : (s.onTuner f).reports = s.reports := rfl
@[simp] theorem State.onTuner_pending (f : Tuner → Tuner) (s : State) : (s.onTuner f).pending = s.pending := rfl

/-! ## State.onLdd -/

@[simp] theorem State.onLdd_pins (f : Ldd → Ldd) (s : State) : (s.onLdd f).pins = s.pins := rfl
@[simp] theorem State.onLdd_mech (f : Ldd → Ldd) (s : State) : (s.onLdd f).mech = s.mech := rfl
@[simp] theorem State.onLdd_servo (f : Ldd → Ldd) (s : State) : (s.onLdd f).servo = s.servo := rfl
@[simp] theorem State.onLdd_pos (f : Ldd → Ldd) (s : State) : (s.onLdd f).pos = s.pos := rfl
@[simp] theorem State.onLdd_mark (f : Ldd → Ldd) (s : State) : (s.onLdd f).mark = s.mark := rfl
@[simp] theorem State.onLdd_tuner (f : Ldd → Ldd) (s : State) : (s.onLdd f).tuner = s.tuner := rfl
@[simp] theorem State.onLdd_ldd (f : Ldd → Ldd) (s : State) : (s.onLdd f).ldd = f s.ldd := rfl
@[simp] theorem State.onLdd_clock (f : Ldd → Ldd) (s : State) : (s.onLdd f).clock = s.clock := rfl
@[simp] theorem State.onLdd_sched (f : Ldd → Ldd) (s : State) : (s.onLdd f).sched = s.sched := rfl
@[simp] theorem State.onLdd_box (f : Ldd → Ldd) (s : State) : (s.onLdd f).box = s.box := rfl
@[simp] theorem State.onLdd_pwr (f : Ldd → Ldd) (s : State) : (s.onLdd f).pwr = s.pwr := rfl
@[simp] theorem State.onLdd_link (f : Ldd → Ldd) (s : State) : (s.onLdd f).link = s.link := rfl
@[simp] theorem State.onLdd_reports (f : Ldd → Ldd) (s : State) : (s.onLdd f).reports = s.reports := rfl
@[simp] theorem State.onLdd_pending (f : Ldd → Ldd) (s : State) : (s.onLdd f).pending = s.pending := rfl

/-! ## State.onClock -/

@[simp] theorem State.onClock_pins (f : Clock → Clock) (s : State) : (s.onClock f).pins = s.pins := rfl
@[simp] theorem State.onClock_mech (f : Clock → Clock) (s : State) : (s.onClock f).mech = s.mech := rfl
@[simp] theorem State.onClock_servo (f : Clock → Clock) (s : State) : (s.onClock f).servo = s.servo := rfl
@[simp] theorem State.onClock_pos (f : Clock → Clock) (s : State) : (s.onClock f).pos = s.pos := rfl
@[simp] theorem State.onClock_mark (f : Clock → Clock) (s : State) : (s.onClock f).mark = s.mark := rfl
@[simp] theorem State.onClock_tuner (f : Clock → Clock) (s : State) : (s.onClock f).tuner = s.tuner := rfl
@[simp] theorem State.onClock_ldd (f : Clock → Clock) (s : State) : (s.onClock f).ldd = s.ldd := rfl
@[simp] theorem State.onClock_clock (f : Clock → Clock) (s : State) : (s.onClock f).clock = f s.clock := rfl
@[simp] theorem State.onClock_sched (f : Clock → Clock) (s : State) : (s.onClock f).sched = s.sched := rfl
@[simp] theorem State.onClock_box (f : Clock → Clock) (s : State) : (s.onClock f).box = s.box := rfl
@[simp] theorem State.onClock_pwr (f : Clock → Clock) (s : State) : (s.onClock f).pwr = s.pwr := rfl
@[simp] theorem State.onClock_link (f : Clock → Clock) (s : State) : (s.onClock f).link = s.link := rfl
@[simp] theorem State.onClock_reports (f : Clock → Clock) (s : State) : (s.onClock f).reports = s.reports := rfl
@[simp] theorem State.onClock_pending (f : Clock → Clock) (s : State) : (s.onClock f).pending = s.pending := rfl

/-! ## State.onSched -/

@[simp] theorem State.onSched_pins (f : Sched → Sched) (s : State) : (s.onSched f).pins = s.pins := rfl
@[simp] theorem State.onSched_mech (f : Sched → Sched) (s : State) : (s.onSched f).mech = s.mech := rfl
@[simp] theorem State.onSched_servo (f : Sched → Sched) (s : State) : (s.onSched f).servo = s.servo := rfl
@[simp] theorem State.onSched_pos (f : Sched → Sched) (s : State) : (s.onSched f).pos = s.pos := rfl
@[simp] theorem State.onSched_mark (f : Sched → Sched) (s : State) : (s.onSched f).mark = s.mark := rfl
@[simp] theorem State.onSched_tuner (f : Sched → Sched) (s : State) : (s.onSched f).tuner = s.tuner := rfl
@[simp] theorem State.onSched_ldd (f : Sched → Sched) (s : State) : (s.onSched f).ldd = s.ldd := rfl
@[simp] theorem State.onSched_clock (f : Sched → Sched) (s : State) : (s.onSched f).clock = s.clock := rfl
@[simp] theorem State.onSched_sched (f : Sched → Sched) (s : State) : (s.onSched f).sched = f s.sched := rfl
@[simp] theorem State.onSched_box (f : Sched → Sched) (s : State) : (s.onSched f).box = s.box := rfl
@[simp] theorem State.onSched_pwr (f : Sched → Sched) (s : State) : (s.onSched f).pwr = s.pwr := rfl
@[simp] theorem State.onSched_link (f : Sched → Sched) (s : State) : (s.onSched f).link = s.link := rfl
@[simp] theorem State.onSched_reports (f : Sched → Sched) (s : State) : (s.onSched f).reports = s.reports := rfl
@[simp] theorem State.onSched_pending (f : Sched → Sched) (s : State) : (s.onSched f).pending = s.pending := rfl

/-! ## State.onBox -/

@[simp] theorem State.onBox_pins (f : Box → Box) (s : State) : (s.onBox f).pins = s.pins := rfl
@[simp] theorem State.onBox_mech (f : Box → Box) (s : State) : (s.onBox f).mech = s.mech := rfl
@[simp] theorem State.onBox_servo (f : Box → Box) (s : State) : (s.onBox f).servo = s.servo := rfl
@[simp] theorem State.onBox_pos (f : Box → Box) (s : State) : (s.onBox f).pos = s.pos := rfl
@[simp] theorem State.onBox_mark (f : Box → Box) (s : State) : (s.onBox f).mark = s.mark := rfl
@[simp] theorem State.onBox_tuner (f : Box → Box) (s : State) : (s.onBox f).tuner = s.tuner := rfl
@[simp] theorem State.onBox_ldd (f : Box → Box) (s : State) : (s.onBox f).ldd = s.ldd := rfl
@[simp] theorem State.onBox_clock (f : Box → Box) (s : State) : (s.onBox f).clock = s.clock := rfl
@[simp] theorem State.onBox_sched (f : Box → Box) (s : State) : (s.onBox f).sched = s.sched := rfl
@[simp] theorem State.onBox_box (f : Box → Box) (s : State) : (s.onBox f).box = f s.box := rfl
@[simp] theorem State.onBox_pwr (f : Box → Box) (s : State) : (s.onBox f).pwr = s.pwr := rfl
@[simp] theorem State.onBox_link (f : Box → Box) (s : State) : (s.onBox f).link = s.link := rfl
@[simp] theorem State.onBox_reports (f : Box → Box) (s : State) : (s.onBox f).reports = s.reports := rfl
@[simp] theorem State.onBox_pending (f : Box → Box) (s : State) : (s.onBox f).pending = s.pending := rfl

/-! ## State.onPwr -/

@[simp] theorem State.onPwr_pins (f : Pwr → Pwr) (s : State) : (s.onPwr f).pins = s.pins := rfl
@[simp] theorem State.onPwr_mech (f : Pwr → Pwr) (s : State) : (s.onPwr f).mech = s.mech := rfl
@[simp] theorem State.onPwr_servo (f : Pwr → Pwr) (s : State) : (s.onPwr f).servo = s.servo := rfl
@[simp] theorem State.onPwr_pos (f : Pwr → Pwr) (s : State) : (s.onPwr f).pos = s.pos := rfl
@[simp] theorem State.onPwr_mark (f : Pwr → Pwr) (s : State) : (s.onPwr f).mark = s.mark := rfl
@[simp] theorem State.onPwr_tuner (f : Pwr → Pwr) (s : State) : (s.onPwr f).tuner = s.tuner := rfl
@[simp] theorem State.onPwr_ldd (f : Pwr → Pwr) (s : State) : (s.onPwr f).ldd = s.ldd := rfl
@[simp] theorem State.onPwr_clock (f : Pwr → Pwr) (s : State) : (s.onPwr f).clock = s.clock := rfl
@[simp] theorem State.onPwr_sched (f : Pwr → Pwr) (s : State) : (s.onPwr f).sched = s.sched := rfl
@[simp] theorem State.onPwr_box (f : Pwr → Pwr) (s : State) : (s.onPwr f).box = s.box := rfl
@[simp] theorem State.onPwr_pwr (f : Pwr → Pwr) (s : State) : (s.onPwr f).pwr = f s.pwr := rfl
@[simp] theorem State.onPwr_link (f : Pwr → Pwr) (s : State) : (s.onPwr f).link = s.link := rfl
@[simp] theorem State.onPwr_reports (f : Pwr → Pwr) (s : State) : (s.onPwr f).reports = s.reports := rfl
@[simp] theorem State.onPwr_pending (f : Pwr → Pwr) (s : State) : (s.onPwr f).pending = s.pending := rfl

/-! ## State.onLink -/

@[simp] theorem State.onLink_pins (f : Link → Link) (s : State) : (s.onLink f).pins = s.pins := rfl
@[simp] theorem State.onLink_mech (f : Link → Link) (s : State) : (s.onLink f).mech = s.mech := rfl
@[simp] theorem State.onLink_servo (f : Link → Link) (s : State) : (s.onLink f).servo = s.servo := rfl
@[simp] theorem State.onLink_pos (f : Link → Link) (s : State) : (s.onLink f).pos = s.pos := rfl
@[simp] theorem State.onLink_mark (f : Link → Link) (s : State) : (s.onLink f).mark = s.mark := rfl
@[simp] theorem State.onLink_tuner (f : Link → Link) (s : State) : (s.onLink f).tuner = s.tuner := rfl
@[simp] theorem State.onLink_ldd (f : Link → Link) (s : State) : (s.onLink f).ldd = s.ldd := rfl
@[simp] theorem State.onLink_clock (f : Link → Link) (s : State) : (s.onLink f).clock = s.clock := rfl
@[simp] theorem State.onLink_sched (f : Link → Link) (s : State) : (s.onLink f).sched = s.sched := rfl
@[simp] theorem State.onLink_box (f : Link → Link) (s : State) : (s.onLink f).box = s.box := rfl
@[simp] theorem State.onLink_pwr (f : Link → Link) (s : State) : (s.onLink f).pwr = s.pwr := rfl
@[simp] theorem State.onLink_link (f : Link → Link) (s : State) : (s.onLink f).link = f s.link := rfl
@[simp] theorem State.onLink_reports (f : Link → Link) (s : State) : (s.onLink f).reports = s.reports := rfl
@[simp] theorem State.onLink_pending (f : Link → Link) (s : State) : (s.onLink f).pending = s.pending := rfl

/-! ## report -/

@[simp] theorem report_pins (r : Report) (s : State) : (report r s).pins = s.pins := rfl
@[simp] theorem report_mech (r : Report) (s : State) : (report r s).mech = s.mech := rfl
@[simp] theorem report_servo (r : Report) (s : State) : (report r s).servo = s.servo := rfl
@[simp] theorem report_pos (r : Report) (s : State) : (report r s).pos = s.pos := rfl
@[simp] theorem report_mark (r : Report) (s : State) : (report r s).mark = s.mark := rfl
@[simp] theorem report_tuner (r : Report) (s : State) : (report r s).tuner = s.tuner := rfl
@[simp] theorem report_ldd (r : Report) (s : State) : (report r s).ldd = s.ldd := rfl
@[simp] theorem report_clock (r : Report) (s : State) : (report r s).clock = s.clock := rfl
@[simp] theorem report_sched (r : Report) (s : State) : (report r s).sched = s.sched := rfl
@[simp] theorem report_box (r : Report) (s : State) : (report r s).box = s.box := rfl
@[simp] theorem report_pwr (r : Report) (s : State) : (report r s).pwr = s.pwr := rfl
@[simp] theorem report_link (r : Report) (s : State) : (report r s).link = s.link := rfl
@[simp] theorem report_reports (r : Report) (s : State) : (report r s).reports = s.reports ++ [r] := rfl
@[simp] theorem report_pending (r : Report) (s : State) : (report r s).pending = s.pending := rfl

/-! ## notify (R204) -/

@[simp] theorem notify_pins (n : Notice) (s : State) : (notify n s).pins = s.pins := rfl
@[simp] theorem notify_mech (n : Notice) (s : State) : (notify n s).mech = s.mech := rfl
@[simp] theorem notify_servo (n : Notice) (s : State) : (notify n s).servo = s.servo := rfl
@[simp] theorem notify_pos (n : Notice) (s : State) : (notify n s).pos = s.pos := rfl
@[simp] theorem notify_mark (n : Notice) (s : State) : (notify n s).mark = s.mark := rfl
@[simp] theorem notify_tuner (n : Notice) (s : State) : (notify n s).tuner = s.tuner := rfl
@[simp] theorem notify_ldd (n : Notice) (s : State) : (notify n s).ldd = s.ldd := rfl
@[simp] theorem notify_clock (n : Notice) (s : State) : (notify n s).clock = s.clock := rfl
@[simp] theorem notify_sched (n : Notice) (s : State) : (notify n s).sched = s.sched := rfl
@[simp] theorem notify_box (n : Notice) (s : State) : (notify n s).box = s.box := rfl
@[simp] theorem notify_pwr (n : Notice) (s : State) : (notify n s).pwr = s.pwr := rfl
@[simp] theorem notify_reports (n : Notice) (s : State) : (notify n s).reports = s.reports := rfl
@[simp] theorem notify_pending (n : Notice) (s : State) : (notify n s).pending = s.pending := rfl
@[simp] theorem notify_link_receiver (n : Notice) (s : State) : (notify n s).link.receiver = s.link.receiver := by
  simp only [notify, State.onLink_link]; split <;> rfl
@[simp] theorem notify_link_gap (n : Notice) (s : State) : (notify n s).link.gap = s.link.gap := by
  simp only [notify, State.onLink_link]; split <;> rfl
@[simp] theorem notify_link_holding (n : Notice) (s : State) : (notify n s).link.holding = s.link.holding := by
  simp only [notify, State.onLink_link]; split <;> rfl
@[simp] theorem notify_link_reply (n : Notice) (s : State) : (notify n s).link.reply = s.link.reply := by
  simp only [notify, State.onLink_link]; split <;> rfl
@[simp] theorem notify_link_bootPending (n : Notice) (s : State) : (notify n s).link.bootPending = s.link.bootPending := by
  simp only [notify, State.onLink_link]; split <;> rfl
@[simp] theorem notify_link_sending (n : Notice) (s : State) : (notify n s).link.sending = s.link.sending := by
  simp only [notify, State.onLink_link]; split <;> rfl
@[simp] theorem notify_link_framing (n : Notice) (s : State) : (notify n s).link.framing = s.link.framing := by
  simp only [notify, State.onLink_link]; split <;> rfl
@[simp] theorem notify_link_drop (n : Notice) (s : State) : (notify n s).link.drop = s.link.drop := by
  simp only [notify, State.onLink_link]; split <;> rfl
@[simp] theorem notify_link_signalOk (n : Notice) (s : State) : (notify n s).link.signalOk = s.link.signalOk := by
  simp only [notify, State.onLink_link]; split <;> rfl
@[simp] theorem notify_link_tapeEnd (n : Notice) (s : State) : (notify n s).link.tapeEnd = s.link.tapeEnd := by
  simp only [notify, State.onLink_link]; split <;> rfl
@[simp] theorem notify_link_servoSlip (n : Notice) (s : State) : (notify n s).link.servoSlip = s.link.servoSlip := by
  simp only [notify, State.onLink_link]; split <;> rfl
@[simp] theorem notify_link_labelLost (n : Notice) (s : State) : (notify n s).link.labelLost = s.link.labelLost := by
  simp only [notify, State.onLink_link]; split <;> rfl
@[simp] theorem notify_link_settings (n : Notice) (s : State) : (notify n s).link.settings = s.link.settings := by
  simp only [notify, State.onLink_link]; split <;> rfl

/-- R204: with a place free the notice stands last in the queue. -/
theorem notify_queued (n : Notice) (s : State) (h : s.link.notices.length < 12) :
    (notify n s).link.notices = s.link.notices ++ [n] ∧ (notify n s).link.overflow = s.link.overflow := by
  simp [notify, Config.noticePlaces, h]

/-- R204: with 12 queued the notice is dropped and the overflow count rises, saturating. -/
theorem notify_dropped (n : Notice) (s : State) (h : 12 ≤ s.link.notices.length) :
    (notify n s).link.notices = s.link.notices ∧ (notify n s).link.overflow = satInc 255 s.link.overflow := by
  have : ¬ s.link.notices.length < 12 := by omega
  simp [notify, Config.noticePlaces, this]

/-! ## The end of a step -/

@[simp] theorem restTimers_pins (s : State) : (restTimers s).pins = s.pins := rfl
@[simp] theorem restTimers_servo (s : State) : (restTimers s).servo = s.servo := rfl
@[simp] theorem restTimers_pos (s : State) : (restTimers s).pos = s.pos := rfl
@[simp] theorem restTimers_mark (s : State) : (restTimers s).mark = s.mark := rfl
@[simp] theorem restTimers_tuner (s : State) : (restTimers s).tuner = s.tuner := rfl
@[simp] theorem restTimers_ldd (s : State) : (restTimers s).ldd = s.ldd := rfl
@[simp] theorem restTimers_clock (s : State) : (restTimers s).clock = s.clock := rfl
@[simp] theorem restTimers_sched (s : State) : (restTimers s).sched = s.sched := rfl
@[simp] theorem restTimers_box (s : State) : (restTimers s).box = s.box := rfl
@[simp] theorem restTimers_pwr (s : State) : (restTimers s).pwr = s.pwr := rfl
@[simp] theorem restTimers_link (s : State) : (restTimers s).link = s.link := rfl
@[simp] theorem restTimers_reports (s : State) : (restTimers s).reports = s.reports := rfl
@[simp] theorem restTimers_pending (s : State) : (restTimers s).pending = s.pending := rfl
@[simp] theorem transmit_pins (s : State) : (transmit s).pins = s.pins := rfl
@[simp] theorem transmit_mech (s : State) : (transmit s).mech = s.mech := rfl
@[simp] theorem transmit_servo (s : State) : (transmit s).servo = s.servo := rfl
@[simp] theorem transmit_pos (s : State) : (transmit s).pos = s.pos := rfl
@[simp] theorem transmit_mark (s : State) : (transmit s).mark = s.mark := rfl
@[simp] theorem transmit_tuner (s : State) : (transmit s).tuner = s.tuner := rfl
@[simp] theorem transmit_ldd (s : State) : (transmit s).ldd = s.ldd := rfl
@[simp] theorem transmit_clock (s : State) : (transmit s).clock = s.clock := rfl
@[simp] theorem transmit_sched (s : State) : (transmit s).sched = s.sched := rfl
@[simp] theorem transmit_box (s : State) : (transmit s).box = s.box := rfl
@[simp] theorem transmit_pwr (s : State) : (transmit s).pwr = s.pwr := rfl
@[simp] theorem transmit_reports (s : State) : (transmit s).reports = s.reports := rfl
@[simp] theorem transmit_pending (s : State) : (transmit s).pending = s.pending := rfl
@[simp] theorem restTimers_mech_state (s : State) : (restTimers s).mech.state = s.mech.state := rfl
@[simp] theorem restTimers_mech_target (s : State) : (restTimers s).mech.target = s.mech.target := rfl
@[simp] theorem restTimers_mech_camTarget (s : State) : (restTimers s).mech.camTarget = s.mech.camTarget := rfl
@[simp] theorem restTimers_mech_lastCode (s : State) : (restTimers s).mech.lastCode = s.mech.lastCode := rfl
@[simp] theorem restTimers_mech_motor (s : State) : (restTimers s).mech.motor = s.mech.motor := rfl
@[simp] theorem restTimers_mech_reel (s : State) : (restTimers s).mech.reel = s.mech.reel := rfl
@[simp] theorem restTimers_mech_windSlow (s : State) : (restTimers s).mech.windSlow = s.mech.windSlow := rfl
@[simp] theorem restTimers_mech_recAmp (s : State) : (restTimers s).mech.recAmp = s.mech.recAmp := rfl
@[simp] theorem restTimers_mech_camTimer (s : State) : (restTimers s).mech.camTimer = s.mech.camTimer := rfl
@[simp] theorem restTimers_mech_ejectRead (s : State) : (restTimers s).mech.ejectRead = s.mech.ejectRead := rfl
@[simp] theorem restTimers_mech_inFlight (s : State) : (restTimers s).mech.inFlight = s.mech.inFlight := rfl
@[simp] theorem restTimers_mech_slot (s : State) : (restTimers s).mech.slot = s.mech.slot := rfl
@[simp] theorem restTimers_mech_owner (s : State) : (restTimers s).mech.owner = s.mech.owner := rfl
@[simp] theorem restTimers_mech_fault (s : State) : (restTimers s).mech.fault = s.mech.fault := rfl
@[simp] theorem restTimers_mech_tab (s : State) : (restTimers s).mech.tab = s.mech.tab := rfl
@[simp] theorem restTimers_mech_junction (s : State) : (restTimers s).mech.junction = s.mech.junction := rfl
@[simp] theorem restTimers_mech_junctionAt (s : State) : (restTimers s).mech.junctionAt = s.mech.junctionAt := rfl
@[simp] theorem restTimers_mech_cause (s : State) : (restTimers s).mech.cause = s.mech.cause := rfl
@[simp] theorem restTimers_mech_recoveryPending (s : State) : (restTimers s).mech.recoveryPending = s.mech.recoveryPending := rfl
@[simp] theorem restTimers_mech_recoveryRun (s : State) : (restTimers s).mech.recoveryRun = s.mech.recoveryRun := rfl
@[simp] theorem restTimers_mech_standbyStop (s : State) : (restTimers s).mech.standbyStop = s.mech.standbyStop := rfl
@[simp] theorem restTimers_mech_stall (s : State) : (restTimers s).mech.stall = s.mech.stall := rfl
@[simp] theorem restTimers_mech_still (s : State) : (restTimers s).mech.still = stillFollow s := rfl
@[simp] theorem restTimers_mech_halt (s : State) : (restTimers s).mech.halt = haltFollow s := rfl
@[simp] theorem transmit_link_receiver (s : State) : (transmit s).link.receiver = s.link.receiver := rfl
@[simp] theorem transmit_link_gap (s : State) : (transmit s).link.gap = s.link.gap := rfl
@[simp] theorem transmit_link_holding (s : State) : (transmit s).link.holding = s.link.holding := rfl
@[simp] theorem transmit_link_reply (s : State) : (transmit s).link.reply = s.link.reply := rfl
@[simp] theorem transmit_link_bootPending (s : State) : (transmit s).link.bootPending = s.link.bootPending := rfl
@[simp] theorem transmit_link_notices (s : State) : (transmit s).link.notices = s.link.notices := rfl
@[simp] theorem transmit_link_framing (s : State) : (transmit s).link.framing = s.link.framing := rfl
@[simp] theorem transmit_link_drop (s : State) : (transmit s).link.drop = s.link.drop := rfl
@[simp] theorem transmit_link_overflow (s : State) : (transmit s).link.overflow = s.link.overflow := rfl
@[simp] theorem transmit_link_signalOk (s : State) : (transmit s).link.signalOk = s.link.signalOk := rfl
@[simp] theorem transmit_link_tapeEnd (s : State) : (transmit s).link.tapeEnd = s.link.tapeEnd := rfl
@[simp] theorem transmit_link_servoSlip (s : State) : (transmit s).link.servoSlip = s.link.servoSlip := rfl
@[simp] theorem transmit_link_labelLost (s : State) : (transmit s).link.labelLost = s.link.labelLost := rfl
@[simp] theorem transmit_link_settings (s : State) : (transmit s).link.settings = s.link.settings := rfl

/-- With no report waiting there is nothing to work off. -/
theorem drain_idle (n : Nat) (s : State) (h : s.reports = []) : drain n s = s := by
  cases n <;> simp [drain, h]

/-- A report that hands on no other is worked off in one turn. -/
theorem drain_one (n : Nat) (r : Report) (s : State) (h : s.reports = [r])
    (h' : (handleReport r (s.nextReport [])).reports = []) : drain (n + 1) s = handleReport r (s.nextReport []) := by
  simp only [drain, h]; exact drain_idle _ _ h'

/-- The end of a step that has handed on nothing. -/
theorem finish_idle (s : State) (h : s.reports = []) : finish s = transmit (restTimers s) := by
  simp [finish, drain_idle _ _ h]

/-- R196: an event while RESET_N is high. -/
theorem run_high (f : State → State) (s : State) (h : s.pins.resetLow = false) : run f s = finish (f s) := by simp [run, h]

/-- R196: an event while RESET_N is low has no effect. -/
theorem run_low (f : State → State) (s : State) (h : s.pins.resetLow = true) : run f s = s := by simp [run, h]

/-! ### readCam: R1, R5, R29 -/

@[simp] theorem readCam_pins (s : State) : (readCam s).pins = s.pins := rfl
@[simp] theorem readCam_servo (s : State) : (readCam s).servo = s.servo := rfl
@[simp] theorem readCam_pos (s : State) : (readCam s).pos = s.pos := rfl
@[simp] theorem readCam_mark (s : State) : (readCam s).mark = s.mark := rfl
@[simp] theorem readCam_tuner (s : State) : (readCam s).tuner = s.tuner := rfl
@[simp] theorem readCam_ldd (s : State) : (readCam s).ldd = s.ldd := rfl
@[simp] theorem readCam_clock (s : State) : (readCam s).clock = s.clock := rfl
@[simp] theorem readCam_sched (s : State) : (readCam s).sched = s.sched := rfl
@[simp] theorem readCam_box (s : State) : (readCam s).box = s.box := rfl
@[simp] theorem readCam_pwr (s : State) : (readCam s).pwr = s.pwr := rfl
@[simp] theorem readCam_link (s : State) : (readCam s).link = s.link := rfl
@[simp] theorem readCam_reports (s : State) : (readCam s).reports = s.reports := rfl
@[simp] theorem readCam_pending (s : State) : (readCam s).pending = s.pending := rfl
@[simp] theorem readCam_mech (s : State) :
    (readCam s).mech = { s.mech with lastCode := if s.pins.cam = 7 then s.mech.lastCode else some s.pins.cam } := rfl

/-! ### countUnsettled: R102 -/

@[simp] theorem countUnsettled_pins (st : ModuleStatus) (s : State) : (countUnsettled st s).pins = s.pins := rfl
@[simp] theorem countUnsettled_mech (st : ModuleStatus) (s : State) : (countUnsettled st s).mech = s.mech := rfl
@[simp] theorem countUnsettled_servo (st : ModuleStatus) (s : State) : (countUnsettled st s).servo = s.servo := rfl
@[simp] theorem countUnsettled_pos (st : ModuleStatus) (s : State) : (countUnsettled st s).pos = s.pos := rfl
@[simp] theorem countUnsettled_mark (st : ModuleStatus) (s : State) : (countUnsettled st s).mark = s.mark := rfl
@[simp] theorem countUnsettled_ldd (st : ModuleStatus) (s : State) : (countUnsettled st s).ldd = s.ldd := rfl
@[simp] theorem countUnsettled_clock (st : ModuleStatus) (s : State) : (countUnsettled st s).clock = s.clock := rfl
@[simp] theorem countUnsettled_sched (st : ModuleStatus) (s : State) : (countUnsettled st s).sched = s.sched := rfl
@[simp] theorem countUnsettled_box (st : ModuleStatus) (s : State) : (countUnsettled st s).box = s.box := rfl
@[simp] theorem countUnsettled_pwr (st : ModuleStatus) (s : State) : (countUnsettled st s).pwr = s.pwr := rfl
@[simp] theorem countUnsettled_link (st : ModuleStatus) (s : State) : (countUnsettled st s).link = s.link := rfl
@[simp] theorem countUnsettled_reports (st : ModuleStatus) (s : State) : (countUnsettled st s).reports = s.reports := rfl
@[simp] theorem countUnsettled_pending (st : ModuleStatus) (s : State) : (countUnsettled st s).pending = s.pending := rfl
@[simp] theorem countUnsettled_tuner (st : ModuleStatus) (s : State) :
    (countUnsettled st s).tuner = { s.tuner with unsettled := if st.lock then 0 else s.tuner.unsettled + 1 } := rfl

end Sys2Proof.Machine
end

