-- ==== Sys2Proof/Laws/Requests.lean ====
section
/-!
SUPPORT. Sys2Proof/Laws/Requests.lean: what the message link does with a request's complete frame, said once (R199 to R201, R203).
-/

namespace Sys2Proof.Machine

/-- A state whose holding is empty is not changed by emptying it. -/
theorem State.emptied_holding (s : State) (h : s.link.holding = []) : (s.onLink fun l => { l with holding := [] }) = s := by
  obtain ⟨pins, mech, servo, pos, mark, tuner, ldd, clock, sched, box, pwr, link, reports, pending⟩ := s
  obtain ⟨receiver, gap, holding, reply, bootPending, notices, sending, framing, drop, overflow, signalOk, tapeEnd, servoSlip,
    labelLost, settings⟩ := link
  simp only [State.onLink] at *
  subst h
  rfl

/-- Adding to an empty holding and taking the oldest frame leaves the holding empty. -/
theorem takeNext_single (f : HeldFrame) (s : State) (hr : s.link.reply = none) (hh : s.link.holding = []) :
    takeNext (s.onLink fun l => { l with holding := l.holding ++ [f] }) = answerFrame f s := by
  have : (s.onLink fun l => { l with holding := l.holding ++ [f] }).onLink (fun l => { l with holding := [] }) = s := by
    rw [show (s.onLink fun l => { l with holding := l.holding ++ [f] }).onLink (fun l => { l with holding := [] }) =
      (s.onLink fun l => { l with holding := [] }) from rfl]
    exact s.emptied_holding hh
  simp only [takeNext, State.onLink_link, hr, hh, List.nil_append, this]

/-- R200, R201: a frame that arrives with the reply slot and the holding empty, out of STANDBY, is answered at once. -/
theorem arrive_open (f : HeldFrame) (s : State) (ht : s.takes) : arrive f s = answerFrame f s := by
  obtain ⟨-, hp, hr, hh⟩ := ht
  have ha : s.asleep = false := by simp [State.asleep, hp]
  have hw : linkWake f s = s := by simp [linkWake, wakeByFrame, ha]
  have : ¬ Config.holdingPlaces ≤ s.link.holding.length := by simp [hh, Config.holdingPlaces]
  simp only [arrive, this, if_false, hw, ha, Bool.false_and, supplySeen, Bool.false_eq_true]
  exact takeNext_single f s hr hh

/-- R201: a request so taken is answered with what its owning block answers. -/
theorem run_request_open (i : Instr) (s : State) (ht : s.takes) (hi : i ≠ .restart) (r : State × Answer)
    (hs : serve i s = some r) : run (arrive (.request i)) s = finish (replyWith (kindOf i) r) := by
  have h1 : answerFrame (.request i) s = replyWith (kindOf i) r := by
    cases i <;> first | exact absurd rfl hi | simp only [answerFrame, hs]
  rw [run_high _ _ ht.1.1, arrive_open _ _ ht, h1]

/-- The end of a step that has handed on nothing. -/
theorem finish_closed (s : State) (h : s.reports = []) : finish s = s.closed := finish_idle s h

/-- An event in a step that hands on nothing. -/
theorem run_closed (f : State → State) (s : State) (h : s.pins.resetLow = false) (hr : (f s).reports = []) :
    run f s = (f s).closed := by rw [run_high _ _ h, finish_closed _ hr]

/-- R201, R202: a request that its block answers without handing on a report: the reply stands, and the step ends. -/
theorem run_request_closed (i : Instr) (s : State) (ht : s.takes) (hi : i ≠ .restart) (r : State × Answer)
    (hs : serve i s = some r) (hr : r.1.reports = []) :
    run (arrive (.request i)) s = (r.1.answered (kindOf i) r.2.result r.2.reason r.2.data).closed := by
  rw [run_request_open i s ht hi r hs]; exact finish_closed _ hr

end Sys2Proof.Machine
end

