-- ==== Sys2Proof/Laws/Sched.lean ====
section
/-!
SUPPORT. Sys2Proof/Laws/Sched.lean: the Programme Scheduler with no occurrence to come (chapter 8): an evaluation finds nothing to do, and the
reports other blocks hand it are without effect.
-/

namespace Sys2Proof.Machine

/-- With no occurrence in the table no slot number gives one. -/
theorem slot_noOccurrence (s : State) (h : s.noOccurrence) (k : Nat) : (s.slot k).occ = none := by
  simp only [State.slot, List.getD_eq_getElem?_getD]
  cases hk : s.sched.slots[k - 1]? with
  | none => rfl
  | some t => exact h.1 t (List.mem_of_getElem? hk)

/-- R145: with no occurrence an evaluation leaves all as it was, and no due instant. -/
theorem evaluate_noOccurrence (s : State) (h : s.noOccurrence) : evaluate s = s.onSched fun c => { c with due := none } := by
  have hs := slot_noOccurrence s h
  have miss : ∀ l : List Nat, l.foldl (fun x k => missTest k x) s = s := by
    intro l
    induction l with
    | nil => rfl
    | cons k l ih => simp only [List.foldl_cons, missTest, hs]; exact ih
  have wins : ∀ l : List Nat, l.foldl (fun x k => windowOpening k x) s = s := by
    intro l
    induction l with
    | nil => rfl
    | cons k l ih => simp only [List.foldl_cons, windowOpening, hs]; exact ih
  have inst : holderInstants s = s := by simp [holderInstants, h.2]
  have order : waitOrder s = [] := by
    have : slotNumbers.filter (claims s) = [] := by
      apply List.filter_eq_nil_iff.mpr
      intro k _
      simp [claims, hs]
    simp [waitOrder, this]
  have due : dueInstants s = [] := by simp [dueInstants, hs]
  have setd : setDue s = s.onSched fun c => { c with due := none } := by simp [setDue, due]
  unfold evaluate
  split
  · simp only [miss, wins, inst, order, answerClaims, setd]
  · exact setd

/-- R153, R164: reports to SCHED without a holder change nothing. -/
theorem schedReport_free (out : EndCode) (s : State) (h : s.sched.holder = none) : schedReport out s = s := by
  simp [schedReport, State.holderState, h, EntryState.ends]

/-- R93: reports to MARK without a search change nothing. -/
theorem searchInterrupted_free (why : SearchWhy) (s : State) (h : s.mark.search = none) : searchInterrupted why s = s := by
  simp [searchInterrupted, h]

/-- R93: a leader's report to MARK without a search changes nothing. -/
theorem searchLeader_free (s : State) (h : s.mark.search = none) : searchLeader s = s := by simp [searchLeader, searchEnd, h]

end Sys2Proof.Machine
end

