-- ==== Sys2Proof/Laws/Mech.lean ====
section
/-!
SUPPORT. Sys2Proof/Laws/Mech.lean: what the shared operations of MECH, SERVO, POS and MARK leave alone, one lemma for each field
they keep, and what entering a mechanism state, driving the cam and counting a control pulse do.
-/

namespace Sys2Proof.Machine


/-! ### counterNotice: R68, R205 -/

@[simp] theorem counterNotice_pins (s : State) : (counterNotice s).pins = s.pins := by
  unfold counterNotice; split <;> simp
@[simp] theorem counterNotice_mech (s : State) : (counterNotice s).mech = s.mech := by
  unfold counterNotice; split <;> simp
@[simp] theorem counterNotice_servo (s : State) : (counterNotice s).servo = s.servo := by
  unfold counterNotice; split <;> simp
@[simp] theorem counterNotice_pos (s : State) : (counterNotice s).pos = s.pos := by
  unfold counterNotice; split <;> simp
@[simp] theorem counterNotice_mark (s : State) : (counterNotice s).mark = s.mark := by
  unfold counterNotice; split <;> simp
@[simp] theorem counterNotice_tuner (s : State) : (counterNotice s).tuner = s.tuner := by
  unfold counterNotice; split <;> simp
@[simp] theorem counterNotice_ldd (s : State) : (counterNotice s).ldd = s.ldd := by
  unfold counterNotice; split <;> simp
@[simp] theorem counterNotice_clock (s : State) : (counterNotice s).clock = s.clock := by
  unfold counterNotice; split <;> simp
@[simp] theorem counterNotice_sched (s : State) : (counterNotice s).sched = s.sched := by
  unfold counterNotice; split <;> simp
@[simp] theorem counterNotice_box (s : State) : (counterNotice s).box = s.box := by
  unfold counterNotice; split <;> simp
@[simp] theorem counterNotice_pwr (s : State) : (counterNotice s).pwr = s.pwr := by
  unfold counterNotice; split <;> simp
@[simp] theorem counterNotice_reports (s : State) : (counterNotice s).reports = s.reports := by
  unfold counterNotice; split <;> simp
@[simp] theorem counterNotice_pending (s : State) : (counterNotice s).pending = s.pending := by
  unfold counterNotice; split <;> simp
@[simp] theorem counterNotice_link_settings (s : State) : (counterNotice s).link.settings = s.link.settings := by
  unfold counterNotice; split <;> simp
@[simp] theorem counterNotice_link_reply (s : State) : (counterNotice s).link.reply = s.link.reply := by
  unfold counterNotice; split <;> simp
@[simp] theorem counterNotice_link_holding (s : State) : (counterNotice s).link.holding = s.link.holding := by
  unfold counterNotice; split <;> simp
@[simp] theorem counterNotice_link_framing (s : State) : (counterNotice s).link.framing = s.link.framing := by
  unfold counterNotice; split <;> simp
@[simp] theorem counterNotice_link_drop (s : State) : (counterNotice s).link.drop = s.link.drop := by
  unfold counterNotice; split <;> simp

/-! ### motionEnd: R66, R68, R69 -/

@[simp] theorem motionEnd_pins (s : State) : (motionEnd s).pins = s.pins := by
  unfold motionEnd; split <;> simp
@[simp] theorem motionEnd_mech (s : State) : (motionEnd s).mech = s.mech := by
  unfold motionEnd; split <;> simp
@[simp] theorem motionEnd_servo (s : State) : (motionEnd s).servo = s.servo := by
  unfold motionEnd; split <;> simp
@[simp] theorem motionEnd_mark (s : State) : (motionEnd s).mark = s.mark := by
  unfold motionEnd; split <;> simp
@[simp] theorem motionEnd_tuner (s : State) : (motionEnd s).tuner = s.tuner := by
  unfold motionEnd; split <;> simp
@[simp] theorem motionEnd_ldd (s : State) : (motionEnd s).ldd = s.ldd := by
  unfold motionEnd; split <;> simp
@[simp] theorem motionEnd_clock (s : State) : (motionEnd s).clock = s.clock := by
  unfold motionEnd; split <;> simp
@[simp] theorem motionEnd_sched (s : State) : (motionEnd s).sched = s.sched := by
  unfold motionEnd; split <;> simp
@[simp] theorem motionEnd_box (s : State) : (motionEnd s).box = s.box := by
  unfold motionEnd; split <;> simp
@[simp] theorem motionEnd_pwr (s : State) : (motionEnd s).pwr = s.pwr := by
  unfold motionEnd; split <;> simp
@[simp] theorem motionEnd_reports (s : State) : (motionEnd s).reports = s.reports := by
  unfold motionEnd; split <;> simp
@[simp] theorem motionEnd_pending (s : State) : (motionEnd s).pending = s.pending := by
  unfold motionEnd; split <;> simp
@[simp] theorem motionEnd_link_settings (s : State) : (motionEnd s).link.settings = s.link.settings := by
  unfold motionEnd; split <;> simp
@[simp] theorem motionEnd_link_reply (s : State) : (motionEnd s).link.reply = s.link.reply := by
  unfold motionEnd; split <;> simp
@[simp] theorem motionEnd_link_holding (s : State) : (motionEnd s).link.holding = s.link.holding := by
  unfold motionEnd; split <;> simp
@[simp] theorem motionEnd_link_framing (s : State) : (motionEnd s).link.framing = s.link.framing := by
  unfold motionEnd; split <;> simp
@[simp] theorem motionEnd_link_drop (s : State) : (motionEnd s).link.drop = s.link.drop := by
  unfold motionEnd; split <;> simp
@[simp] theorem motionEnd_pos_counter (s : State) : (motionEnd s).pos.counter = s.pos.counter := by
  unfold motionEnd; split <;> simp
@[simp] theorem motionEnd_pos_target (s : State) : (motionEnd s).pos.target = s.pos.target := by
  unfold motionEnd; split <;> simp
@[simp] theorem motionEnd_pos_acc (s : State) : (motionEnd s).pos.acc = s.pos.acc := by
  unfold motionEnd; split <;> simp
@[simp] theorem motionEnd_pos_approx (s : State) : (motionEnd s).pos.approx = s.pos.approx := by
  unfold motionEnd; split <;> simp
@[simp] theorem motionEnd_pos_source (s : State) : (motionEnd s).pos.source = s.pos.source := by
  unfold motionEnd; split <;> simp
@[simp] theorem motionEnd_pos_cls (s : State) : (motionEnd s).pos.cls = s.pos.cls := by
  unfold motionEnd; split <;> simp
@[simp] theorem motionEnd_pos_f16 (s : State) : (motionEnd s).pos.f16 = s.pos.f16 := by
  unfold motionEnd; split <;> simp
@[simp] theorem motionEnd_pos_motion (s : State) : (motionEnd s).pos.motion = none := by
  unfold motionEnd; split <;> simp [*]
/-- R40, R53: the direction of the motion that ends is kept for its overshoot. -/
theorem motionEnd_pos_coast (s : State) :
    (motionEnd s).pos.coast = (s.pos.motion.map Motion.forward).or s.pos.coast := by
  unfold motionEnd; split <;> simp [*]

/-! ### coastFollow: R40, R53 -/

@[simp] theorem coastFollow_pins (b : Bool) (s : State) : (coastFollow b s).pins = s.pins := by
  unfold coastFollow; split <;> simp
@[simp] theorem coastFollow_mech (b : Bool) (s : State) : (coastFollow b s).mech = s.mech := by
  unfold coastFollow; split <;> simp
@[simp] theorem coastFollow_servo (b : Bool) (s : State) : (coastFollow b s).servo = s.servo := by
  unfold coastFollow; split <;> simp
@[simp] theorem coastFollow_mark (b : Bool) (s : State) : (coastFollow b s).mark = s.mark := by
  unfold coastFollow; split <;> simp
@[simp] theorem coastFollow_tuner (b : Bool) (s : State) : (coastFollow b s).tuner = s.tuner := by
  unfold coastFollow; split <;> simp
@[simp] theorem coastFollow_ldd (b : Bool) (s : State) : (coastFollow b s).ldd = s.ldd := by
  unfold coastFollow; split <;> simp
@[simp] theorem coastFollow_clock (b : Bool) (s : State) : (coastFollow b s).clock = s.clock := by
  unfold coastFollow; split <;> simp
@[simp] theorem coastFollow_sched (b : Bool) (s : State) : (coastFollow b s).sched = s.sched := by
  unfold coastFollow; split <;> simp
@[simp] theorem coastFollow_box (b : Bool) (s : State) : (coastFollow b s).box = s.box := by
  unfold coastFollow; split <;> simp
@[simp] theorem coastFollow_pwr (b : Bool) (s : State) : (coastFollow b s).pwr = s.pwr := by
  unfold coastFollow; split <;> simp
@[simp] theorem coastFollow_link (b : Bool) (s : State) : (coastFollow b s).link = s.link := by
  unfold coastFollow; split <;> simp
@[simp] theorem coastFollow_reports (b : Bool) (s : State) : (coastFollow b s).reports = s.reports := by
  unfold coastFollow; split <;> simp
@[simp] theorem coastFollow_pending (b : Bool) (s : State) : (coastFollow b s).pending = s.pending := by
  unfold coastFollow; split <;> simp
@[simp] theorem coastFollow_pos_counter (b : Bool) (s : State) : (coastFollow b s).pos.counter = s.pos.counter := by
  unfold coastFollow; split <;> simp
@[simp] theorem coastFollow_pos_target (b : Bool) (s : State) : (coastFollow b s).pos.target = s.pos.target := by
  unfold coastFollow; split <;> simp
@[simp] theorem coastFollow_pos_acc (b : Bool) (s : State) : (coastFollow b s).pos.acc = s.pos.acc := by
  unfold coastFollow; split <;> simp
@[simp] theorem coastFollow_pos_approx (b : Bool) (s : State) : (coastFollow b s).pos.approx = s.pos.approx := by
  unfold coastFollow; split <;> simp
@[simp] theorem coastFollow_pos_source (b : Bool) (s : State) : (coastFollow b s).pos.source = s.pos.source := by
  unfold coastFollow; split <;> simp
@[simp] theorem coastFollow_pos_cls (b : Bool) (s : State) : (coastFollow b s).pos.cls = s.pos.cls := by
  unfold coastFollow; split <;> simp
@[simp] theorem coastFollow_pos_f16 (b : Bool) (s : State) : (coastFollow b s).pos.f16 = s.pos.f16 := by
  unfold coastFollow; split <;> simp
@[simp] theorem coastFollow_pos_estState (b : Bool) (s : State) : (coastFollow b s).pos.estState = s.pos.estState := by
  unfold coastFollow; split <;> simp
@[simp] theorem coastFollow_pos_motion (b : Bool) (s : State) : (coastFollow b s).pos.motion = s.pos.motion := by
  unfold coastFollow; split <;> simp
theorem coastFollow_pos_coast (b : Bool) (s : State) : (coastFollow b s).pos.coast = if b then s.pos.coast else none := by
  unfold coastFollow; split <;> simp_all

/-! ### motionBegin: R53, R62 -/

@[simp] theorem motionBegin_pins (b : Bool) (s : State) : (motionBegin b s).pins = s.pins := by
  simp [motionBegin, reelsRestart]
@[simp] theorem motionBegin_servo (b : Bool) (s : State) : (motionBegin b s).servo = s.servo := by
  simp [motionBegin, reelsRestart]
@[simp] theorem motionBegin_mark (b : Bool) (s : State) : (motionBegin b s).mark = s.mark := by
  simp [motionBegin, reelsRestart]
@[simp] theorem motionBegin_tuner (b : Bool) (s : State) : (motionBegin b s).tuner = s.tuner := by
  simp [motionBegin, reelsRestart]
@[simp] theorem motionBegin_ldd (b : Bool) (s : State) : (motionBegin b s).ldd = s.ldd := by
  simp [motionBegin, reelsRestart]
@[simp] theorem motionBegin_clock (b : Bool) (s : State) : (motionBegin b s).clock = s.clock := by
  simp [motionBegin, reelsRestart]
@[simp] theorem motionBegin_sched (b : Bool) (s : State) : (motionBegin b s).sched = s.sched := by
  simp [motionBegin, reelsRestart]
@[simp] theorem motionBegin_box (b : Bool) (s : State) : (motionBegin b s).box = s.box := by
  simp [motionBegin, reelsRestart]
@[simp] theorem motionBegin_pwr (b : Bool) (s : State) : (motionBegin b s).pwr = s.pwr := by
  simp [motionBegin, reelsRestart]
@[simp] theorem motionBegin_reports (b : Bool) (s : State) : (motionBegin b s).reports = s.reports := by
  simp [motionBegin, reelsRestart]
@[simp] theorem motionBegin_pending (b : Bool) (s : State) : (motionBegin b s).pending = s.pending := by
  simp [motionBegin, reelsRestart]
@[simp] theorem motionBegin_link (b : Bool) (s : State) : (motionBegin b s).link = s.link := by
  simp [motionBegin, reelsRestart]
@[simp] theorem motionBegin_pos_counter (b : Bool) (s : State) : (motionBegin b s).pos.counter = s.pos.counter := by
  simp [motionBegin, reelsRestart]
@[simp] theorem motionBegin_pos_target (b : Bool) (s : State) : (motionBegin b s).pos.target = s.pos.target := by
  simp [motionBegin, reelsRestart]
@[simp] theorem motionBegin_pos_acc (b : Bool) (s : State) : (motionBegin b s).pos.acc = s.pos.acc := by
  simp [motionBegin, reelsRestart]
@[simp] theorem motionBegin_pos_approx (b : Bool) (s : State) : (motionBegin b s).pos.approx = s.pos.approx := by
  simp [motionBegin, reelsRestart]
@[simp] theorem motionBegin_pos_cls (b : Bool) (s : State) : (motionBegin b s).pos.cls = s.pos.cls := by
  simp [motionBegin, reelsRestart]
@[simp] theorem motionBegin_pos_f16 (b : Bool) (s : State) : (motionBegin b s).pos.f16 = s.pos.f16 := by
  simp [motionBegin, reelsRestart]
@[simp] theorem motionBegin_pos_estState (b : Bool) (s : State) : (motionBegin b s).pos.estState = s.pos.estState := by
  simp [motionBegin, reelsRestart]
@[simp] theorem motionBegin_pos_coast (b : Bool) (s : State) : (motionBegin b s).pos.coast = s.pos.coast := by
  simp [motionBegin, reelsRestart]
@[simp] theorem motionBegin_mech_state (b : Bool) (s : State) : (motionBegin b s).mech.state = s.mech.state := by
  simp [motionBegin, reelsRestart]
@[simp] theorem motionBegin_mech_target (b : Bool) (s : State) : (motionBegin b s).mech.target = s.mech.target := by
  simp [motionBegin, reelsRestart]
@[simp] theorem motionBegin_mech_camTarget (b : Bool) (s : State) : (motionBegin b s).mech.camTarget = s.mech.camTarget := by
  simp [motionBegin, reelsRestart]
@[simp] theorem motionBegin_mech_lastCode (b : Bool) (s : State) : (motionBegin b s).mech.lastCode = s.mech.lastCode := by
  simp [motionBegin, reelsRestart]
@[simp] theorem motionBegin_mech_motor (b : Bool) (s : State) : (motionBegin b s).mech.motor = s.mech.motor := by
  simp [motionBegin, reelsRestart]
@[simp] theorem motionBegin_mech_reel (b : Bool) (s : State) : (motionBegin b s).mech.reel = s.mech.reel := by
  simp [motionBegin, reelsRestart]
@[simp] theorem motionBegin_mech_windSlow (b : Bool) (s : State) : (motionBegin b s).mech.windSlow = s.mech.windSlow := by
  simp [motionBegin, reelsRestart]
@[simp] theorem motionBegin_mech_recAmp (b : Bool) (s : State) : (motionBegin b s).mech.recAmp = s.mech.recAmp := by
  simp [motionBegin, reelsRestart]
@[simp] theorem motionBegin_mech_camTimer (b : Bool) (s : State) : (motionBegin b s).mech.camTimer = s.mech.camTimer := by
  simp [motionBegin, reelsRestart]
@[simp] theorem motionBegin_mech_ejectRead (b : Bool) (s : State) : (motionBegin b s).mech.ejectRead = s.mech.ejectRead := by
  simp [motionBegin, reelsRestart]
@[simp] theorem motionBegin_mech_inFlight (b : Bool) (s : State) : (motionBegin b s).mech.inFlight = s.mech.inFlight := by
  simp [motionBegin, reelsRestart]
@[simp] theorem motionBegin_mech_slot (b : Bool) (s : State) : (motionBegin b s).mech.slot = s.mech.slot := by
  simp [motionBegin, reelsRestart]
@[simp] theorem motionBegin_mech_owner (b : Bool) (s : State) : (motionBegin b s).mech.owner = s.mech.owner := by
  simp [motionBegin, reelsRestart]
@[simp] theorem motionBegin_mech_fault (b : Bool) (s : State) : (motionBegin b s).mech.fault = s.mech.fault := by
  simp [motionBegin, reelsRestart]
@[simp] theorem motionBegin_mech_tab (b : Bool) (s : State) : (motionBegin b s).mech.tab = s.mech.tab := by
  simp [motionBegin, reelsRestart]
@[simp] theorem motionBegin_mech_still (b : Bool) (s : State) : (motionBegin b s).mech.still = s.mech.still := by
  simp [motionBegin, reelsRestart]
@[simp] theorem motionBegin_mech_halt (b : Bool) (s : State) : (motionBegin b s).mech.halt = s.mech.halt := by
  simp [motionBegin, reelsRestart]
@[simp] theorem motionBegin_mech_junction (b : Bool) (s : State) : (motionBegin b s).mech.junction = s.mech.junction := by
  simp [motionBegin, reelsRestart]
@[simp] theorem motionBegin_mech_junctionAt (b : Bool) (s : State) : (motionBegin b s).mech.junctionAt = s.mech.junctionAt := by
  simp [motionBegin, reelsRestart]
@[simp] theorem motionBegin_mech_cause (b : Bool) (s : State) : (motionBegin b s).mech.cause = s.mech.cause := by
  simp [motionBegin, reelsRestart]
@[simp] theorem motionBegin_mech_recoveryPending (b : Bool) (s : State) : (motionBegin b s).mech.recoveryPending = s.mech.recoveryPending := by
  simp [motionBegin, reelsRestart]
@[simp] theorem motionBegin_mech_recoveryRun (b : Bool) (s : State) : (motionBegin b s).mech.recoveryRun = s.mech.recoveryRun := by
  simp [motionBegin, reelsRestart]
@[simp] theorem motionBegin_mech_standbyStop (b : Bool) (s : State) : (motionBegin b s).mech.standbyStop = s.mech.standbyStop := by
  simp [motionBegin, reelsRestart]

/-! ### runClear: R64 -/

@[simp] theorem runClear_pins (s : State) : (runClear s).pins = s.pins := by
  simp [runClear]
@[simp] theorem runClear_mech (s : State) : (runClear s).mech = s.mech := by
  simp [runClear]
@[simp] theorem runClear_servo (s : State) : (runClear s).servo = s.servo := by
  simp [runClear]
@[simp] theorem runClear_mark (s : State) : (runClear s).mark = s.mark := by
  simp [runClear]
@[simp] theorem runClear_tuner (s : State) : (runClear s).tuner = s.tuner := by
  simp [runClear]
@[simp] theorem runClear_ldd (s : State) : (runClear s).ldd = s.ldd := by
  simp [runClear]
@[simp] theorem runClear_clock (s : State) : (runClear s).clock = s.clock := by
  simp [runClear]
@[simp] theorem runClear_sched (s : State) : (runClear s).sched = s.sched := by
  simp [runClear]
@[simp] theorem runClear_box (s : State) : (runClear s).box = s.box := by
  simp [runClear]
@[simp] theorem runClear_pwr (s : State) : (runClear s).pwr = s.pwr := by
  simp [runClear]
@[simp] theorem runClear_reports (s : State) : (runClear s).reports = s.reports := by
  simp [runClear]
@[simp] theorem runClear_pending (s : State) : (runClear s).pending = s.pending := by
  simp [runClear]
@[simp] theorem runClear_link (s : State) : (runClear s).link = s.link := by
  simp [runClear]
@[simp] theorem runClear_pos_counter (s : State) : (runClear s).pos.counter = s.pos.counter := by
  simp [runClear]
@[simp] theorem runClear_pos_target (s : State) : (runClear s).pos.target = s.pos.target := by
  simp [runClear]
@[simp] theorem runClear_pos_acc (s : State) : (runClear s).pos.acc = s.pos.acc := by
  simp [runClear]
@[simp] theorem runClear_pos_approx (s : State) : (runClear s).pos.approx = s.pos.approx := by
  simp [runClear]
@[simp] theorem runClear_pos_source (s : State) : (runClear s).pos.source = s.pos.source := by
  simp [runClear]
@[simp] theorem runClear_pos_cls (s : State) : (runClear s).pos.cls = s.pos.cls := by
  simp [runClear]
@[simp] theorem runClear_pos_f16 (s : State) : (runClear s).pos.f16 = s.pos.f16 := by
  simp [runClear]
@[simp] theorem runClear_pos_estState (s : State) : (runClear s).pos.estState = s.pos.estState := by
  simp [runClear]
@[simp] theorem runClear_pos_motion (s : State) : (runClear s).pos.motion = s.pos.motion := by
  simp [runClear]
@[simp] theorem runClear_pos_coast (s : State) : (runClear s).pos.coast = s.pos.coast := by
  simp [runClear]

/-! ### markAbort: R83 -/

@[simp] theorem markAbort_pins (c : AbortCause) (s : State) : (markAbort c s).pins = s.pins := by
  unfold markAbort; split <;> simp
@[simp] theorem markAbort_mech (c : AbortCause) (s : State) : (markAbort c s).mech = s.mech := by
  unfold markAbort; split <;> simp
@[simp] theorem markAbort_servo (c : AbortCause) (s : State) : (markAbort c s).servo = s.servo := by
  unfold markAbort; split <;> simp
@[simp] theorem markAbort_pos (c : AbortCause) (s : State) : (markAbort c s).pos = s.pos := by
  unfold markAbort; split <;> simp
@[simp] theorem markAbort_tuner (c : AbortCause) (s : State) : (markAbort c s).tuner = s.tuner := by
  unfold markAbort; split <;> simp
@[simp] theorem markAbort_ldd (c : AbortCause) (s : State) : (markAbort c s).ldd = s.ldd := by
  unfold markAbort; split <;> simp
@[simp] theorem markAbort_clock (c : AbortCause) (s : State) : (markAbort c s).clock = s.clock := by
  unfold markAbort; split <;> simp
@[simp] theorem markAbort_sched (c : AbortCause) (s : State) : (markAbort c s).sched = s.sched := by
  unfold markAbort; split <;> simp
@[simp] theorem markAbort_box (c : AbortCause) (s : State) : (markAbort c s).box = s.box := by
  unfold markAbort; split <;> simp
@[simp] theorem markAbort_pwr (c : AbortCause) (s : State) : (markAbort c s).pwr = s.pwr := by
  unfold markAbort; split <;> simp
@[simp] theorem markAbort_reports (c : AbortCause) (s : State) : (markAbort c s).reports = s.reports := by
  unfold markAbort; split <;> simp
@[simp] theorem markAbort_pending (c : AbortCause) (s : State) : (markAbort c s).pending = s.pending := by
  unfold markAbort; split <;> simp
@[simp] theorem markAbort_link_settings (c : AbortCause) (s : State) : (markAbort c s).link.settings = s.link.settings := by
  unfold markAbort; split <;> simp
@[simp] theorem markAbort_link_reply (c : AbortCause) (s : State) : (markAbort c s).link.reply = s.link.reply := by
  unfold markAbort; split <;> simp
@[simp] theorem markAbort_link_holding (c : AbortCause) (s : State) : (markAbort c s).link.holding = s.link.holding := by
  unfold markAbort; split <;> simp
@[simp] theorem markAbort_link_framing (c : AbortCause) (s : State) : (markAbort c s).link.framing = s.link.framing := by
  unfold markAbort; split <;> simp
@[simp] theorem markAbort_link_drop (c : AbortCause) (s : State) : (markAbort c s).link.drop = s.link.drop := by
  unfold markAbort; split <;> simp
@[simp] theorem markAbort_mark_list (c : AbortCause) (s : State) : (markAbort c s).mark.list = s.mark.list := by
  unfold markAbort; split <;> simp
@[simp] theorem markAbort_mark_search (c : AbortCause) (s : State) : (markAbort c s).mark.search = s.mark.search := by
  unfold markAbort; split <;> simp
@[simp] theorem markAbort_mark_reader (c : AbortCause) (s : State) : (markAbort c s).mark.reader = s.mark.reader := by
  unfold markAbort; split <;> simp

/-! ### markLeave: R83 -/

@[simp] theorem markLeave_pins (a b : MState) (s : State) : (markLeave a b s).pins = s.pins := by
  unfold markLeave; (repeat' split) <;> simp
@[simp] theorem markLeave_mech (a b : MState) (s : State) : (markLeave a b s).mech = s.mech := by
  unfold markLeave; (repeat' split) <;> simp
@[simp] theorem markLeave_servo (a b : MState) (s : State) : (markLeave a b s).servo = s.servo := by
  unfold markLeave; (repeat' split) <;> simp
@[simp] theorem markLeave_pos (a b : MState) (s : State) : (markLeave a b s).pos = s.pos := by
  unfold markLeave; (repeat' split) <;> simp
@[simp] theorem markLeave_tuner (a b : MState) (s : State) : (markLeave a b s).tuner = s.tuner := by
  unfold markLeave; (repeat' split) <;> simp
@[simp] theorem markLeave_ldd (a b : MState) (s : State) : (markLeave a b s).ldd = s.ldd := by
  unfold markLeave; (repeat' split) <;> simp
@[simp] theorem markLeave_clock (a b : MState) (s : State) : (markLeave a b s).clock = s.clock := by
  unfold markLeave; (repeat' split) <;> simp
@[simp] theorem markLeave_sched (a b : MState) (s : State) : (markLeave a b s).sched = s.sched := by
  unfold markLeave; (repeat' split) <;> simp
@[simp] theorem markLeave_box (a b : MState) (s : State) : (markLeave a b s).box = s.box := by
  unfold markLeave; (repeat' split) <;> simp
@[simp] theorem markLeave_pwr (a b : MState) (s : State) : (markLeave a b s).pwr = s.pwr := by
  unfold markLeave; (repeat' split) <;> simp
@[simp] theorem markLeave_reports (a b : MState) (s : State) : (markLeave a b s).reports = s.reports := by
  unfold markLeave; (repeat' split) <;> simp
@[simp] theorem markLeave_pending (a b : MState) (s : State) : (markLeave a b s).pending = s.pending := by
  unfold markLeave; (repeat' split) <;> simp
@[simp] theorem markLeave_link_settings (a b : MState) (s : State) : (markLeave a b s).link.settings = s.link.settings := by
  unfold markLeave; (repeat' split) <;> simp
@[simp] theorem markLeave_link_reply (a b : MState) (s : State) : (markLeave a b s).link.reply = s.link.reply := by
  unfold markLeave; (repeat' split) <;> simp
@[simp] theorem markLeave_link_holding (a b : MState) (s : State) : (markLeave a b s).link.holding = s.link.holding := by
  unfold markLeave; (repeat' split) <;> simp
@[simp] theorem markLeave_link_framing (a b : MState) (s : State) : (markLeave a b s).link.framing = s.link.framing := by
  unfold markLeave; (repeat' split) <;> simp
@[simp] theorem markLeave_link_drop (a b : MState) (s : State) : (markLeave a b s).link.drop = s.link.drop := by
  unfold markLeave; (repeat' split) <;> simp
@[simp] theorem markLeave_mark_list (a b : MState) (s : State) : (markLeave a b s).mark.list = s.mark.list := by
  unfold markLeave; (repeat' split) <;> simp
@[simp] theorem markLeave_mark_search (a b : MState) (s : State) : (markLeave a b s).mark.search = s.mark.search := by
  unfold markLeave; (repeat' split) <;> simp
@[simp] theorem markLeave_mark_reader (a b : MState) (s : State) : (markLeave a b s).mark.reader = s.mark.reader := by
  unfold markLeave; (repeat' split) <;> simp

/-! ### readerClear: R75, R94 -/

@[simp] theorem readerClear_pins (s : State) : (readerClear s).pins = s.pins := by
  simp [readerClear]
@[simp] theorem readerClear_mech (s : State) : (readerClear s).mech = s.mech := by
  simp [readerClear]
@[simp] theorem readerClear_servo (s : State) : (readerClear s).servo = s.servo := by
  simp [readerClear]
@[simp] theorem readerClear_pos (s : State) : (readerClear s).pos = s.pos := by
  simp [readerClear]
@[simp] theorem readerClear_tuner (s : State) : (readerClear s).tuner = s.tuner := by
  simp [readerClear]
@[simp] theorem readerClear_ldd (s : State) : (readerClear s).ldd = s.ldd := by
  simp [readerClear]
@[simp] theorem readerClear_clock (s : State) : (readerClear s).clock = s.clock := by
  simp [readerClear]
@[simp] theorem readerClear_sched (s : State) : (readerClear s).sched = s.sched := by
  simp [readerClear]
@[simp] theorem readerClear_box (s : State) : (readerClear s).box = s.box := by
  simp [readerClear]
@[simp] theorem readerClear_pwr (s : State) : (readerClear s).pwr = s.pwr := by
  simp [readerClear]
@[simp] theorem readerClear_reports (s : State) : (readerClear s).reports = s.reports := by
  simp [readerClear]
@[simp] theorem readerClear_pending (s : State) : (readerClear s).pending = s.pending := by
  simp [readerClear]
@[simp] theorem readerClear_link (s : State) : (readerClear s).link = s.link := by
  simp [readerClear]
@[simp] theorem readerClear_mark_list (s : State) : (readerClear s).mark.list = s.mark.list := by
  simp [readerClear]
@[simp] theorem readerClear_mark_search (s : State) : (readerClear s).mark.search = s.mark.search := by
  simp [readerClear]
@[simp] theorem readerClear_mark_writer (s : State) : (readerClear s).mark.writer = s.mark.writer := by
  simp [readerClear]

/-! ### loopsFollow: R42, R64 -/

@[simp] theorem loopsFollow_pins (s : State) : (loopsFollow s).pins = s.pins := by
  unfold loopsFollow; simp only []; split <;> simp
@[simp] theorem loopsFollow_mech (s : State) : (loopsFollow s).mech = s.mech := by
  unfold loopsFollow; simp only []; split <;> simp
@[simp] theorem loopsFollow_mark (s : State) : (loopsFollow s).mark = s.mark := by
  unfold loopsFollow; simp only []; split <;> simp
@[simp] theorem loopsFollow_tuner (s : State) : (loopsFollow s).tuner = s.tuner := by
  unfold loopsFollow; simp only []; split <;> simp
@[simp] theorem loopsFollow_ldd (s : State) : (loopsFollow s).ldd = s.ldd := by
  unfold loopsFollow; simp only []; split <;> simp
@[simp] theorem loopsFollow_clock (s : State) : (loopsFollow s).clock = s.clock := by
  unfold loopsFollow; simp only []; split <;> simp
@[simp] theorem loopsFollow_sched (s : State) : (loopsFollow s).sched = s.sched := by
  unfold loopsFollow; simp only []; split <;> simp
@[simp] theorem loopsFollow_box (s : State) : (loopsFollow s).box = s.box := by
  unfold loopsFollow; simp only []; split <;> simp
@[simp] theorem loopsFollow_pwr (s : State) : (loopsFollow s).pwr = s.pwr := by
  unfold loopsFollow; simp only []; split <;> simp
@[simp] theorem loopsFollow_reports (s : State) : (loopsFollow s).reports = s.reports := by
  unfold loopsFollow; simp only []; split <;> simp
@[simp] theorem loopsFollow_pending (s : State) : (loopsFollow s).pending = s.pending := by
  unfold loopsFollow; simp only []; split <;> simp
@[simp] theorem loopsFollow_link (s : State) : (loopsFollow s).link = s.link := by
  unfold loopsFollow; simp only []; split <;> simp
@[simp] theorem loopsFollow_pos_counter (s : State) : (loopsFollow s).pos.counter = s.pos.counter := by
  unfold loopsFollow; simp only []; split <;> simp
@[simp] theorem loopsFollow_pos_target (s : State) : (loopsFollow s).pos.target = s.pos.target := by
  unfold loopsFollow; simp only []; split <;> simp
@[simp] theorem loopsFollow_pos_acc (s : State) : (loopsFollow s).pos.acc = s.pos.acc := by
  unfold loopsFollow; simp only []; split <;> simp
@[simp] theorem loopsFollow_pos_approx (s : State) : (loopsFollow s).pos.approx = s.pos.approx := by
  unfold loopsFollow; simp only []; split <;> simp
@[simp] theorem loopsFollow_pos_source (s : State) : (loopsFollow s).pos.source = s.pos.source := by
  unfold loopsFollow; simp only []; split <;> simp
@[simp] theorem loopsFollow_pos_cls (s : State) : (loopsFollow s).pos.cls = s.pos.cls := by
  unfold loopsFollow; simp only []; split <;> simp
@[simp] theorem loopsFollow_pos_f16 (s : State) : (loopsFollow s).pos.f16 = s.pos.f16 := by
  unfold loopsFollow; simp only []; split <;> simp
@[simp] theorem loopsFollow_pos_estState (s : State) : (loopsFollow s).pos.estState = s.pos.estState := by
  unfold loopsFollow; simp only []; split <;> simp
@[simp] theorem loopsFollow_pos_motion (s : State) : (loopsFollow s).pos.motion = s.pos.motion := by
  unfold loopsFollow; simp only []; split <;> simp
@[simp] theorem loopsFollow_pos_coast (s : State) : (loopsFollow s).pos.coast = s.pos.coast := by
  unfold loopsFollow; simp only []; split <;> simp
@[simp] theorem loopsFollow_servo_drum (s : State) : (loopsFollow s).servo.drum = s.servo.drum := by
  unfold loopsFollow; simp only []; split <;> simp
@[simp] theorem loopsFollow_servo_capstan (s : State) : (loopsFollow s).servo.capstan = s.servo.capstan := by
  unfold loopsFollow; simp only []; split <;> simp
@[simp] theorem loopsFollow_servo_tracking (s : State) : (loopsFollow s).servo.tracking = s.servo.tracking := by
  unfold loopsFollow; simp only []; split <;> simp
@[simp] theorem loopsFollow_servo_slip (s : State) : (loopsFollow s).servo.slip = s.servo.slip := by
  unfold loopsFollow; simp only []; split <;> simp
@[simp] theorem loopsFollow_servo_reference (s : State) : (loopsFollow s).servo.reference = s.servo.reference := by
  unfold loopsFollow; simp only []; split <;> simp
@[simp] theorem loopsFollow_servo_recSpeed (s : State) : (loopsFollow s).servo.recSpeed = s.servo.recSpeed := by
  unfold loopsFollow; simp only []; split <;> simp
@[simp] theorem loopsFollow_servo_playSpeed (s : State) : (loopsFollow s).servo.playSpeed = s.servo.playSpeed := by
  unfold loopsFollow; simp only []; split <;> simp
@[simp] theorem loopsFollow_servo_envelope (s : State) : (loopsFollow s).servo.envelope = s.servo.envelope := by
  unfold loopsFollow; simp only []; split <;> simp

/-! ### testReference: R38, R39 -/

@[simp] theorem testReference_pins (s : State) : (testReference s).pins = s.pins := by
  unfold testReference; simp only []; split <;> simp
@[simp] theorem testReference_mech (s : State) : (testReference s).mech = s.mech := by
  unfold testReference; simp only []; split <;> simp
@[simp] theorem testReference_mark (s : State) : (testReference s).mark = s.mark := by
  unfold testReference; simp only []; split <;> simp
@[simp] theorem testReference_tuner (s : State) : (testReference s).tuner = s.tuner := by
  unfold testReference; simp only []; split <;> simp
@[simp] theorem testReference_ldd (s : State) : (testReference s).ldd = s.ldd := by
  unfold testReference; simp only []; split <;> simp
@[simp] theorem testReference_clock (s : State) : (testReference s).clock = s.clock := by
  unfold testReference; simp only []; split <;> simp
@[simp] theorem testReference_sched (s : State) : (testReference s).sched = s.sched := by
  unfold testReference; simp only []; split <;> simp
@[simp] theorem testReference_box (s : State) : (testReference s).box = s.box := by
  unfold testReference; simp only []; split <;> simp
@[simp] theorem testReference_pwr (s : State) : (testReference s).pwr = s.pwr := by
  unfold testReference; simp only []; split <;> simp
@[simp] theorem testReference_reports (s : State) : (testReference s).reports = s.reports := by
  unfold testReference; simp only []; split <;> simp
@[simp] theorem testReference_pending (s : State) : (testReference s).pending = s.pending := by
  unfold testReference; simp only []; split <;> simp
@[simp] theorem testReference_link_settings (s : State) : (testReference s).link.settings = s.link.settings := by
  unfold testReference; simp only []; split <;> simp
@[simp] theorem testReference_link_reply (s : State) : (testReference s).link.reply = s.link.reply := by
  unfold testReference; simp only []; split <;> simp
@[simp] theorem testReference_link_holding (s : State) : (testReference s).link.holding = s.link.holding := by
  unfold testReference; simp only []; split <;> simp
@[simp] theorem testReference_link_framing (s : State) : (testReference s).link.framing = s.link.framing := by
  unfold testReference; simp only []; split <;> simp
@[simp] theorem testReference_link_drop (s : State) : (testReference s).link.drop = s.link.drop := by
  unfold testReference; simp only []; split <;> simp
@[simp] theorem testReference_pos_counter (s : State) : (testReference s).pos.counter = s.pos.counter := by
  unfold testReference; simp only []; split <;> simp
@[simp] theorem testReference_pos_target (s : State) : (testReference s).pos.target = s.pos.target := by
  unfold testReference; simp only []; split <;> simp
@[simp] theorem testReference_pos_acc (s : State) : (testReference s).pos.acc = s.pos.acc := by
  unfold testReference; simp only []; split <;> simp
@[simp] theorem testReference_pos_approx (s : State) : (testReference s).pos.approx = s.pos.approx := by
  unfold testReference; simp only []; split <;> simp
@[simp] theorem testReference_pos_source (s : State) : (testReference s).pos.source = s.pos.source := by
  unfold testReference; simp only []; split <;> simp
@[simp] theorem testReference_pos_cls (s : State) : (testReference s).pos.cls = s.pos.cls := by
  unfold testReference; simp only []; split <;> simp
@[simp] theorem testReference_pos_f16 (s : State) : (testReference s).pos.f16 = s.pos.f16 := by
  unfold testReference; simp only []; split <;> simp
@[simp] theorem testReference_pos_estState (s : State) : (testReference s).pos.estState = s.pos.estState := by
  unfold testReference; simp only []; split <;> simp
@[simp] theorem testReference_pos_motion (s : State) : (testReference s).pos.motion = s.pos.motion := by
  unfold testReference; simp only []; split <;> simp
@[simp] theorem testReference_pos_coast (s : State) : (testReference s).pos.coast = s.pos.coast := by
  unfold testReference; simp only []; split <;> simp
@[simp] theorem testReference_servo_capstan (s : State) : (testReference s).servo.capstan = s.servo.capstan := by
  unfold testReference; simp only []; split <;> simp
@[simp] theorem testReference_servo_tracking (s : State) : (testReference s).servo.tracking = s.servo.tracking := by
  unfold testReference; simp only []; split <;> simp
@[simp] theorem testReference_servo_slip (s : State) : (testReference s).servo.slip = s.servo.slip := by
  unfold testReference; simp only []; split <;> simp
@[simp] theorem testReference_servo_recSpeed (s : State) : (testReference s).servo.recSpeed = s.servo.recSpeed := by
  unfold testReference; simp only []; split <;> simp
@[simp] theorem testReference_servo_playSpeed (s : State) : (testReference s).servo.playSpeed = s.servo.playSpeed := by
  unfold testReference; simp only []; split <;> simp
@[simp] theorem testReference_servo_envelope (s : State) : (testReference s).servo.envelope = s.servo.envelope := by
  unfold testReference; simp only []; split <;> simp

/-! ### recordStopped: R169 -/

@[simp] theorem recordStopped_pins (s : State) : (recordStopped s).pins = s.pins := by
  unfold recordStopped; (repeat' split) <;> simp
@[simp] theorem recordStopped_mech (s : State) : (recordStopped s).mech = s.mech := by
  unfold recordStopped; (repeat' split) <;> simp
@[simp] theorem recordStopped_servo (s : State) : (recordStopped s).servo = s.servo := by
  unfold recordStopped; (repeat' split) <;> simp
@[simp] theorem recordStopped_pos (s : State) : (recordStopped s).pos = s.pos := by
  unfold recordStopped; (repeat' split) <;> simp
@[simp] theorem recordStopped_mark (s : State) : (recordStopped s).mark = s.mark := by
  unfold recordStopped; (repeat' split) <;> simp
@[simp] theorem recordStopped_tuner (s : State) : (recordStopped s).tuner = s.tuner := by
  unfold recordStopped; (repeat' split) <;> simp
@[simp] theorem recordStopped_ldd (s : State) : (recordStopped s).ldd = s.ldd := by
  unfold recordStopped; (repeat' split) <;> simp
@[simp] theorem recordStopped_clock (s : State) : (recordStopped s).clock = s.clock := by
  unfold recordStopped; (repeat' split) <;> simp
@[simp] theorem recordStopped_box (s : State) : (recordStopped s).box = s.box := by
  unfold recordStopped; (repeat' split) <;> simp
@[simp] theorem recordStopped_pwr (s : State) : (recordStopped s).pwr = s.pwr := by
  unfold recordStopped; (repeat' split) <;> simp
@[simp] theorem recordStopped_reports (s : State) : (recordStopped s).reports = s.reports := by
  unfold recordStopped; (repeat' split) <;> simp
@[simp] theorem recordStopped_pending (s : State) : (recordStopped s).pending = s.pending := by
  unfold recordStopped; (repeat' split) <;> simp
@[simp] theorem recordStopped_link (s : State) : (recordStopped s).link = s.link := by
  unfold recordStopped; (repeat' split) <;> simp
@[simp] theorem recordStopped_sched_due (s : State) : (recordStopped s).sched.due = s.sched.due := by
  unfold recordStopped; (repeat' split) <;> simp
@[simp] theorem recordStopped_sched_stopAt (s : State) : (recordStopped s).sched.stopAt = s.sched.stopAt := by
  unfold recordStopped; (repeat' split) <;> simp
@[simp] theorem recordStopped_sched_schedAt (s : State) : (recordStopped s).sched.schedAt = s.sched.schedAt := by
  unfold recordStopped; (repeat' split) <;> simp
@[simp] theorem recordStopped_sched_windowAt (s : State) : (recordStopped s).sched.windowAt = s.sched.windowAt := by
  unfold recordStopped; (repeat' split) <;> simp

/-! ### servoEnter: R33 -/

@[simp] theorem servoEnter_pins (a : MState) (b : Bool) (s : State) : (servoEnter a b s).pins = s.pins := by
  simp [servoEnter, playFollow, sessionFollow, phaseFollow]
@[simp] theorem servoEnter_mech (a : MState) (b : Bool) (s : State) : (servoEnter a b s).mech = s.mech := by
  simp [servoEnter, playFollow, sessionFollow, phaseFollow]
@[simp] theorem servoEnter_mark (a : MState) (b : Bool) (s : State) : (servoEnter a b s).mark = s.mark := by
  simp [servoEnter, playFollow, sessionFollow, phaseFollow]
@[simp] theorem servoEnter_tuner (a : MState) (b : Bool) (s : State) : (servoEnter a b s).tuner = s.tuner := by
  simp [servoEnter, playFollow, sessionFollow, phaseFollow]
@[simp] theorem servoEnter_ldd (a : MState) (b : Bool) (s : State) : (servoEnter a b s).ldd = s.ldd := by
  simp [servoEnter, playFollow, sessionFollow, phaseFollow]
@[simp] theorem servoEnter_clock (a : MState) (b : Bool) (s : State) : (servoEnter a b s).clock = s.clock := by
  simp [servoEnter, playFollow, sessionFollow, phaseFollow]
@[simp] theorem servoEnter_sched (a : MState) (b : Bool) (s : State) : (servoEnter a b s).sched = s.sched := by
  simp [servoEnter, playFollow, sessionFollow, phaseFollow]
@[simp] theorem servoEnter_box (a : MState) (b : Bool) (s : State) : (servoEnter a b s).box = s.box := by
  simp [servoEnter, playFollow, sessionFollow, phaseFollow]
@[simp] theorem servoEnter_pwr (a : MState) (b : Bool) (s : State) : (servoEnter a b s).pwr = s.pwr := by
  simp [servoEnter, playFollow, sessionFollow, phaseFollow]
@[simp] theorem servoEnter_reports (a : MState) (b : Bool) (s : State) : (servoEnter a b s).reports = s.reports := by
  simp [servoEnter, playFollow, sessionFollow, phaseFollow]
@[simp] theorem servoEnter_pending (a : MState) (b : Bool) (s : State) : (servoEnter a b s).pending = s.pending := by
  simp [servoEnter, playFollow, sessionFollow, phaseFollow]
@[simp] theorem servoEnter_link_settings (a : MState) (b : Bool) (s : State) : (servoEnter a b s).link.settings = s.link.settings := by
  simp [servoEnter, playFollow, sessionFollow, phaseFollow]
@[simp] theorem servoEnter_link_reply (a : MState) (b : Bool) (s : State) : (servoEnter a b s).link.reply = s.link.reply := by
  simp [servoEnter, playFollow, sessionFollow, phaseFollow]
@[simp] theorem servoEnter_link_holding (a : MState) (b : Bool) (s : State) : (servoEnter a b s).link.holding = s.link.holding := by
  simp [servoEnter, playFollow, sessionFollow, phaseFollow]
@[simp] theorem servoEnter_link_framing (a : MState) (b : Bool) (s : State) : (servoEnter a b s).link.framing = s.link.framing := by
  simp [servoEnter, playFollow, sessionFollow, phaseFollow]
@[simp] theorem servoEnter_link_drop (a : MState) (b : Bool) (s : State) : (servoEnter a b s).link.drop = s.link.drop := by
  simp [servoEnter, playFollow, sessionFollow, phaseFollow]
@[simp] theorem servoEnter_pos_counter (a : MState) (b : Bool) (s : State) : (servoEnter a b s).pos.counter = s.pos.counter := by
  simp [servoEnter, playFollow, sessionFollow, phaseFollow]
@[simp] theorem servoEnter_pos_target (a : MState) (b : Bool) (s : State) : (servoEnter a b s).pos.target = s.pos.target := by
  simp [servoEnter, playFollow, sessionFollow, phaseFollow]
@[simp] theorem servoEnter_pos_acc (a : MState) (b : Bool) (s : State) : (servoEnter a b s).pos.acc = s.pos.acc := by
  simp [servoEnter, playFollow, sessionFollow, phaseFollow]
@[simp] theorem servoEnter_pos_approx (a : MState) (b : Bool) (s : State) : (servoEnter a b s).pos.approx = s.pos.approx := by
  simp [servoEnter, playFollow, sessionFollow, phaseFollow]
@[simp] theorem servoEnter_pos_source (a : MState) (b : Bool) (s : State) : (servoEnter a b s).pos.source = s.pos.source := by
  simp [servoEnter, playFollow, sessionFollow, phaseFollow]
@[simp] theorem servoEnter_pos_cls (a : MState) (b : Bool) (s : State) : (servoEnter a b s).pos.cls = s.pos.cls := by
  simp [servoEnter, playFollow, sessionFollow, phaseFollow]
@[simp] theorem servoEnter_pos_f16 (a : MState) (b : Bool) (s : State) : (servoEnter a b s).pos.f16 = s.pos.f16 := by
  simp [servoEnter, playFollow, sessionFollow, phaseFollow]
@[simp] theorem servoEnter_pos_estState (a : MState) (b : Bool) (s : State) : (servoEnter a b s).pos.estState = s.pos.estState := by
  simp [servoEnter, playFollow, sessionFollow, phaseFollow]
@[simp] theorem servoEnter_pos_motion (a : MState) (b : Bool) (s : State) : (servoEnter a b s).pos.motion = s.pos.motion := by
  simp [servoEnter, playFollow, sessionFollow, phaseFollow]
@[simp] theorem servoEnter_pos_coast (a : MState) (b : Bool) (s : State) : (servoEnter a b s).pos.coast = s.pos.coast := by
  simp [servoEnter, playFollow, sessionFollow, phaseFollow]
@[simp] theorem servoEnter_servo_slip (a : MState) (b : Bool) (s : State) : (servoEnter a b s).servo.slip = s.servo.slip := by
  simp [servoEnter, playFollow, sessionFollow, phaseFollow]; (repeat' split) <;> rfl

/-! ### setState (R3): what entering a state sets and keeps -/

@[simp] theorem setState_state (m : MState) (j : Option Junction) (b : Bool) (s : State) : (setState m j b s).mech.state = m := by
  simp only [setState]; split <;> simp
@[simp] theorem setState_target (m : MState) (j : Option Junction) (b : Bool) (s : State) : (setState m j b s).mech.target = m := by
  simp only [setState]; split <;> simp
@[simp] theorem setState_junction (m : MState) (j : Option Junction) (b : Bool) (s : State) :
    (setState m j b s).mech.junction = j := by
  simp only [setState]; split <;> simp
@[simp] theorem setState_reel (m : MState) (j : Option Junction) (b : Bool) (s : State) :
    (setState m j b s).mech.reel = reelOf m j := by
  simp only [setState]; split <;> simp
@[simp] theorem setState_recAmp (m : MState) (j : Option Junction) (b : Bool) (s : State) :
    (setState m j b s).mech.recAmp = decide (m = .record) := by
  simp only [setState]; split <;> simp
@[simp] theorem setState_mech_camTarget (m : MState) (j : Option Junction) (b : Bool) (s : State) :
    (setState m j b s).mech.camTarget = s.mech.camTarget := by
  simp only [setState]; split <;> split <;> simp
@[simp] theorem setState_mech_camTimer (m : MState) (j : Option Junction) (b : Bool) (s : State) :
    (setState m j b s).mech.camTimer = s.mech.camTimer := by
  simp only [setState]; split <;> split <;> simp
@[simp] theorem setState_mech_lastCode (m : MState) (j : Option Junction) (b : Bool) (s : State) :
    (setState m j b s).mech.lastCode = s.mech.lastCode := by
  simp only [setState]; split <;> split <;> simp
@[simp] theorem setState_mech_motor (m : MState) (j : Option Junction) (b : Bool) (s : State) :
    (setState m j b s).mech.motor = s.mech.motor := by
  simp only [setState]; split <;> split <;> simp
@[simp] theorem setState_mech_inFlight (m : MState) (j : Option Junction) (b : Bool) (s : State) :
    (setState m j b s).mech.inFlight = s.mech.inFlight := by
  simp only [setState]; split <;> split <;> simp
@[simp] theorem setState_mech_slot (m : MState) (j : Option Junction) (b : Bool) (s : State) :
    (setState m j b s).mech.slot = s.mech.slot := by
  simp only [setState]; split <;> split <;> simp
@[simp] theorem setState_mech_owner (m : MState) (j : Option Junction) (b : Bool) (s : State) :
    (setState m j b s).mech.owner = s.mech.owner := by
  simp only [setState]; split <;> split <;> simp
@[simp] theorem setState_mech_fault (m : MState) (j : Option Junction) (b : Bool) (s : State) :
    (setState m j b s).mech.fault = s.mech.fault := by
  simp only [setState]; split <;> split <;> simp
@[simp] theorem setState_mech_tab (m : MState) (j : Option Junction) (b : Bool) (s : State) :
    (setState m j b s).mech.tab = s.mech.tab := by
  simp only [setState]; split <;> split <;> simp
@[simp] theorem setState_mech_cause (m : MState) (j : Option Junction) (b : Bool) (s : State) :
    (setState m j b s).mech.cause = s.mech.cause := by
  simp only [setState]; split <;> split <;> simp
@[simp] theorem setState_mech_recoveryPending (m : MState) (j : Option Junction) (b : Bool) (s : State) :
    (setState m j b s).mech.recoveryPending = s.mech.recoveryPending := by
  simp only [setState]; split <;> split <;> simp
@[simp] theorem setState_mech_recoveryRun (m : MState) (j : Option Junction) (b : Bool) (s : State) :
    (setState m j b s).mech.recoveryRun = s.mech.recoveryRun := by
  simp only [setState]; split <;> split <;> simp
@[simp] theorem setState_mech_standbyStop (m : MState) (j : Option Junction) (b : Bool) (s : State) :
    (setState m j b s).mech.standbyStop = s.mech.standbyStop := by
  simp only [setState]; split <;> split <;> simp
@[simp] theorem setState_mech_ejectRead (m : MState) (j : Option Junction) (b : Bool) (s : State) :
    (setState m j b s).mech.ejectRead = s.mech.ejectRead := by
  simp only [setState]; split <;> split <;> simp
@[simp] theorem setState_mech_still (m : MState) (j : Option Junction) (b : Bool) (s : State) :
    (setState m j b s).mech.still = s.mech.still := by
  simp only [setState]; split <;> split <;> simp
@[simp] theorem setState_mech_halt (m : MState) (j : Option Junction) (b : Bool) (s : State) :
    (setState m j b s).mech.halt = s.mech.halt := by
  simp only [setState]; split <;> split <;> simp
@[simp] theorem setState_pins (m : MState) (j : Option Junction) (b : Bool) (s : State) :
    (setState m j b s).pins = s.pins := by
  simp only [setState]; split <;> split <;> simp
@[simp] theorem setState_pos_counter (m : MState) (j : Option Junction) (b : Bool) (s : State) :
    (setState m j b s).pos.counter = s.pos.counter := by
  simp only [setState]; split <;> split <;> simp
@[simp] theorem setState_pos_target (m : MState) (j : Option Junction) (b : Bool) (s : State) :
    (setState m j b s).pos.target = s.pos.target := by
  simp only [setState]; split <;> split <;> simp
@[simp] theorem setState_pos_acc (m : MState) (j : Option Junction) (b : Bool) (s : State) :
    (setState m j b s).pos.acc = s.pos.acc := by
  simp only [setState]; split <;> split <;> simp
@[simp] theorem setState_pos_approx (m : MState) (j : Option Junction) (b : Bool) (s : State) :
    (setState m j b s).pos.approx = s.pos.approx := by
  simp only [setState]; split <;> split <;> simp
@[simp] theorem setState_pos_cls (m : MState) (j : Option Junction) (b : Bool) (s : State) :
    (setState m j b s).pos.cls = s.pos.cls := by
  simp only [setState]; split <;> split <;> simp
@[simp] theorem setState_mark_list (m : MState) (j : Option Junction) (b : Bool) (s : State) :
    (setState m j b s).mark.list = s.mark.list := by
  simp only [setState]; split <;> split <;> simp
@[simp] theorem setState_mark_search (m : MState) (j : Option Junction) (b : Bool) (s : State) :
    (setState m j b s).mark.search = s.mark.search := by
  simp only [setState]; split <;> split <;> simp
@[simp] theorem setState_tuner (m : MState) (j : Option Junction) (b : Bool) (s : State) :
    (setState m j b s).tuner = s.tuner := by
  simp only [setState]; split <;> split <;> simp
@[simp] theorem setState_ldd (m : MState) (j : Option Junction) (b : Bool) (s : State) :
    (setState m j b s).ldd = s.ldd := by
  simp only [setState]; split <;> split <;> simp
@[simp] theorem setState_clock (m : MState) (j : Option Junction) (b : Bool) (s : State) :
    (setState m j b s).clock = s.clock := by
  simp only [setState]; split <;> split <;> simp
@[simp] theorem setState_box (m : MState) (j : Option Junction) (b : Bool) (s : State) :
    (setState m j b s).box = s.box := by
  simp only [setState]; split <;> split <;> simp
@[simp] theorem setState_pwr (m : MState) (j : Option Junction) (b : Bool) (s : State) :
    (setState m j b s).pwr = s.pwr := by
  simp only [setState]; split <;> split <;> simp
@[simp] theorem setState_reports (m : MState) (j : Option Junction) (b : Bool) (s : State) :
    (setState m j b s).reports = s.reports := by
  simp only [setState]; split <;> split <;> simp
@[simp] theorem setState_pending (m : MState) (j : Option Junction) (b : Bool) (s : State) :
    (setState m j b s).pending = s.pending := by
  simp only [setState]; split <;> split <;> simp
@[simp] theorem setState_link_settings (m : MState) (j : Option Junction) (b : Bool) (s : State) :
    (setState m j b s).link.settings = s.link.settings := by
  simp only [setState]; split <;> split <;> simp
@[simp] theorem setState_link_reply (m : MState) (j : Option Junction) (b : Bool) (s : State) :
    (setState m j b s).link.reply = s.link.reply := by
  simp only [setState]; split <;> split <;> simp
@[simp] theorem setState_link_holding (m : MState) (j : Option Junction) (b : Bool) (s : State) :
    (setState m j b s).link.holding = s.link.holding := by
  simp only [setState]; split <;> split <;> simp
@[simp] theorem setState_link_framing (m : MState) (j : Option Junction) (b : Bool) (s : State) :
    (setState m j b s).link.framing = s.link.framing := by
  simp only [setState]; split <;> split <;> simp
@[simp] theorem setState_link_drop (m : MState) (j : Option Junction) (b : Bool) (s : State) :
    (setState m j b s).link.drop = s.link.drop := by
  simp only [setState]; split <;> split <;> simp

/-- R40, R53: while the tape stays on the drum, the direction of the motion that ends, or of the last one, is kept for its overshoot. -/
theorem setState_pos_coast (m : MState) (j : Option Junction) (b : Bool) (s : State) :
    (setState m j b s).pos.coast = if m.onDrum then (s.pos.motion.map Motion.forward).or s.pos.coast else none := by
  simp only [setState]; split <;> split <;> simp [coastFollow_pos_coast, motionEnd_pos_coast]

/-- R169: SCHED is told of nothing but the end of the time in RECORD. -/
theorem setState_sched (m : MState) (j : Option Junction) (b : Bool) (s : State)
    (h : s.mech.state ≠ .record ∨ m = .record ∨ s.sched.holder = none) : (setState m j b s).sched = s.sched := by
  have hr : s.sched.holder = none → (recordStopped (coastFollow m.onDrum (motionEnd s))).sched = s.sched := by
    intro hh; simp [recordStopped, hh]
  simp only [setState]
  split <;> split <;> simp_all

/-! ### The count of a control pulse, in a motion or in the overshoot after one (R40, R52, R53) -/

/-- R52, R53: what counting a pulse does to POS: one frame, held at the limit with the approximate flag set; the source CONTROL, the
gap sum 0 and the gap watch from now. -/
theorem countPulse_pos (forward : Bool) (s : State) :
    (countPulse forward s).pos =
      { s.pos with
        counter := s.clampCounter (if forward then s.pos.counter + 1 else s.pos.counter - 1)
        approx := s.pos.approx || decide (s.clampCounter (if forward then s.pos.counter + 1 else s.pos.counter - 1) ≠
          if forward then s.pos.counter + 1 else s.pos.counter - 1)
        source := .control, gapSum := 0, gap := some s.now } := rfl

/-- R53: counting a pulse touches POS alone. -/
theorem countPulse_eq (forward : Bool) (s : State) :
    countPulse forward s = s.onPos fun _ => (countPulse forward s).pos := rfl

/-- R40: outside PLAY, SERVO's own use of a pulse leaves every block but SERVO as it was, and of POS but the identification run. -/
theorem servoPulse_keeps (phase : Int) (interval : Nat) (s : State) (h : s.mech.state ≠ .play) :
    servoPulse phase interval s = (s.onServo fun _ => (servoPulse phase interval s).servo).onPos fun p =>
      { p with candidate := (servoPulse phase interval s).pos.candidate, run := (servoPulse phase interval s).pos.run } := by
  simp only [servoPulse, capstanPhase, phaseFollow, loopsFollow, State.onServo_mech, h, if_false]
  split <;> rfl

/-- R40, R53, R75: all that a pulse of an overshoot does: SERVO takes note of it, POS counts it, and the head leaves it as it stands. -/
theorem overshootPulse_eq (forward : Bool) (phase : Int) (interval : Nat) (s : State) (h : s.mech.state ≠ .play) :
    overshootPulse forward phase interval s =
      ((s.onServo fun _ => (servoPulse phase interval s).servo).onPos fun _ =>
        { (countPulse forward s).pos with candidate := (servoPulse phase interval s).pos.candidate
                                          run := (servoPulse phase interval s).pos.run }).onMark fun m =>
        { m with headDuty := none } := by
  unfold overshootPulse
  rw [servoPulse_keeps phase interval s h]
  rfl

end Sys2Proof.Machine
end

