-- ==== Sys2Proof/Laws/PerInstr.lean ====
section
/-!
SUPPORT. Sys2Proof/Laws/PerInstr.lean: what holds of every command as syntax, one lemma per constructor: a request has one of the 24
kinds of section 11.9 and at most 60 payload bytes (R198), and a command that is no request has no frame.
-/

namespace Sys2Proof.Laws

open Sys2Proof.Machine

/-- R198, R199, R211: a well-formed request's frame has a request kind, the kind its reply names, and a payload the receiver takes; a
command with no frame has kind 0. -/
def Classified.Statement (i : Instr) : Prop :=
  (requestFrame i = none → kindOf i = 0) ∧
  (i.wellFormed = true → ∀ kind p, requestFrame i = some (kind, p) →
    kind = kindOf i ∧ requestKind kind = true ∧ p.length ≤ 60)

@[simp] theorem be16_length (n : Nat) : (be16 n).length = 2 := rfl
@[simp] theorem be32_length (n : Nat) : (be32 n).length = 4 := rfl
@[simp] theorem sbe24_length (v : Int) : (sbe24 v).length = 3 := rfl
@[simp] theorem minuteBytes_length (t : DateTime) : (minuteBytes t).length = 5 := rfl

/-- A box profile of 12 codes takes 60 bytes. -/
theorem profileBytes_length (p : BoxProfile) (h : p.codes.length = 12) : (profileBytes p).length = 60 := by
  have (l : List Nat) : ((l.map be32).flatten).length = 4 * l.length := by
    induction l with
    | nil => rfl
    | cons a l ih => simp [ih]; omega
  simp [profileBytes, be16_length, -List.length_flatten, this, h]

/-- A command without a frame. -/
theorem classified_event (i : Instr) (h : requestFrame i = none) : Classified.Statement i :=
  ⟨fun _ => by simp [kindOf, h], fun _ kind p hp => by simp [h] at hp⟩

/-- A command with a frame. -/
theorem classified_request (i : Instr) (k : Byte) (q : List Byte) (h : requestFrame i = some (k, q)) (hk : requestKind k = true)
    (hq : i.wellFormed = true → q.length ≤ 60) : Classified.Statement i :=
  ⟨fun h0 => by simp [h] at h0, fun hw kind p hp => by
    obtain ⟨rfl, rfl⟩ : k = kind ∧ q = p := by simpa [h] using hp
    exact ⟨by simp [kindOf, h], hk, hq hw⟩⟩

theorem Classified.play : Classified.Statement .play :=
  classified_request _ _ _ rfl (by decide) fun _ => by simp
theorem Classified.record (startPaused : Bool) : Classified.Statement (.record startPaused) :=
  classified_request _ _ _ rfl (by decide) fun _ => by simp
theorem Classified.pause : Classified.Statement .pause :=
  classified_request _ _ _ rfl (by decide) fun _ => by simp
theorem Classified.stop (cancelTimer : Bool) : Classified.Statement (.stop cancelTimer) :=
  classified_request _ _ _ rfl (by decide) fun _ => by simp
theorem Classified.cue : Classified.Statement .cue :=
  classified_request _ _ _ rfl (by decide) fun _ => by simp
theorem Classified.review : Classified.Statement .review :=
  classified_request _ _ _ rfl (by decide) fun _ => by simp
theorem Classified.fwind : Classified.Statement .fwind :=
  classified_request _ _ _ rfl (by decide) fun _ => by simp
theorem Classified.rwind : Classified.Statement .rwind :=
  classified_request _ _ _ rfl (by decide) fun _ => by simp
theorem Classified.eject : Classified.Statement .eject :=
  classified_request _ _ _ rfl (by decide) fun _ => by simp
theorem Classified.camTargetReached (code : CamCode) : Classified.Statement (.camTargetReached code) := classified_event _ rfl
theorem Classified.camTimeout : Classified.Statement .camTimeout := classified_event _ rfl
theorem Classified.cassetteInClose (tab : Bool) : Classified.Statement (.cassetteInClose tab) := classified_event _ rfl
theorem Classified.cassetteInOpen : Classified.Statement .cassetteInOpen := classified_event _ rfl
theorem Classified.endLeaderCovered (covered : Bool) : Classified.Statement (.endLeaderCovered covered) := classified_event _ rfl
theorem Classified.startLeaderCovered (covered : Bool) : Classified.Statement (.startLeaderCovered covered) := classified_event _ rfl
theorem Classified.stillTimerExpiry : Classified.Statement .stillTimerExpiry := classified_event _ rfl
theorem Classified.haltTimerExpiry : Classified.Statement .haltTimerExpiry := classified_event _ rfl
theorem Classified.reelStall : Classified.Statement .reelStall := classified_event _ rfl
theorem Classified.drumFgPulse (period : Nat) : Classified.Statement (.drumFgPulse period) := classified_event _ rfl
theorem Classified.drumPgPulse (phase : Int) : Classified.Statement (.drumPgPulse phase) := classified_event _ rfl
theorem Classified.drumFgOverdue : Classified.Statement .drumFgOverdue := classified_event _ rfl
theorem Classified.drumPgOverdue : Classified.Statement .drumPgOverdue := classified_event _ rfl
theorem Classified.capstanFgPulse (period : Nat) : Classified.Statement (.capstanFgPulse period) := classified_event _ rfl
theorem Classified.drumLockTimeout : Classified.Statement .drumLockTimeout := classified_event _ rfl
theorem Classified.capstanLockTimeout : Classified.Statement .capstanLockTimeout := classified_event _ rfl
theorem Classified.recordGateTimeout : Classified.Statement .recordGateTimeout := classified_event _ rfl
theorem Classified.recordGuardTimeout : Classified.Statement .recordGuardTimeout := classified_event _ rfl
theorem Classified.vsyncPulse (src : Source) (interval : Nat) (envelope : Nat) : Classified.Statement (.vsyncPulse src interval envelope) := classified_event _ rfl
theorem Classified.syncAbsentTimeout (src : Source) : Classified.Statement (.syncAbsentTimeout src) := classified_event _ rfl
theorem Classified.internalFrameEdge (envelope : Nat) : Classified.Statement (.internalFrameEdge envelope) := classified_event _ rfl
theorem Classified.controlPulseReplayed (duty : Nat) (phase : Int) (interval : Nat) (envelope : Nat) : Classified.Statement (.controlPulseReplayed duty phase interval envelope) := classified_event _ rfl
theorem Classified.phaseModeGapTimeout : Classified.Statement .phaseModeGapTimeout := classified_event _ rfl
theorem Classified.playSpeedGapTimeout : Classified.Statement .playSpeedGapTimeout := classified_event _ rfl
theorem Classified.tracking (mode : TrackingArg) (value : Option Int) : Classified.Statement (.tracking mode value) :=
  classified_request _ _ _ rfl (by decide) (fun _ => by cases value <;> simp [Machine.optional])
theorem Classified.posGapTimeout : Classified.Statement .posGapTimeout := classified_event _ rfl
theorem Classified.zero : Classified.Statement .zero :=
  classified_request _ _ _ rfl (by decide) fun _ => by simp
theorem Classified.setMemory (target : Int) : Classified.Statement (.setMemory target) :=
  classified_request _ _ _ rfl (by decide) fun _ => by simp
theorem Classified.clearMemory : Classified.Statement .clearMemory :=
  classified_request _ _ _ rfl (by decide) fun _ => by simp
theorem Classified.position : Classified.Statement .position :=
  classified_request _ _ _ rfl (by decide) fun _ => by simp
theorem Classified.reelPulse (reel : Reel) (interval : Nat) : Classified.Statement (.reelPulse reel interval) := classified_event _ rfl
theorem Classified.counterNoticeTimer : Classified.Statement .counterNoticeTimer := classified_event _ rfl
theorem Classified.remainingNoticeTimer : Classified.Statement .remainingNoticeTimer := classified_event _ rfl
theorem Classified.markGapTimeout : Classified.Statement .markGapTimeout := classified_event _ rfl
theorem Classified.markList (first : Nat) : Classified.Statement (.markList first) :=
  classified_request _ _ _ rfl (by decide) fun _ => by simp
theorem Classified.markWrite (type : Nat) (value : Nat) : Classified.Statement (.markWrite type value) :=
  classified_request _ _ _ rfl (by decide) fun _ => by simp
theorem Classified.markErase : Classified.Statement .markErase :=
  classified_request _ _ _ rfl (by decide) fun _ => by simp
theorem Classified.indexSearch (n : Int) (playAfter : Bool) : Classified.Statement (.indexSearch n playAfter) :=
  classified_request _ _ _ rfl (by decide) fun _ => by simp
theorem Classified.counterSearch (target : Int) (playAfter : Bool) : Classified.Statement (.counterSearch target playAfter) :=
  classified_request _ _ _ rfl (by decide) fun _ => by simp
theorem Classified.blankSearch : Classified.Statement .blankSearch :=
  classified_request _ _ _ rfl (by decide) fun _ => by simp
theorem Classified.indexScan : Classified.Statement .indexScan :=
  classified_request _ _ _ rfl (by decide) fun _ => by simp
theorem Classified.blankTimerExpiry : Classified.Statement .blankTimerExpiry := classified_event _ rfl
theorem Classified.scanPlayTimerExpiry : Classified.Statement .scanPlayTimerExpiry := classified_event _ rfl
theorem Classified.tunerTransactionEnd (answer : Option ModuleStatus) : Classified.Statement (.tunerTransactionEnd answer) := classified_event _ rfl
theorem Classified.initWaitExpiry : Classified.Statement .initWaitExpiry := classified_event _ rfl
theorem Classified.settleTimerExpiry : Classified.Statement .settleTimerExpiry := classified_event _ rfl
theorem Classified.watchTimerExpiry : Classified.Statement .watchTimerExpiry := classified_event _ rfl
theorem Classified.tunePreset (n : Nat) : Classified.Statement (.tunePreset n) :=
  classified_request _ _ _ rfl (by decide) fun _ => by simp
theorem Classified.tuneChannel (plan : Nat) (channel : Nat) : Classified.Statement (.tuneChannel plan channel) :=
  classified_request _ _ _ rfl (by decide) fun _ => by simp
theorem Classified.tuneDirect (steps : Nat) : Classified.Statement (.tuneDirect steps) :=
  classified_request _ _ _ rfl (by decide) fun _ => by simp
theorem Classified.tuneUp : Classified.Statement .tuneUp :=
  classified_request _ _ _ rfl (by decide) fun _ => by simp
theorem Classified.tuneDown : Classified.Statement .tuneDown :=
  classified_request _ _ _ rfl (by decide) fun _ => by simp
theorem Classified.source (src : Source) : Classified.Statement (.source src) :=
  classified_request _ _ _ rfl (by decide) fun _ => by simp
theorem Classified.presetWrite (n : Nat) (entry : PresetRecord) : Classified.Statement (.presetWrite n entry) :=
  classified_request _ _ _ rfl (by decide) fun hw => by
    have : entry.name.length = 5 := by simp_all [Instr.wellFormed, PresetRecord.fits]
    simp [presetRecordBytes, be16, this]
theorem Classified.presetRead (n : Nat) : Classified.Statement (.presetRead n) :=
  classified_request _ _ _ rfl (by decide) fun _ => by simp
theorem Classified.scanStart (plan : Nat) : Classified.Statement (.scanStart plan) :=
  classified_request _ _ _ rfl (by decide) fun _ => by simp
theorem Classified.scanStop : Classified.Statement .scanStop :=
  classified_request _ _ _ rfl (by decide) fun _ => by simp
theorem Classified.scanConfirmExpiry : Classified.Statement .scanConfirmExpiry := classified_event _ rfl
theorem Classified.lineDataPacket (packet : Packet) : Classified.Statement (.lineDataPacket packet) := classified_event _ rfl
theorem Classified.labelTimerExpiry : Classified.Statement .labelTimerExpiry := classified_event _ rfl
theorem Classified.secondBoundary : Classified.Statement .secondBoundary := classified_event _ rfl
theorem Classified.clockSet (time : Option DateTime) (trim : Option Int) : Classified.Statement (.clockSet time trim) :=
  classified_request _ _ _ rfl (by decide) (fun _ => by cases time <;> cases trim <;> simp [optSecondBytes, secondBytes, minuteBytes, dateBytes, Machine.optional])
theorem Classified.clockRead : Classified.Statement .clockRead :=
  classified_request _ _ _ rfl (by decide) fun _ => by simp
theorem Classified.entryWrite (slot : Nat) (entry : EntryRecord) : Classified.Statement (.entryWrite slot entry) :=
  classified_request _ _ _ rfl (by decide) (fun _ => by cases h : entry.date <;> simp [entryRecordBytes, optDateBytes, dateBytes, h])
theorem Classified.entryRead (slot : Nat) : Classified.Statement (.entryRead slot) :=
  classified_request _ _ _ rfl (by decide) fun _ => by simp
theorem Classified.cancel (slot : Nat) : Classified.Statement (.cancel slot) :=
  classified_request _ _ _ rfl (by decide) fun _ => by simp
theorem Classified.delete (slot : Nat) : Classified.Statement (.delete slot) :=
  classified_request _ _ _ rfl (by decide) fun _ => by simp
theorem Classified.disable (slot : Nat) : Classified.Statement (.disable slot) :=
  classified_request _ _ _ rfl (by decide) fun _ => by simp
theorem Classified.enable (slot : Nat) : Classified.Statement (.enable slot) :=
  classified_request _ _ _ rfl (by decide) fun _ => by simp
theorem Classified.extend (slot : Nat) (newStop : DateTime) : Classified.Statement (.extend slot newStop) :=
  classified_request _ _ _ rfl (by decide) fun _ => by simp
theorem Classified.dueTimerExpiry : Classified.Statement .dueTimerExpiry := classified_event _ rfl
theorem Classified.stopTimerExpiry : Classified.Statement .stopTimerExpiry := classified_event _ rfl
theorem Classified.scheduledStopExpiry : Classified.Statement .scheduledStopExpiry := classified_event _ rfl
theorem Classified.windowTimerExpiry : Classified.Statement .windowTimerExpiry := classified_event _ rfl
theorem Classified.heldTimerExpiry : Classified.Statement .heldTimerExpiry := classified_event _ rfl
theorem Classified.labelLossTimerExpiry : Classified.Statement .labelLossTimerExpiry := classified_event _ rfl
theorem Classified.postHoldTimerExpiry : Classified.Statement .postHoldTimerExpiry := classified_event _ rfl
theorem Classified.boxProfileLoad (profile : BoxProfile) : Classified.Statement (.boxProfileLoad profile) :=
  classified_request _ _ _ rfl (by decide) fun hw => by
    have : profile.codes.length = 12 := by simp_all [Instr.wellFormed, BoxProfile.fits]
    exact (profileBytes_length _ this).le
theorem Classified.boxProfileClear : Classified.Statement .boxProfileClear :=
  classified_request _ _ _ rfl (by decide) fun _ => by simp
theorem Classified.boxProfileRead (part : Nat) : Classified.Statement (.boxProfileRead part) :=
  classified_request _ _ _ rfl (by decide) fun _ => by simp
theorem Classified.boxKey (key : Nat) : Classified.Statement (.boxKey key) :=
  classified_request _ _ _ rfl (by decide) fun _ => by simp
theorem Classified.irFrameSent : Classified.Statement .irFrameSent := classified_event _ rfl
theorem Classified.irRetryTimerExpiry : Classified.Statement .irRetryTimerExpiry := classified_event _ rfl
theorem Classified.outletConfig (onPoint : Nat) (offPoint : Nat) : Classified.Statement (.outletConfig onPoint offPoint) :=
  classified_request _ _ _ rfl (by decide) fun _ => by simp
theorem Classified.outletOn : Classified.Statement .outletOn :=
  classified_request _ _ _ rfl (by decide) fun _ => by simp
theorem Classified.outletOff : Classified.Statement .outletOff :=
  classified_request _ _ _ rfl (by decide) fun _ => by simp
theorem Classified.outletRead : Classified.Statement .outletRead :=
  classified_request _ _ _ rfl (by decide) fun _ => by simp
theorem Classified.minimumOnTimerExpiry : Classified.Statement .minimumOnTimerExpiry := classified_event _ rfl
theorem Classified.supGoodRise : Classified.Statement .supGoodRise := classified_event _ rfl
theorem Classified.supplyTimerExpiry : Classified.Statement .supplyTimerExpiry := classified_event _ rfl
theorem Classified.supplyFailure : Classified.Statement .supplyFailure := classified_event _ rfl
theorem Classified.powerKeyPress : Classified.Statement .powerKeyPress := classified_event _ rfl
theorem Classified.powerRequestOn : Classified.Statement .powerRequestOn :=
  classified_request _ _ _ rfl (by decide) fun _ => by simp
theorem Classified.powerRequestStandby : Classified.Statement .powerRequestStandby :=
  classified_request _ _ _ rfl (by decide) fun _ => by simp
theorem Classified.powerRequestRead : Classified.Statement .powerRequestRead :=
  classified_request _ _ _ rfl (by decide) fun _ => by simp
theorem Classified.powerOnReset : Classified.Statement .powerOnReset := classified_event _ rfl
theorem Classified.pinReset : Classified.Statement .pinReset := classified_event _ rfl
theorem Classified.restart : Classified.Statement .restart :=
  classified_request _ _ _ rfl (by decide) fun _ => by simp
theorem Classified.frameComplete (check : Byte) : Classified.Statement (.frameComplete check) := classified_event _ rfl
theorem Classified.frameAbandoned (why : FrameFault) : Classified.Statement (.frameAbandoned why) := classified_event _ rfl
theorem Classified.receiveGapTimeout : Classified.Statement .receiveGapTimeout := classified_event _ rfl
theorem Classified.badFrame (kind : Byte) : Classified.Statement (.badFrame kind) := classified_event _ rfl
theorem Classified.unknownFrame (kind : Byte) : Classified.Statement (.unknownFrame kind) := classified_event _ rfl
theorem Classified.txFrameEnd : Classified.Statement .txFrameEnd := classified_event _ rfl
theorem Classified.status : Classified.Statement .status :=
  classified_request _ _ _ rfl (by decide) fun _ => by simp
theorem Classified.settingsWrite (bytes : SettingsBytes) : Classified.Statement (.settingsWrite bytes) :=
  classified_request _ _ _ rfl (by decide) fun _ => by simp
theorem Classified.settingsRead : Classified.Statement .settingsRead :=
  classified_request _ _ _ rfl (by decide) fun _ => by simp
theorem Classified.recordedSecondsCheck : Classified.Statement .recordedSecondsCheck := classified_event _ rfl
theorem Classified.byteReceived (b : Byte) : Classified.Statement (.byteReceived b) := classified_event _ rfl
theorem Classified.resetLineLow : Classified.Statement .resetLineLow := classified_event _ rfl

end Sys2Proof.Laws
end

