-- ==== Sys2Proof/Tests/Slice0.lean ====
section
/-!
SUPPORT. Sys2Proof/Tests/Slice0.lean: tests on small states (the manual's worked examples and tables), the smoke test of WellFormed, and
for every statement of Certificates/Slice0/Obligations.lean with hypotheses a state and operands that meet them together
(theorems test_meets_…), at the boundary values of its clauses.
-/

namespace Sys2Proof.Machine

/-! ## Small states -/

/-- The deck powered and IDLE with a tabbed cassette, nothing under way, the owner NONE and BOOT sent. -/
def up : State := { State.reset with
  pins := { Pins.reset with cam := 1, cassetteIn := true, tabSwitch := true, supGood := true },
  mech := { Mech.reset true with tab := true, recoveryPending := false, lastCode := some 1 },
  tuner := { Tuner.reset with state := .noSignal },
  pwr := { Pwr.reset with power := .on, phase := .up },
  link := { Link.reset Settings.reset with bootPending := false } }

/-- The deck in a settled state under the owner PANEL. -/
def deckIn (m : MState) : State := up.onMech fun x => { x with state := m, target := m, owner := .panel }

/-- The crystal count is n, and all timers that start at 0 have run so many cycles. -/
def later (n : Nat) (s : State) : State := s.onClock fun c => { c with crystal := n }

/-- The state that a command leads to; the state as it is where it answers no next state. -/
def after (i : Instr) (s : State) : State := match exec i s with | .next t => t | _ => s

/-- The cycles of some milliseconds, rounded up: a timer started at 0 has just run its length. -/
def cyclesOf (ms : Nat) : Nat := (ms * 32768 + 999) / 1000

/-! ## WellFormed: for each check an ill-formed term that it refuses -/

theorem test_wellFormed_period : (Instr.drumFgPulse 0).wellFormed = false ∧ (Instr.capstanFgPulse 0).wellFormed = false ∧
    (Instr.drumFgPulse 1).wellFormed = true := by decide
theorem test_wellFormed_sync : (Instr.vsyncPulse .tuner 0 5).wellFormed = false ∧
    (Instr.vsyncPulse .tuner 1 256).wellFormed = false ∧ (Instr.internalFrameEdge 256).wellFormed = false := by decide
theorem test_wellFormed_control : (Instr.controlPulseReplayed 1001 0 1 0).wellFormed = false ∧
    (Instr.controlPulseReplayed 550 0 0 0).wellFormed = false ∧
    (Instr.controlPulseReplayed 550 0 1 256).wellFormed = false ∧ (Instr.reelPulse .supply 0).wellFormed = false := by decide
theorem test_wellFormed_tracking : (Instr.tracking .auto (some 128)).wellFormed = false ∧
    (Instr.tracking .auto (some (-129))).wellFormed = false ∧ (Instr.tracking .auto (some (-128))).wellFormed = true := by decide
theorem test_wellFormed_counter : (Instr.setMemory 8388608).wellFormed = false ∧
    (Instr.counterSearch (-8388609) true).wellFormed = false ∧ (Instr.indexSearch 128 true).wellFormed = false := by decide
theorem test_wellFormed_marks : (Instr.markList 256).wellFormed = false ∧ (Instr.markWrite 256 0).wellFormed = false ∧
    (Instr.markWrite 1 65536).wellFormed = false := by decide
theorem test_wellFormed_tuner :
    (Instr.tunerTransactionEnd (some { window := .inside, level := 64, lock := true })).wellFormed = false ∧
    (Instr.tunePreset 256).wellFormed = false ∧ (Instr.tuneChannel 0 256).wellFormed = false ∧
    (Instr.tuneChannel 256 0).wellFormed = false ∧ (Instr.tuneDirect 65536).wellFormed = false ∧
    (Instr.scanStart 256).wellFormed = false ∧ (Instr.presetRead 256).wellFormed = false := by decide

/-- A preset record as the host sends it: used, plan T, channel 5, the name "ABC". -/
def presetRecordT : PresetRecord :=
  { used := true, aftOff := false, skip := false, sourceBox := false, codePresent := false, plan := 0, channel := 5, fine := 0,
    nameLength := 3, name := [0x41, 0x42, 0x43, 0x20, 0x20], boxChannel := 0, networkCode := 0 }

theorem test_wellFormed_preset : (Instr.presetWrite 1 presetRecordT).wellFormed = true ∧
    (Instr.presetWrite 256 presetRecordT).wellFormed = false ∧
    (Instr.presetWrite 1 { presetRecordT with plan := 256 }).wellFormed = false ∧
    (Instr.presetWrite 1 { presetRecordT with channel := 65536 }).wellFormed = false ∧
    (Instr.presetWrite 1 { presetRecordT with fine := 128 }).wellFormed = false ∧
    (Instr.presetWrite 1 { presetRecordT with nameLength := 256 }).wellFormed = false ∧
    (Instr.presetWrite 1 { presetRecordT with name := [] }).wellFormed = false ∧
    (Instr.presetWrite 1 { presetRecordT with boxChannel := 65536 }).wellFormed = false ∧
    (Instr.presetWrite 1 { presetRecordT with networkCode := 65536 }).wellFormed = false := by decide

/-- The worked example of section 10.4 as a record: ONCE on 2031-06-15, 02:00 to 03:00, preset 1, speed S, power-off-after. -/
def entryRecordOnce : EntryRecord :=
  { enabled := true, allowSlower := false, labelFollow := false, markFlag := false, powerOffAfter := true, markGiven := false,
    repeatCode := 0, date := some { year := 2031, month := 6, day := 15 }, weekday := none, startHour := 2, startMinute := 0,
    stopHour := 3, stopMinute := 0, preset := 1, speedCode := 0, policyCode := 0 }

theorem test_wellFormed_entry : (Instr.entryWrite 4 entryRecordOnce).wellFormed = true ∧
    (Instr.entryWrite 256 entryRecordOnce).wellFormed = false ∧
    (Instr.entryWrite 4 { entryRecordOnce with repeatCode := 256 }).wellFormed = false ∧
    (Instr.entryWrite 4 { entryRecordOnce with date := some { year := 2245, month := 1, day := 1 } }).wellFormed = false ∧
    (Instr.entryWrite 4 { entryRecordOnce with date := some { year := 1989, month := 1, day := 1 } }).wellFormed = false ∧
    (Instr.entryWrite 4 { entryRecordOnce with weekday := some 255 }).wellFormed = false ∧
    (Instr.entryWrite 4 { entryRecordOnce with startHour := 256 }).wellFormed = false ∧
    (Instr.entryWrite 4 { entryRecordOnce with startMinute := 256 }).wellFormed = false ∧
    (Instr.entryWrite 4 { entryRecordOnce with stopHour := 256 }).wellFormed = false ∧
    (Instr.entryWrite 4 { entryRecordOnce with stopMinute := 256 }).wellFormed = false ∧
    (Instr.entryWrite 4 { entryRecordOnce with preset := 256 }).wellFormed = false ∧
    (Instr.entryWrite 4 { entryRecordOnce with speedCode := 16 }).wellFormed = false ∧
    (Instr.entryWrite 4 { entryRecordOnce with policyCode := 16 }).wellFormed = false := by decide

/-- A date-time on 2031-06-15. -/
def june (h m s : Nat) : DateTime := { date := { year := 2031, month := 6, day := 15 }, hour := h, minute := m, second := s }

theorem test_wellFormed_clock : (Instr.clockSet (some (june 256 0 0)) none).wellFormed = false ∧
    (Instr.clockSet (some (june 0 256 0)) none).wellFormed = false ∧
    (Instr.clockSet (some (june 0 0 256)) none).wellFormed = false ∧ (Instr.clockSet none (some 128)).wellFormed = false ∧
    (Instr.clockSet (some { june 0 0 0 with date := { year := 2031, month := 256, day := 1 } }) none).wellFormed = false ∧
    (Instr.clockSet (some { june 0 0 0 with date := { year := 2031, month := 1, day := 256 } }) none).wellFormed = false := by
  decide
/-- A good label of network 1,000 for the 14th of June, 20:15, running. -/
def labelFields : LabelFields := { network := 1000, day := 14, month := 6, hour := 20, minute := 15, status := 0, toggle := 0 }
/-- The time packet of section 6.5's example: 2031-06-14 18:30:50 UTC, local time two hours on. -/
def timeFields : TimeFields := { year := 31, month := 6, day := 14, hour := 18, minute := 30, second := 50, offset := 4 }
/-- A packet of a kind with a good check byte: the exclusive-or of the bytes 1 to 12 is 12. -/
def packetOf (kind : Byte) (l : LabelFields) (t : TimeFields) : Packet :=
  { kind := kind, payload := [1, 2, 3, 4, 5, 6, 7, 8, 9, 10, 11, 12], check := kind ^^^ 12, label := l, time := t }

theorem test_wellFormed_packet : (Instr.lineDataPacket (packetOf 1 labelFields timeFields)).wellFormed = true ∧
    (Instr.lineDataPacket { packetOf 1 labelFields timeFields with payload := [1] }).wellFormed = false := by decide
theorem test_wellFormed_control_request : (Instr.entryRead 256).wellFormed = false ∧ (Instr.cancel 256).wellFormed = false ∧
    (Instr.delete 256).wellFormed = false ∧ (Instr.disable 256).wellFormed = false ∧ (Instr.enable 256).wellFormed = false ∧
    (Instr.extend 256 (june 3 0 0)).wellFormed = false ∧ (Instr.extend 4 (june 3 0 1)).wellFormed = false := by decide

/-- The box profile of the worked example of section 9.2: 38 kHz, pulse distance, unit 21, header 16 and 8, bit mark 1, spaces 1
and 3, stop mark 1, 16 bits, repeat 2, gap 72, FIXED3 with ENTER; every code has eight 1 bits. -/
def boxExample : BoxProfile :=
  { carrier := 1, inverted := false, biphase := false, minimal := false, enter := true, topBit := false, bitField := 8,
    repeatField := 2, unit := 21, headerMark := 16, headerSpace := 8, bitMark := 1, space0 := 1, space1 := 3, halfBit := 0,
    stopMark := 1, gap := 72,
    codes := [0x00FF, 0x01FE, 0x02FD, 0x03FC, 0x04FB, 0x05FA, 0x06F9, 0x07F8, 0x08F7, 0x09F6, 0x0AF5, 0x0BF4] }

theorem test_wellFormed_box : (Instr.boxProfileLoad boxExample).wellFormed = true ∧
    (Instr.boxProfileLoad { boxExample with carrier := 8 }).wellFormed = false ∧
    (Instr.boxProfileLoad { boxExample with bitField := 32 }).wellFormed = false ∧
    (Instr.boxProfileLoad { boxExample with repeatField := 4 }).wellFormed = false ∧
    (Instr.boxProfileLoad { boxExample with unit := 256 }).wellFormed = false ∧
    (Instr.boxProfileLoad { boxExample with headerMark := 256 }).wellFormed = false ∧
    (Instr.boxProfileLoad { boxExample with headerSpace := 256 }).wellFormed = false ∧
    (Instr.boxProfileLoad { boxExample with bitMark := 256 }).wellFormed = false ∧
    (Instr.boxProfileLoad { boxExample with space0 := 256 }).wellFormed = false ∧
    (Instr.boxProfileLoad { boxExample with space1 := 256 }).wellFormed = false ∧
    (Instr.boxProfileLoad { boxExample with halfBit := 256 }).wellFormed = false ∧
    (Instr.boxProfileLoad { boxExample with stopMark := 256 }).wellFormed = false ∧
    (Instr.boxProfileLoad { boxExample with gap := 65536 }).wellFormed = false ∧
    (Instr.boxProfileLoad { boxExample with codes := [] }).wellFormed = false ∧
    (Instr.boxProfileLoad { boxExample with codes := List.replicate 12 4294967296 }).wellFormed = false := by decide
theorem test_wellFormed_box_requests : (Instr.boxProfileRead 2).wellFormed = false ∧ (Instr.boxKey 256).wellFormed = false ∧
    (Instr.outletConfig 256 3).wellFormed = false ∧ (Instr.outletConfig 0 256).wellFormed = false := by decide
theorem test_wellFormed_link : (Instr.frameAbandoned (.badLength 60)).wellFormed = false ∧
    (Instr.frameAbandoned (.badLength 61)).wellFormed = true ∧ (Instr.unknownFrame 1).wellFormed = false ∧
    (Instr.unknownFrame 0x40).wellFormed = true := by decide

/-! ## The manual's worked examples and tables -/

theorem test_calendar_day_1990 : dayOfWeek { year := 1990, month := 1, day := 1 } = 0 := by decide
/-- R131: 2031-06-14 is 15,139 days on and a Saturday. -/
theorem test_calendar_day_2031 : dayNumber { year := 2031, month := 6, day := 14 } = 15139 ∧
    dayOfWeek { year := 2031, month := 6, day := 14 } = 5 := by decide
/-- R131: the calendar has 36,525 days and ends on a Saturday. -/
theorem test_calendar_last_day : dayNumber lastTime.date = 36524 ∧ dayOfWeek lastTime.date = 5 := by decide
theorem test_calendar_inverse : dateOfDay 15139 = { year := 2031, month := 6, day := 14 } ∧ dateOfDay 0 = firstTime.date ∧
    dateOfDay 36524 = lastTime.date ∧ dateOfDay 789 = { year := 1992, month := 2, day := 29 } := by decide
/-- R130: a leap day, the end of a month and of a year. -/
theorem test_calendar_next : nextDate { year := 1992, month := 2, day := 28 } = { year := 1992, month := 2, day := 29 } ∧
    nextDate { year := 1991, month := 2, day := 28 } = { year := 1991, month := 3, day := 1 } ∧
    nextDate { year := 1999, month := 12, day := 31 } = { year := 2000, month := 1, day := 1 } := by decide
/-- R144: the label entry of the example: start 20:15, stop 21:45 on 2031-06-14. -/
theorem test_occurrence_example :
    let e : Entry :=
      { enabled := true, repeats := .once, date := some { year := 2031, month := 6, day := 14 }, weekday := none, start := 1215,
        stop := 1305, preset := 1, speed := .fixed .s, allowSlower := false, labelFollow := true, policy := .stop,
        markFlag := true, powerOff := false }
    let o := makeOcc e 15139
    timeOfSeconds o.claim.toNat = { date := { year := 2031, month := 6, day := 14 }, hour := 19, minute := 14, second := 30 } ∧
    timeOfSeconds o.winOpen.toNat = { date := { year := 2031, month := 6, day := 14 }, hour := 19, minute := 15, second := 0 } ∧
    timeOfSeconds o.lead.toNat = { date := { year := 2031, month := 6, day := 14 }, hour := 20, minute := 13, second := 30 } ∧
    timeOfSeconds o.stop.toNat = { date := { year := 2031, month := 6, day := 14 }, hour := 21, minute := 45, second := 0 } ∧
    timeOfSeconds o.endAt.toNat = { date := { year := 2031, month := 6, day := 15 }, hour := 0, minute := 15, second := 0 } := by
  decide
/-- Section 9.2: the example frame has 290 units, and box channel 47 under FIXED3 with ENTER is four keys. -/
theorem test_box_example : irUnits (irTransmission boxExample 0x00FF) = 145 ∧ irUnits (irFrame boxExample 0x00FF) = 290 ∧
    sequenceKeys boxExample 47 = [0, 4, 7, 10] ∧ sequenceKeys { boxExample with minimal := true, enter := false } 7 = [7] := by
  decide
/-- Section 11.1: a STATUS request is the frame A6 00 15 EB. -/
theorem test_frame_example : (requestFrame .status).map (fun f => frame f.1 f.2) = some [0xA6, 0x00, 0x15, 0xEB] := by decide
/-- Section 2.8: the worked AUTO search from offset 0 converges at offset 11 with the level 124. -/
theorem test_tracking_example :
    let t := [100, 130, 118, 127, 126, 110, 122, 128, 131, 127].foldl (fun t e => (Tracking.judge e t).boundary .play)
      ((Tracking.reset .auto 0).start 8)
    t.held = 11 ∧ (t.judge 124).state = .converged ∧ (t.judge 124).eConv = 124 := by decide
/-- Section 11.9: codes at the ends of their tables. -/
theorem test_codes : MState.code .jammed = 16 ∧ Reason.code .unknown = 18 ∧ MechCmd.code .eject = 8 := by decide

/-! ## Statements of the core and the mechanism -/

theorem test_meets_IdleStep : up.pending = [] ∧ up.reports = [] ∧ up.clock.fraction + 1 < up.clock.length := by decide
theorem test_meets_IdleStep_last : let s := up.onClock fun c => { c with fraction := 32766 }
    s.pending = [] ∧ s.reports = [] ∧ s.clock.fraction + 1 < s.clock.length := by decide
theorem test_meets_IdleStep_boundary : let s := up.onClock fun c => { c with fraction := 32767 }
    s.pending = [] ∧ s.clock.fraction + 1 = s.clock.length := by decide
theorem test_meets_MotionCommands : up.takes ∧ up.deckFree ∧ up.noOccurrence ∧ up.mech.state = .idle ∧ up.mech.owner = .none ∧
    up.mech.tab = true ∧ up.insideSpan = false ∧ up.pins.leaderEnd = false ∧ up.pins.leaderStart = false := by decide
theorem test_meets_CommandsAtOnce : ∀ m ∈ [MState.still, .cue, .play, .rwind, .fwind], (deckIn m).takes ∧ (deckIn m).deckFree ∧
    (deckIn m).mech.state = m ∧ (deckIn m).mech.owner = .panel ∧ (deckIn m).pins.leaderEnd = false ∧
    (deckIn m).pins.leaderStart = false := by decide

/-- The recording session of a deck in RECORD or REC_PAUSE, at speed S. -/
def session (m : MState) : State := ((deckIn m).onMech fun x => { x with recAmp := decide (m = .record) }).onServo fun v =>
  { v with recSpeed := some .s }

theorem test_meets_CommandsAtOnce_junction : ∀ m ∈ [MState.record, .recPause], let s := session m
    s.takes ∧ s.deckFree ∧ s.mech.state = m ∧ s.mech.junction = none ∧ s.mech.owner = .panel ∧ s.sched.holder = none ∧
    s.servo.recSpeed = some .s ∧ s.servo.gate = none ∧ s.mech.tab = true ∧ s.insideSpan = false ∧ s.pins.leaderEnd = false := by
  decide
theorem test_meets_StopAndEject : (∀ m ∈ [MState.play, .still, .record, .recPause, .cue, .review, .fwind, .rwind, .halt],
    (deckIn m).takes ∧ (deckIn m).deckFree ∧ (deckIn m).mech.owner.isTimer = false ∧ (deckIn m).mech.state = m ∧
    m.threaded = true) ∧ ∀ m ∈ [MState.idle, .empty], (deckIn m).takes ∧ (deckIn m).deckFree ∧
    (deckIn m).mech.owner.isTimer = false ∧ (deckIn m).mech.state = m := by decide

/-- The owner is TIMER of slot 3. -/
def timed (s : State) : State := s.onMech fun m => { m with owner := .timer 3 }
/-- The tab is absent. -/
def tabless (s : State) : State := s.onMech fun m => { m with tab := false }
/-- Both leaders are covered. -/
def leaders (s : State) : State := s.onPins fun p => { p with leaderEnd := true, leaderStart := true }
/-- A protected span from 0 to 1,000 frames is known. -/
def spanned (s : State) : State := s.onMark fun m =>
  { m with list := [{ pos := 0, type := .protectBegin, value := some 0, written := false },
                    { pos := 1000, type := .protectEnd, value := some 0, written := false }] }

theorem test_meets_Refused : (∀ m ∈ [MState.jammed, .empty, .record, .recPause, .play, .still, .cue, .review, .idle, .halt, .fwind,
    .rwind], (deckIn m).takes ∧ (deckIn m).deckFree ∧ (deckIn m).mech.owner.isTimer = false ∧ (deckIn m).mech.state = m) ∧
    (timed (deckIn .play)).takes ∧ (timed (deckIn .play)).deckFree ∧ (timed (deckIn .play)).mech.owner.isTimer = true := by decide
theorem test_meets_RefusedRecord : (∀ m ∈ [MState.idle, .halt, .fwind, .rwind, .recPause],
    ((tabless (deckIn m)).takes ∧ (tabless (deckIn m)).deckFree ∧ (tabless (deckIn m)).mech.tab = false) ∧
    ((spanned (deckIn m)).takes ∧ (spanned (deckIn m)).deckFree ∧ (spanned (deckIn m)).mech.tab = true ∧
      (spanned (deckIn m)).insideSpan = true) ∧
    (leaders (deckIn m)).takes ∧ (leaders (deckIn m)).deckFree ∧ (leaders (deckIn m)).mech.tab = true ∧
      (leaders (deckIn m)).insideSpan = false ∧ (leaders (deckIn m)).pins.leaderEnd = true) ∧
    ∀ m ∈ [MState.idle, .halt, .play, .still, .cue, .review, .fwind, .rwind], (leaders (deckIn m)).takes ∧
      (leaders (deckIn m)).deckFree ∧ (leaders (deckIn m)).pins.leaderEnd = true ∧ (leaders (deckIn m)).pins.leaderStart = true ∧
      (leaders (deckIn m)).mech.owner.isTimer = false ∧ (leaders (deckIn m)).mech.state = m := by decide

/-- A movement toward a state and code with a PANEL command in flight, started at crystal count 0. -/
def moving (m target : MState) (code : CamCode) (c : MechCmd) : State := up.onMech fun x =>
  { x with state := m, target := target, camTarget := some code, camTimer := some 0, motor := .fwd, lastCode := some 3,
           inFlight := some { what := c, origin := .panel }, owner := .panel }

/-- The slot holds a PANEL CUE. -/
def stored (s : State) : State := s.onMech fun x => { x with slot := some { what := .cue, origin := .panel } }

theorem test_meets_PendingSlot : let s := moving .shifting .play 4 .play
    s.takes ∧ s.mech.inFlight.isSome = true ∧ s.mech.junction = none ∧ s.mech.standbyStop = false ∧
    s.mech.recoveryPending = false ∧ s.mech.owner.isTimer = false ∧ s.mark.search = none ∧ s.mech.slot = none ∧
    (stored s).takes ∧ (stored s).mech.slot = some { what := .cue, origin := .panel } := by decide

/-- A junction operation in REC_PAUSE with a PANEL command in flight, begun at the counter 0. -/
def joining (j : Junction) (c : Cmd) : State := ((session .recPause).onMech fun m =>
  { m with junction := some j, junctionAt := 0, inFlight := some c }).onServo fun v =>
  { v with gate := if j = .backspace then none else some 0 }
/-- The host's RECORD, start-paused or not, and its PAUSE. -/
def recordCmd (paused : Bool) : Cmd := { what := .record, paused := paused, origin := .panel }
/-- The host's PAUSE. -/
def pauseCmd : Cmd := { what := .pause, origin := .panel }

theorem test_meets_PendingSlot_junction : ∀ x ∈ [(Junction.backspace, pauseCmd), (.lockWait, recordCmd true)],
    ∀ s ∈ [joining x.1 x.2, stored (joining x.1 x.2)], s.takes ∧ s.mech.inFlight = some x.2 ∧ s.mech.junction = some x.1 ∧
    s.mech.standbyStop = false ∧ s.mech.recoveryPending = false ∧ s.mech.owner.isTimer = false ∧ s.mark.search = none := by decide
theorem test_meets_PendingSlot_cut : ∀ x ∈ [(Junction.backspace, pauseCmd), (.lockWait, recordCmd true), (.lockWait, recordCmd false),
      (.preRoll, pauseCmd)],
    ∀ s ∈ [joining x.1 x.2, stored (joining x.1 x.2)], s.takes ∧ s.mech.state = .recPause ∧ s.mech.junction = some x.1 ∧
    s.mech.inFlight = some x.2 ∧ x.2.origin = .panel ∧ x.2.silent = false ∧ s.mech.standbyStop = false ∧
    s.mech.recoveryPending = false ∧ s.mech.owner.isTimer = false ∧ s.mark.search = none ∧ s.sched.holder = none ∧ s.roomFor 2 := by
  decide
theorem test_meets_CamArrival : (moving .shifting .play 4 .play).hears ∧ (moving .shifting .play 4 .play).mech.camTarget = some 4 ∧
    (moving .shifting .play 4 .play).mech.recoveryRun = false ∧
    (∀ m ∈ [MState.play, .cue, .recPause, .review, .fwind, .rwind], (moving .threading m 3 .play).hears ∧
      (moving .threading m 3 .play).mech.target = m ∧ (moving .threading m 3 .play).mech.camTarget = some 3 ∧
      (moving .threading m 3 .play).mech.inFlight.isSome = true) := by decide
theorem test_meets_CamArrival_shift :
    ∀ x ∈ [(MState.play, (4 : CamCode)), (.cue, 4), (.review, 5), (.fwind, 6), (.rwind, 6)],
      let s := moving .shifting x.1 x.2 .play
      s.hears ∧ s.mech.state = .shifting ∧ s.mech.target = x.1 ∧ s.mech.camTarget = some x.2 ∧
      s.mech.inFlight = some { what := .play, origin := .panel } ∧ s.mech.slot = none ∧ s.pins.leaderEnd = false ∧
      s.pos.motion = none ∧ s.mark.writer = .idle ∧ s.servo.reference = .internal ∧ s.roomFor 1 := by decide
theorem test_meets_CamArrival_rest : (let s := moving .shifting .recPause 4 .record
    s.hears ∧ s.mech.state = .shifting ∧ s.mech.target = .recPause ∧ s.mech.camTarget = some 4 ∧ s.pins.leaderEnd = false ∧
    s.servo.gate = none) ∧
    ∀ x ∈ [(MState.shifting, MState.halt, (3 : CamCode)), (.threading, .halt, 3), (.unthreading, .idle, 1), (.ejecting, .empty, 0)],
      ∀ closed ∈ [true, false],
      let s := (moving x.1 x.2.1 x.2.2 .stop).onPins fun p => { p with cassetteIn := closed }
      s.hears ∧ s.mech.state = x.1 ∧ s.mech.target = x.2.1 ∧ s.mech.camTarget = some x.2.2 ∧
      s.mech.inFlight = some { what := .stop, origin := .panel } ∧ s.mech.slot = none ∧ s.mech.owner = .panel ∧
      s.mech.recoveryRun = false ∧ s.mech.standbyStop = false ∧ s.pos.motion = none ∧ s.mark.writer = .idle ∧
      s.servo.reference = .internal ∧ s.noOccurrence ∧ s.roomFor 1 ∧ s.pins.cassetteIn = closed := by decide

/-- The slot holds a PANEL STOP. -/
def stopStored (s : State) : State := s.onMech fun x => { x with slot := some { what := .stop, origin := .panel } }

theorem test_meets_CamArrival_work : ∀ x ∈ [(MState.play, (4 : CamCode)), (.cue, 4), (.review, 5), (.fwind, 6), (.rwind, 6)],
    ∀ s ∈ [stopStored (moving .shifting x.1 x.2 .play), leaders (moving .shifting x.1 x.2 .play)],
    s.hears ∧ s.mech.state = .shifting ∧ s.mech.target = x.1 ∧ s.mech.camTarget = some x.2 ∧
    s.mech.inFlight = some { what := .play, origin := .panel } ∧ s.mech.recoveryPending = false ∧ s.pos.motion = none ∧
    s.mark.writer = .idle ∧ s.servo.reference = .internal ∧ s.sched.holder = none ∧ s.roomFor 2 ∧ s.mech.owner.isTimer = false ∧
    s.mark.search = none := by decide

/-- A lock wait or pre-roll one revolution before the drum locks, the capstan in a state, at a counter. -/
def locking (j : Junction) (c : Cmd) (cap : CapState) (counter : Int) : State := ((joining j c).onServo fun v =>
  { v with drum := { v.drum with state := .speed, pgGood := 7 },
           capstan := { v.capstan with state := cap, target := some { speed := .s, fast := false, reverse := false } } }).onPos fun p =>
  { p with counter := counter, motion := some { forward := true, start := 0 }, gap := some 0 }

theorem test_meets_CamArrival_locks : ∀ x ∈ [(Junction.lockWait, recordCmd false), (.lockWait, recordCmd true),
      (.preRoll, recordCmd false), (.preRoll, pauseCmd)],
    ∀ cap ∈ [CapState.speed, .locked], ∀ counter ∈ [(29 : Int), 30], let s := locking x.1 x.2 cap counter
    s.hears ∧ s.mech.state = .recPause ∧ s.mech.junction = some x.1 ∧ s.mech.inFlight = some x.2 ∧ x.2.origin = .panel ∧
    x.2.silent = false ∧ s.mech.slot = none ∧ s.mark.search = none ∧ s.sched.holder = none ∧ s.servo.recSpeed = some .s ∧
    s.servo.drum.state = .speed ∧ s.servo.drum.pgGood = 7 ∧ s.servo.capstan.state = cap ∧ s.mech.junctionAt = 0 ∧
    s.pos.counter = counter ∧ s.pins.leaderEnd = false ∧ s.guardSpan = none ∧ s.roomFor 3 ∧
    s.servo.capstan.target = some { speed := .s, fast := false, reverse := false } := by decide

/-- The backspace at a counter, the tape drawn in reverse. -/
def backing (counter : Int) : State := (joining .backspace pauseCmd).onPos fun p =>
  { p with counter := counter, motion := some { forward := false, start := 0 }, gap := some 0 }

theorem test_meets_CamArrival_backspace : ∀ counter ∈ [(-29 : Int), -28], let s := backing counter
    s.hears ∧ s.mech.state = .recPause ∧ s.mech.junction = some .backspace ∧ s.mech.inFlight = some pauseCmd ∧
    s.mech.slot = none ∧ s.mark.search = none ∧ s.sched.holder = none ∧ s.mark.writer = .idle ∧ s.mark.reader.phase ≠ .inRun ∧
    s.pos.motion = some { forward := false, start := 0 } ∧ - counterLimit s.std < s.pos.counter ∧
    s.pos.counter ≤ counterLimit s.std ∧ s.roomFor 3 ∧ (s.pos.counter - 1 ≤ s.mech.junctionAt - 30 ↔ counter = -29) := by decide
theorem test_meets_MovementTimeout_none : ∀ x ∈ [(MState.inserting, 3000), (.unthreading, 4000), (.shifting, 1500)],
    let s := (later (cyclesOf x.2) (moving x.1 .play 4 .play)).onMech fun m => { m with inFlight := none }
    s.hears ∧ s.mech.state = x.1 ∧ s.mech.camTimer = some 0 ∧ x.2 * 32768 ≤ (s.now - 0) * 1000 ∧ s.mech.inFlight = none ∧
    s.mech.slot = none ∧ s.mech.recoveryRun = false ∧ s.mech.standbyStop = false ∧ s.mark.search = none ∧
    s.sched.holder = none ∧ s.pos.motion = none ∧ s.mark.writer = .idle ∧ s.servo.reference = .internal ∧ s.roomFor 2 := by decide
theorem test_meets_MovementTimeout :
    ∀ x ∈ [(MState.inserting, 3000), (.threading, 4000), (.unthreading, 4000), (.ejecting, 3000), (.shifting, 1500)],
      let s := later (cyclesOf x.2) (moving x.1 .play 4 .play)
      s.hears ∧ s.mech.camTimer = some 0 ∧ x.2 * 32768 ≤ (s.now - 0) * 1000 ∧ (s.now - 1) * 1000 < x.2 * 32768 ∧
      s.mech.slot = none ∧ s.mech.recoveryRun = false ∧ s.mech.standbyStop = false ∧ s.mark.search = none ∧
      s.sched.holder = none ∧ s.pos.motion = none ∧ s.mark.writer = .idle ∧ s.servo.reference = .internal ∧ s.roomFor 2 := by
  decide

/-- PLAY with its motion running since crystal count 0. -/
def inPlay : State := (deckIn .play).onPos fun p => { p with motion := some { forward := true, start := 0 }, gap := some 0 }

theorem test_meets_ReelStall : let s := later (12288 * 32 + 1) inPlay
    s.hears ∧ s.mech.state = .play ∧ s.pos.motion = some { forward := true, start := 0 } ∧ s.mech.stall.pulses < 2 ∧
    12288 * 32 < s.now - s.mech.stall.last ∧ s.mech.inFlight = none ∧ s.mech.slot = none ∧ s.mark.search = none ∧
    s.sched.holder = none ∧ s.mark.writer = .idle ∧ s.servo.reference = .internal ∧ s.link.settings.counterNotices = false ∧
    s.roomFor 3 ∧ (later (12288 * 32) inPlay).now - 0 ≤ 12288 * 32 := by decide
theorem test_meets_ReelStall_motions : ∀ x ∈ [(MState.play, (none : Option Junction)), (.record, none), (.cue, none), (.review, none),
      (.fwind, none), (.rwind, none), (.recPause, some .backspace), (.recPause, some .lockWait), (.recPause, some .preRoll)],
    let s := stored ((later (12288 * 32 + 1) inPlay).onMech fun m =>
      { m with state := x.1, junction := x.2, inFlight := some pauseCmd })
    s.hears ∧ s.mech.state = x.1 ∧ s.mech.junction = x.2 ∧ s.pos.motion.isSome = true ∧ 12288 * 32 < s.now - s.mech.stall.last ∧
    s.mech.inFlight = some pauseCmd ∧ s.mech.slot = some { what := .cue, origin := .panel } ∧ s.mark.search = none ∧
    s.sched.holder = none ∧ s.mark.writer = .idle ∧ s.servo.reference = .internal ∧
    s.link.settings.counterNotices = false ∧ s.roomFor 3 ∧ up.pos.motion = none := by decide

/-- INSERTING on its way to SEATED, the owner NONE. -/
def inserting : State := up.onMech fun m =>
  { m with state := .inserting, target := .idle, camTarget := some 1, camTimer := some 0, motor := .fwd, lastCode := some 0 }
/-- JAMMED after a cam timeout, the cam at a code. -/
def jammedAt (code : CamCode) (closed : Bool) : State :=
  (up.onMech fun m => { m with state := .jammed, fault := .camTimeout }).onPins fun p => { p with cam := code, cassetteIn := closed }
/-- A cassette without its tab, and AUTOPLAY set. -/
def autoplaying (s : State) : State := (s.onPins fun p => { p with tabSwitch := false }).onLink fun l =>
  { l with settings := { l.settings with autoplay := true } }

theorem test_meets_CassetteSwitch_seats : ∀ s ∈ [inserting, autoplaying inserting, inserting.onMech fun m => { m with recoveryRun := true }],
    s.hears ∧ s.pwr.power ≠ .standby ∧ s.mech.state = .inserting ∧ s.mech.camTarget = some 1 ∧ s.mech.inFlight = none ∧
    s.mech.slot = none ∧ s.mech.standbyStop = false ∧ s.pos.motion = none ∧ s.mark.writer = .idle ∧
    s.servo.reference = .internal ∧ s.roomFor 1 ∧ s.mech.owner = .none ∧ s.pins.leaderEnd = false ∧
    s.mech.recoveryPending = false ∧ s.noOccurrence ∧ s.pwr.resetMark = false ∧ s.sched.holder = none ∧
    inserting.pins.tabSwitch = true ∧ inserting.mech.recoveryRun = false ∧
    (autoplaying inserting).link.settings.autoplay = true ∧ (autoplaying inserting).pins.tabSwitch = false := by decide
theorem test_meets_CassetteSwitch_jammed : ∀ code ∈ [(0 : CamCode), 1, 2, 7], ∀ closed ∈ [true, false],
    (jammedAt code closed).takes ∧ (jammedAt code closed).deckFree ∧ (jammedAt code closed).mech.state = .jammed ∧
    (jammedAt code closed).mech.owner = .none ∧ (jammedAt code closed).pins.cam = code ∧
    (jammedAt code closed).pins.cassetteIn = closed ∧ (jammedAt code closed).mech.recoveryRun = false := by decide
/-- R1: the mechanism freed from JAMMED has EJECT as the code last reported, by the EJECT and by the switch. -/
theorem test_jammed_freed_code : (after .eject (jammedAt 0 false)).mech.lastCode = some 0 ∧
    (after .cassetteInOpen (jammedAt 0 true)).mech.lastCode = some 0 ∧
    (after .cassetteInOpen (jammedAt 2 true)).mech.lastCode = some 1 := by decide
theorem test_meets_CassetteSwitch : (deckIn .empty).hears ∧ (deckIn .empty).pwr.power ≠ .standby ∧
    (deckIn .empty).mech.state = .empty ∧ (deckIn .empty).supplyGood = true ∧
    let low := (deckIn .empty).onPwr fun p => { p with phase := .raising, power := .timerOn }
    low.hears ∧ low.pwr.power ≠ .standby ∧ low.supplyGood = false := by decide

/-- EJECTING after the cam has read EJECT, the host's EJECT in flight, the owner NONE. -/
def ejecting : State := (moving .ejecting .empty 0 .eject).onMech fun m => { m with ejectRead := true, owner := .none }

theorem test_meets_CassetteSwitch_open : ejecting.hears ∧ ejecting.pwr.power ≠ .standby ∧ ejecting.mech.state = .ejecting ∧
    ejecting.mech.ejectRead = true ∧ ejecting.mech.inFlight = some { what := .eject, origin := .panel } ∧
    ejecting.mech.slot = none ∧ ejecting.mech.owner = .none ∧ ejecting.mech.recoveryRun = false ∧
    ejecting.mech.standbyStop = false ∧ ejecting.pos.motion = none ∧ ejecting.mark.writer = .idle ∧
    ejecting.servo.reference = .internal ∧ ejecting.roomFor 1 := by decide
theorem test_meets_CoveredLeaders : (∀ m ∈ [MState.play, .record, .cue, .fwind], (deckIn m).hears ∧
    (deckIn m).mech.junction = none ∧ (deckIn m).mech.inFlight = none ∧ (deckIn m).mark.search = none ∧
    (deckIn m).sched.holder = none ∧ (deckIn m).mark.writer = .idle ∧ (deckIn m).roomFor 2) ∧
    (∀ x ∈ [(Junction.lockWait, recordCmd true), (.preRoll, pauseCmd)], let s := stored (locking x.1 x.2 .speed 0)
      s.hears ∧ s.mech.state = .recPause ∧ s.mech.junction = some x.1 ∧ s.mech.inFlight = some x.2 ∧ x.2.origin = .panel ∧
      x.2.silent = false ∧ s.mark.search = none ∧ s.sched.holder = none ∧ s.mark.writer = .idle ∧ s.roomFor 2) ∧
    ∀ m ∈ [MState.review, .rwind], (deckIn m).hears ∧ (deckIn m).mech.state = m ∧ (deckIn m).mark.search = none ∧
      (deckIn m).mark.writer = .idle ∧ (deckIn m).servo.reference = .internal ∧ (deckIn m).roomFor 1 := by decide

/-- A state whose still timer has run from 0. -/
def stillFor (m : MState) : State := (deckIn m).onMech fun x => { x with still := some 0 }
/-- HALT with the halt timer running from 0 after a suspended stretch of 100 cycles before. -/
def haltFor : State := (deckIn .halt).onMech fun x => { x with halt := some { elapsed := 100, since := some 0 } }

theorem test_meets_RestTimers : (∀ m ∈ [MState.still, .recPause], let s := later (cyclesOf 300000) (stillFor m)
    s.hears ∧ s.mech.still = some 0 ∧ s.mech.state = m ∧ 300000 * 32768 ≤ (s.now - 0) * 1000 ∧
    (s.now - 1) * 1000 < 300000 * 32768) ∧
    (let s := later (cyclesOf 180000 - 100) haltFor
    s.hears ∧ s.mech.halt = some { elapsed := 100, since := some 0 } ∧ s.mech.state = .halt ∧
    180000 * 32768 ≤ (100 + (s.now - 0)) * 1000 ∧ (100 + (s.now - 1)) * 1000 < 180000 * 32768) ∧
    (deckIn .play).mech.still = none ∧ (deckIn .play).mech.halt = none := by decide
theorem test_meets_RestTimers_follow : (∀ m ∈ [MState.play, .still, .halt, .recPause], (deckIn m).takes ∧ (deckIn m).deckFree ∧
    (deckIn m).mech.state = m ∧ (deckIn m).mech.owner = .panel ∧ (deckIn m).mech.owner.isTimer = false ∧
    (deckIn m).pins.leaderEnd = false ∧ (deckIn m).mech.still = none) ∧ Instr.play ≠ .resetLineLow := by decide
/-- R7, R9: a state of each shift row. -/
theorem test_meets_MotionCommands_shift : ∀ m ∈ [MState.halt, .play, .still, .cue, .review, .fwind, .rwind, .recPause],
    (deckIn m).takes ∧ (deckIn m).deckFree ∧ (deckIn m).noOccurrence ∧ (deckIn m).mech.state = m ∧
    (deckIn m).mech.junction = none ∧ (deckIn m).mark.writer = .idle ∧ (deckIn m).mech.owner = .panel ∧
    (deckIn m).mech.tab = true ∧ (deckIn m).insideSpan = false ∧ (deckIn m).pins.leaderEnd = false ∧
    (deckIn m).pins.leaderStart = false := by decide
theorem test_shift_rows : (after .review (deckIn .halt)).mech.camTarget = some 5 ∧
    (after .fwind (deckIn .still)).mech.camTarget = some 6 ∧ (after .play (deckIn .rwind)).mech.camTarget = some 4 := by decide

/-- A shift to HALT that an event began, with its cause. -/
def settling (c : Option StateCause) (rewind : Bool) : State := (((deckIn .shifting).onMech fun x =>
  { x with target := .halt, camTarget := some 3, camTimer := some 0, cause := c }).onLink fun l =>
  { l with settings := { l.settings with autoRewind := rewind } })
theorem test_meets_EventMovements : ∀ c ∈ [none, some StateCause.rest, some .endLeader, some .startLeader, some .memoryStop,
      some .protectStop], ∀ r ∈ [true, false], ∀ s ∈ [settling c r, stopStored (settling c r)],
    (s.hears ∧ s.mech.state = .shifting ∧ s.mech.target = .halt ∧ s.mech.camTarget = some 3 ∧ s.mech.inFlight = none ∧
      s.mech.standbyStop = false ∧ s.mech.recoveryPending = false ∧ s.mark.search = none) ∧
    s.mark.writer = .idle ∧ s.pos.motion = none ∧ s.servo.reference = .internal ∧ s.noOccurrence ∧ s.roomFor 1 ∧
    s.mech.cause = c ∧ s.mech.owner = .panel ∧ s.pins.leaderStart = false := by decide
theorem test_auto_rewind : (after (.camTargetReached 3) (settling (some .endLeader) true)).mech.target = .rwind ∧
    (after (.camTargetReached 3) (settling (some .endLeader) false)).mech.state = .halt ∧
    (after (.camTargetReached 3) (stopStored (settling (some .rest) false))).mech.state = .unthreading := by decide
/-- An UNTHREADING to IDLE that the halt timer or a recovery began. -/
def unloading (recovery cassette : Bool) : State := (((deckIn .unthreading).onMech fun x =>
  { x with target := .idle, camTarget := some 1, camTimer := some 0, recoveryRun := recovery,
           cause := if recovery then none else some .rest })).onPins fun p => { p with cassetteIn := cassette, tabSwitch := false }
theorem test_meets_EventMovements_unthreading : ∀ r ∈ [true, false], ∀ i ∈ [true, false], ∀ s ∈ [unloading r i],
    (s.hears ∧ s.mech.state = .unthreading ∧ s.mech.target = .idle ∧ s.mech.camTarget = some 1 ∧ s.mech.inFlight = none ∧
      s.mech.slot = none ∧ s.mech.standbyStop = false ∧ s.mark.search = none ∧ s.mark.writer = .idle) ∧
    s.pos.motion = none ∧ s.servo.reference = .internal ∧ s.noOccurrence ∧ s.roomFor 1 ∧ s.pwr.resetMark = false ∧
    s.mech.recoveryRun = r ∧ s.pins.cassetteIn = i := by decide


/-! ## Statements of the servo -/

/-- A drum loop state with its counts, in STILL. -/
def drumAt (st : DrumState) (fgGood fgBad pgGood pgBad : Nat) : State := (deckIn .still).onServo fun v =>
  { v with drum := { state := st, fgGood := fgGood, fgBad := fgBad, pgGood := pgGood, pgBad := pgBad, timer := some 0, heldOff := false } }

/-- R34 under standard A: 6.8 ms is the last period within 2 %, 7,407,408 ns the first with a speed error beyond 10 %. -/
theorem test_meets_DrumLoop :
    let good (p : Nat) : Prop := ((p : Int) * (6 * up.std.frames : Nat) - 1000000000).natAbs * 100 ≤ 2000000000
    let bad (p : Nat) : Prop := 10 * ((p : Int) * (6 * up.std.frames : Nat)).natAbs <
      ((p : Int) * (6 * up.std.frames : Nat) - 1000000000).natAbs * 100
    good 6800000 ∧ ¬ good 6800001 ∧ ¬ bad 7407407 ∧ bad 7407408 ∧ (50000 : Int).natAbs ≤ 50000 ∧ 100000 < (100001 : Int).natAbs := by
  decide
theorem test_meets_DrumLoop_states : (∀ s ∈ [drumAt .runup 10 3 0 0, drumAt .runup 11 0 0 0, drumAt .speed 0 10 6 3,
    drumAt .speed 0 11 7 0, drumAt .locked 0 10 5 2, drumAt .locked 0 11 0 3, drumAt .stopped 0 0 0 0],
    s.hears ∧ s.mech.junction = none) ∧
    (let s := locking .preRoll pauseCmd .speed 0
    s.hears ∧ s.mech.junction ≠ none ∧ s.mech.junction ≠ some .backspace ∧ s.servo.capstan.state ≠ .locked ∧
    s.servo.drum.state = .speed) ∧ 50000 < (50001 : Int).natAbs ∧ (100000 : Int).natAbs ≤ 100000 := by decide

/-- PLAY, the capstan in speed mode toward speed S with its counts. -/
def capstanAt (good bad : Nat) (met : Bool) : State := inPlay.onServo fun v =>
  { v with capstan := { state := if met then .locked else .speed, target := some { speed := .s, fast := false, reverse := false },
                        good := good, bad := bad, speedMet := met, phaseMode := false, phaseGood := 0, phaseBad := 0,
                        phaseMet := false, timer := some 0 } }

/-- R36 at speed S: 2.125 ms is the last period within 2 %, 2,291,667 ns the first beyond 10 %. -/
theorem test_meets_Capstan :
    let good (p : Nat) : Prop := ((p : Int) * 480 - 1000000000).natAbs * 100 ≤ 2000000000
    let bad (p : Nat) : Prop := 10000000000 < ((p : Int) * 480 - 1000000000).natAbs * 100
    good 2125000 ∧ ¬ good 2125001 ∧ ¬ bad 2291666 ∧ bad 2291667 ∧
    (∀ s ∈ [capstanAt 22 3 false, capstanAt 23 0 false, capstanAt 4 22 true, capstanAt 0 23 true], s.hears ∧
      s.mech.junction = none ∧ s.mark.search = none ∧ s.sched.holder = none ∧ s.servo.capstan.state ≠ .stopped ∧
      s.pos.motion = some { forward := true, start := 0 } ∧
      s.servo.capstan.target = some { speed := .s, fast := false, reverse := false } ∧ s.servo.capstan.phaseMode = false) ∧
    (deckIn .still).servo.capstan.target = none ∧ (deckIn .still).hears ∧ (deckIn .still).mech.junction = none ∧
    (deckIn .still).mech.state ∉ [MState.play, .cue, .review, .recPause] := by decide

/-- The three loop timers started at 0, in PLAY. -/
def loopTimers : State := (deckIn .play).onServo fun v =>
  { v with drum := { v.drum with state := .speed, timer := some 0 },
           capstan := { v.capstan with state := .speed, timer := some 0 }, guard := some 0 }

theorem test_meets_LoopTimers : ∀ ms ∈ [3000, 1000, 2000], let s := later (cyclesOf ms) loopTimers
    s.hears ∧ s.servo.drum.timer = some 0 ∧ s.servo.capstan.timer = some 0 ∧ s.servo.guard = some 0 ∧
    ms * 32768 ≤ (s.now - 0) * 1000 ∧ (s.now - 1) * 1000 < ms * 32768 ∧ s.mech.state.threaded = true ∧ s.mech.state ≠ .halt ∧
    s.mech.inFlight = none ∧ s.mech.slot = none ∧ s.mark.search = none ∧ s.sched.holder = none ∧ s.roomFor 1 := by decide

/-- A lock wait in REC_PAUSE with the record gate running from 0, the host's RECORD in flight. -/
def gated (drum : DrumState) (cap : CapState) : State := ((deckIn .recPause).onMech fun m =>
  { m with junction := some .lockWait, inFlight := some { what := .record, origin := .panel } }).onServo fun v =>
  { v with gate := some 0, drum := { v.drum with state := drum }, capstan := { v.capstan with state := cap } }

theorem test_meets_RecordGate : ∀ x ∈ [(DrumState.speed, CapState.speed), (.locked, .speed), (.locked, .locked)],
    let s := later (cyclesOf 3000) (gated x.1 x.2)
    s.hears ∧ s.servo.gate = some 0 ∧ s.mech.state = .recPause ∧ s.mech.junction = some .lockWait ∧
    3000 * 32768 ≤ (s.now - 0) * 1000 ∧ (s.now - 1) * 1000 < 3000 * 32768 ∧
    s.mech.inFlight = some { what := .record, origin := .panel } ∧ s.mech.slot = none ∧ s.mark.search = none ∧
    s.sched.holder = none ∧ s.roomFor 2 ∧ (x = (.locked, .locked) → s.servo.bothLocked = true) := by decide

/-- The tuner's sync with its counts, in a state. -/
def syncAt (m : MState) (y : Sync) (r : RefSource) : State := (deckIn m).onServo fun v =>
  { v with syncTuner := y, reference := r, drum := { v.drum with state := .locked } }

/-- R38 under standard A: the field period is 20 ms, 20.8 ms its last interval within 4 %; three periods are 1,966.08 cycles. -/
theorem test_meets_Sync :
    let ok (n : Nat) : Prop := ((n : Int) * (2 * up.std.frames : Nat) - 1000000000).natAbs * 100 ≤ 4000000000
    ok 20800000 ∧ ¬ ok 20800001 ∧
    (∀ y ∈ [Sync.reset, { present := false, good := 6, bad := 0, timer := some 0 }, { present := true, good := 2, bad := 6, timer := some 0 }, { present := false, good := 7, bad := 0, timer := some 0 },
        { present := true, good := 0, bad := 7, timer := some 0 }],
      let s := syncAt .play y .internal
      s.hears ∧ s.mech.junction = none ∧ s.mech.state ≠ .record ∧ s.mech.state ≠ .recPause ∧ s.servo.reference = .internal ∧
      s.servo.sync .tuner = y) ∧
    3 * 32768 ≤ (1967 - 0) * (2 * up.std.frames) ∧ (1966 - 0) * (2 * up.std.frames) < 3 * 32768 := by decide
theorem test_meets_Sync_session : ∀ x ∈ [((⟨false, 7, 0, some 0⟩ : Sync), RefSource.internal), (⟨true, 0, 0, some 0⟩, .tuner)],
    let s := later 1967 (syncAt .recPause x.1 x.2)
    s.hears ∧ s.mech.state = .recPause ∧ s.mech.junction = none ∧ s.tuner.selected = .tuner ∧ s.servo.drum.state = .locked ∧
    s.roomFor 1 ∧ s.servo.syncTuner = x.1 ∧ s.servo.reference = x.2 ∧ 3 * 32768 ≤ (s.now - 0) * (2 * s.std.frames) := by decide

/-- CUE with an envelope window and runs. -/
def envelopeAt (level low high : Nat) (lost : Bool) : State := (deckIn .cue).onServo fun v =>
  { v with envelope := { window := List.replicate 7 level, lowRun := low, highRun := high, noSignal := lost } }

theorem test_meets_FrameBoundary : (deckIn .still).hears ∧ (deckIn .still).mech.state = .still ∧
    (deckIn .still).servo.pendingSpeed = none ∧
    (∀ s ∈ [envelopeAt 15 15 0 false, envelopeAt 24 0 7 true], s.hears ∧ s.mech.state = .cue ∧ s.servo.pendingSpeed = none ∧
      s.mark.search = none ∧ 7 ≤ s.servo.envelope.window.length) ∧
    ((22 :: (envelopeAt 15 15 0 false).servo.envelope.window).take 8).sum / 8 < 16 ∧
    24 ≤ ((24 :: (envelopeAt 24 0 7 true).servo.envelope.window).take 8).sum / 8 ∧
    (syncAt .record Sync.reset .tuner).hears ∧ (syncAt .record Sync.reset .tuner).servo.reference ≠ .internal := by decide

/-- PLAY in AUTO without a replayed pulse, the tracking search in a state with its samples, last measurement and step. -/
def searchingAt (st : TrackState) (held : Int) (n : Nat) (old : Option Nat) (step reversal : Nat) : State := inPlay.onServo fun v =>
  { v with tracking := { v.tracking with state := st, held := held, applied := held, samples := List.replicate n 100, eOld := old,
                                         step := step, up := true, reversal := reversal, eConv := 100, low := 3 } }

theorem test_meets_FrameBoundary_search : ∀ s ∈ [searchingAt .searching 5 6 none 8 0, searchingAt .searching 5 7 none 8 0,
      searchingAt .searching 63 7 (some 100) 8 0, searchingAt .searching 5 7 (some 97) 8 1, searchingAt .searching 5 7 (some 103) 2 1,
      searchingAt .searching 5 7 (some 103) 2 0, searchingAt .converged 5 7 (some 100) 1 2,
      (searchingAt .searching 5 3 (some 100) 8 0).onServo fun v => { v with tracking := { v.tracking with pending := some 13 } }],
    s.hears ∧ s.mech.state = .play ∧ s.servo.pulseSeen = none ∧ s.servo.pendingSpeed = none ∧ s.servo.tracking.mode = .auto ∧
    s.mark.search = none ∧ s.servo.envelope.noSignal = false ∧ s.servo.envelope.lowRun < 15 := by decide
/-- R48: seven samples of 100 and one of 100 measure 100, one of 0 measures 87, one of 95 measures 99; R49: 75 is three quarters
of 100. -/
theorem test_meets_FrameBoundary_levels : ((100 : Nat) :: List.replicate 7 100).sum / 8 = 100 ∧ (0 :: List.replicate 7 100).sum / 8 = 87 ∧
    3 * 100 ≤ 4 * 75 ∧ 4 * 74 < 3 * 100 ∧ (100 : Nat) + 2 < 103 ∧ (97 : Nat) + 2 < 100 := by decide
/-- The same with the envelope's window and runs. -/
def signalAt (st : TrackState) (level low high : Nat) (lost : Bool) : State := (searchingAt st 5 3 none 8 0).onServo fun v =>
  { v with envelope := { window := List.replicate 7 level, lowRun := low, highRun := high, noSignal := lost } }

theorem test_meets_FrameBoundary_signal : ∀ s ∈ [signalAt .searching 15 15 0 false, signalAt .converged 15 15 0 false,
      signalAt .suspended 24 0 7 true],
    s.hears ∧ s.mech.state = .play ∧ s.servo.pulseSeen = none ∧ s.servo.pendingSpeed = none ∧ s.servo.tracking.mode = .auto ∧
    s.mark.search = none ∧ s.servo.tracking.pending = none ∧ 7 ≤ s.servo.envelope.window.length ∧
    (s.servo.envelope.noSignal = false → s.servo.envelope.lowRun = 15 ∧ (15 :: s.servo.envelope.window).sum / 8 < 16) ∧
    (s.servo.envelope.noSignal = true → s.servo.envelope.highRun = 7 ∧ 24 ≤ (24 :: s.servo.envelope.window).sum / 8) := by decide

/-- PLAY at speed S with so many intervals of the play-speed detection collected, and a candidate waiting or not. -/
def detecting (n each : Nat) (gap : Timer) (next : Option Speed) : State := (capstanAt 0 0 true).onServo fun v =>
  { v with intervals := List.replicate n each, speedGap := gap, pendingPlay := next }

theorem test_meets_ControlPulse : ∀ s ∈ [detecting 0 0 none none, detecting 6 40000000 (some 0) none,
      detecting 7 40000000 (some 0) none, detecting 7 20000000 (some 0) none, detecting 0 0 (some 0) (some .h)],
    s.hears ∧ s.mech.state = .play ∧ s.mech.junction = none ∧ s.pos.motion = some { forward := true, start := 0 } ∧
    s.mark.search = none ∧ s.sched.holder = none ∧ s.mark.writer = .idle ∧ s.mark.reader.phase ≠ .inRun ∧
    s.servo.pendingSpeed = none ∧ s.roomFor 1 ∧
    s.servo.capstan.target ≠ some { speed := .h, fast := false, reverse := false } := by decide
/-- The same with three intervals collected, the average of the last set and the capstan's phase mode and counts. -/
def phasing (avg : Option Speed) (mode : Bool) (good bad : Nat) (met : Bool) : State := (detecting 3 40000000 (some 0) none).onServo fun v =>
  { v with avgSpeed := avg, capstan := { v.capstan with phaseMode := mode, phaseGood := good, phaseBad := bad, phaseMet := met } }

/-- R36: with the offset +1 applied, 1/256 of a frame, the last good phase error is 53,906 millionths and the first bad one 103,907. -/
theorem test_meets_ControlPulse_phase : (∀ s ∈ [phasing none true 3 0 false, phasing (some .s) false 3 3 true,
      phasing (some .s) true 2 1 false, phasing (some .s) true 3 0 false, phasing (some .s) true 1 2 true,
      phasing (some .s) true 0 3 true],
    s.hears ∧ s.mech.state = .play ∧ s.mech.junction = none ∧ s.pos.motion = some { forward := true, start := 0 } ∧
    s.mark.search = none ∧ s.sched.holder = none ∧ s.mark.writer = .idle ∧ s.mark.reader.phase ≠ .inRun ∧
    s.servo.pendingSpeed = none ∧ s.servo.pendingPlay = none ∧ s.servo.speedGap.isSome = true ∧ s.servo.intervals.length < 7 ∧
    s.servo.capstan.state ≠ .stopped ∧ s.servo.playSpeed = .s) ∧
    let err (phase : Int) : Nat := (256 * phase - 1000000 * 1).natAbs
    err 53906 ≤ 256 * 50000 ∧ ¬ err 53907 ≤ 256 * 50000 ∧ ¬ 256 * 100000 < err 103906 ∧ 256 * 100000 < err 103907 := by decide
/-- R44 under standard A: eight frames of S last 320 ms; 358.4 ms is the last sum within 12 %. Frames of H, replayed at S, last
half as long. -/
theorem test_meets_ControlPulse_fits : let sum (n : Nat) : Nat := n * (up.std.frames * Speed.factor .s)
    ((sum 358400000 : Int) - 8000000000).natAbs * 100 ≤ 12 * 8000000000 ∧
    ¬ ((sum 358400001 : Int) - 8000000000).natAbs * 100 ≤ 12 * 8000000000 ∧
    160000000 * (up.std.frames * Speed.factor .h) = 8000000000 ∧ (Speed.h).isLegal up.std = true := by decide

/-- A control pulse seen at 0 and the play-speed gap watch running from 0, the capstan's speed criterion met. -/
def pulseGaps : State := (capstanAt 0 0 true).onServo fun v => { v with pulseSeen := some 0, speedGap := some 0 }

theorem test_meets_ControlPulseGaps : ∀ ms ∈ [600, 1000], let s := later (cyclesOf ms) pulseGaps
    s.hears ∧ s.mech.junction = none ∧ s.servo.pulseSeen = some 0 ∧ s.servo.speedGap = some 0 ∧
    ms * 32768 ≤ (s.now - 0) * 1000 ∧ (s.now - 1) * 1000 < ms * 32768 ∧ s.servo.capstan.state ≠ .stopped := by decide

/-- PLAY with a tracking mode. -/
def trackingIn (m : TrackMode) : State := (deckIn .play).onServo fun v => { v with tracking := { v.tracking with mode := m, held := 5 } }

theorem test_meets_Tracking : (trackingIn .auto).takes ∧ (trackingIn .manual).takes ∧
    clampInt (-63) 63 63 = 63 ∧ clampInt (-63) 63 64 = 63 ∧ clampInt (-63) 63 (-64) = -63 := by decide
theorem test_tracking_to_auto : let t := after (.tracking .auto (some 64)) (trackingIn .manual)
    t.servo.tracking.state = .searching ∧ t.servo.tracking.manual = 63 ∧ t.servo.tracking.step = 8 := by decide

/-! ## Statements of the position -/

/-- A motion in a state with its counter. -/
def motionAt (m : MState) (forward : Bool) (counter : Int) : State := (deckIn m).onPos fun p =>
  { p with motion := some { forward := forward, start := 0 }, gap := some 0, counter := counter }

theorem test_meets_CounterFollows :
    ∀ x ∈ [(MState.play, true, (0 : Int)), (.cue, true, 899998), (.fwind, true, 899999), (.review, false, -899999), (.rwind, false, 5)],
      let s := motionAt x.1 x.2.1 x.2.2
      s.hears ∧ s.pos.motion = some { forward := x.2.1, start := 0 } ∧ s.mech.state = x.1 ∧ s.mech.junction = none ∧
      s.mark.search = none ∧ s.sched.holder = none ∧ s.pos.target = none ∧ s.pos.approx = false ∧ s.servo.pendingSpeed = none ∧
      s.mark.writer = .idle ∧ s.mark.reader.phase ≠ .inRun ∧ - counterLimit s.std ≤ s.pos.counter ∧
      s.pos.counter ≤ counterLimit s.std := by decide
/-- A state at rest after a motion in a direction, its overshoot still to pass. -/
def restAfter (m : MState) (forward : Bool) (counter : Int) : State := (deckIn m).onPos fun p =>
  { p with coast := some forward, counter := counter }
theorem test_meets_CounterFollows_overshoot : ∀ m ∈ [MState.shifting, .halt, .still, .recPause],
    ∀ x ∈ [(true, (899999 : Int)), (true, 899998), (false, -899999), (false, 14400)], let s := restAfter m x.1 x.2
    s.hears ∧ s.pos.motion = none ∧ s.pos.coast = some x.1 ∧ s.mech.state = m ∧ - counterLimit s.std ≤ s.pos.counter ∧
    s.pos.counter ≤ counterLimit s.std := by decide
theorem test_meets_CounterFollows_not : (deckIn .still).hears ∧ (deckIn .still).pos.motion = none ∧ (deckIn .still).pos.coast = none ∧
    (motionAt .record true 0).hears ∧ (motionAt .record true 0).mech.state = .record ∧
    (motionAt .play true 0).pos.motion = some { forward := true, start := 0 } := by decide
/-- Section 4.5's example: after a STOP in FWIND at 14,448 the counter goes on up in SHIFTING, after one in REVIEW at 14,400 on down. -/
theorem test_overshoot_is_counted : ∀ x ∈ [(MState.fwind, true, (14448 : Int), (14449 : Int)), (.review, false, 14400, 14399)],
    let t := after (.stop false) (motionAt x.1 x.2.1 x.2.2.1)
    t.mech.state = .shifting ∧ t.pos.counter = x.2.2.1 ∧
    (after (.controlPulseReplayed 550 0 40000000 128) t).pos.counter = x.2.2.2 := by decide

/-- A wind with a memory-stop target at 100. -/
def windTo (forward : Bool) (counter : Int) : State := (motionAt (if forward then .fwind else .rwind) forward counter).onPos fun p =>
  { p with target := some 100 }
/-- The same with the change of source after 0.6 s without a pulse made. -/
def blankWind (forward : Bool) : State := (windTo forward 99).onPos fun p => { p with source := .none, gap := none, approx := true }

theorem test_meets_Winds : ∀ x ∈ [(true, (99 : Int)), (true, 98), (false, 101), (false, 102)], let s := windTo x.1 x.2
    s.hears ∧ s.pos.motion = some { forward := x.1, start := 0 } ∧ s.mech.state = (if x.1 then .fwind else .rwind) ∧
    s.pos.target = some 100 ∧ s.mech.junction = none ∧ s.mark.search = none ∧ s.sched.holder = none ∧ s.takes ∧
    (blankWind x.1).hears ∧ (blankWind x.1).pos.source = .none ∧ (blankWind x.1).sched.holder = none ∧
    s.servo.pendingSpeed = none ∧ s.mark.writer = .idle ∧ s.mark.reader.phase ≠ .inRun ∧ - counterLimit s.std < s.pos.counter ∧
    s.pos.counter < counterLimit s.std ∧ s.mech.inFlight = none ∧ s.mech.owner.isTimer = false := by decide

/-- A play motion counting by a source with an accumulator, the capstan drawing the tape; speed S under A adds 25 a pulse. -/
def countingBy (m : MState) (src : CounterSource) (acc : Int) : State := ((motionAt m (decide (m ≠ .review)) 0).onPos fun p =>
  { p with source := src, acc := acc }).onServo fun v => { v with capstan := { v.capstan with
    state := .locked, target := some { speed := .s, fast := decide (m ≠ .play), reverse := decide (m = .review) } } }

theorem test_meets_CapstanCounts : ∀ m ∈ [MState.play, .cue, .review], ∀ x ∈ [(CounterSource.none, (0 : Int)), (.control, 0),
      (.capstan, 454), (.capstan, 455), (.capstan, -454), (.capstan, -455)],
    let s := countingBy m x.1 x.2
    s.hears ∧ s.mech.state = m ∧ s.mech.junction = none ∧ s.pos.motion = some { forward := decide (m ≠ .review), start := 0 } ∧
    s.mark.search = none ∧ s.sched.holder = none ∧ s.servo.capstan.target.isSome = true ∧ s.pos.source = x.1 ∧ s.pos.acc = x.2 ∧
    (s.std.frames : Int) * (s.servo.playSpeed.factor : Int) = 25 ∧ - counterLimit s.std ≤ s.pos.counter ∧
    s.pos.counter ≤ counterLimit s.std := by decide
theorem test_meets_CapstanCounts_gap : ∀ m ∈ [MState.record, .fwind, .rwind, .play, .review],
    let s := later (cyclesOf 600) ((motionAt m (decide (m ≠ .rwind)) 899999).onPos fun p => { p with gapSum := 7200 })
    s.hears ∧ s.mech.junction = none ∧ s.pos.motion.isSome = true ∧ s.pos.gap = some 0 ∧ s.pos.source = .control ∧
    600 * 32768 ≤ (s.now - 0) * 1000 ∧ (s.now - 1) * 1000 < 600 * 32768 ∧ s.mark.search = none ∧ s.sched.holder = none ∧
    - counterLimit s.std ≤ s.pos.counter ∧ s.pos.counter ≤ counterLimit s.std := by decide
/-- R54, R55: two frames' worth of units counted at the change of source, the rest kept. -/
theorem test_gap_counts_its_frames : let t := after .posGapTimeout (later (cyclesOf 600) ((motionAt .play true 0).onPos fun p =>
    { p with gapSum := 960, acc := 479 }))
    t.pos.counter = 2 ∧ t.pos.acc = 479 ∧ t.pos.source = .capstan := by decide

/-- HALT at counter 500 with a target and marks, one of which ZERO moves out of range. -/
def zeroing : State := (spanned (deckIn .halt)).onPos fun p => { p with counter := -899900, target := some 700, approx := true }

theorem test_meets_Zero : zeroing.takes ∧ zeroing.mech.state ≠ .empty ∧ zeroing.mark.search = none ∧ zeroing.sched.holder = none := by
  decide
theorem test_zero_moves_the_list : (after .zero zeroing).pos.target = some 899999 ∧ (after .zero zeroing).pos.counter = 0 ∧
    (after .zero zeroing).mark.list.map (fun e => e.pos) = [899900] := by decide
theorem test_meets_MemoryRequests : (deckIn .halt).takes ∧ (deckIn .halt).mech.state ≠ .empty ∧ (deckIn .empty).takes ∧
    (deckIn .empty).mech.state = .empty := by decide

/-- FWIND of a C120, its window begun at 0, both reels past it, the supply reel's next pulse the eighth. -/
def windReels : State := (motionAt .fwind true 0).onPos fun p =>
  { p with cls := some .c120, window := 0, supply := { past := true, recent := [1750, 1750, 1750, 1750], count := 7 },
           takeUp := { past := true, recent := [1198, 1198, 1197, 1197], count := 4 } }

/-- A wind of a C60 that comes to its end, the reel paid out at so many ticks and the other at so many a quarter. -/
def nearEnd (m : MState) (paid taken : Nat) : State := later (cyclesOf 1000) ((motionAt m (decide (m = .fwind)) 0).onPos fun p =>
  let a : ReelRecord := { past := true, recent := List.replicate 4 paid, count := 7 }
  let b : ReelRecord := { past := true, recent := List.replicate 4 taken, count := 7 }
  { p with cls := some .c60, window := 0, supply := if m = .fwind then a else b, takeUp := if m = .fwind then b else a })
theorem test_meets_ReelPulses : (deckIn .still).hears ∧ (deckIn .still).pos.motion = none ∧
    (∀ s ∈ [later (cyclesOf 1000 - 1) (motionAt .fwind true 0), later (cyclesOf 1000) windReels, nearEnd .fwind 16 37,
        nearEnd .rwind 16 37],
      s.hears ∧ s.pos.motion.isSome = true ∧ s.sched.holder = none ∧ s.roomFor 1) ∧
    (later (cyclesOf 1000 - 1) (motionAt .fwind true 0)).pos.supply.past = false ∧
    (∀ s ∈ [later (cyclesOf 1000) windReels, nearEnd .fwind 16 37, nearEnd .rwind 16 37],
      s.pos.supply.past = true ∧ (s.pos.supply.count + 1) % 4 = 0 ∧ s.pos.cls.isSome = true ∧ s.pos.supply.period.isSome = true ∧
      s.pos.takeUp.period.isSome = true) ∧
    (motionAt .fwind true 0).pos.takeUp.period = none := by decide
/-- R69: the worked example's 64 and 148 ticks slow FWIND, and RWIND with the reels exchanged; an interval of 0 counts as 1. -/
theorem test_end_approach : (after (.reelPulse .supply 16) (nearEnd .fwind 16 37)).mech.windSlow = true ∧
    (after (.reelPulse .takeUp 16) (nearEnd .rwind 16 37)).mech.windSlow = true ∧
    (after (.reelPulse .supply 37) (nearEnd .fwind 37 16)).mech.windSlow = false ∧
    (after (.reelPulse .supply 0) (nearEnd .fwind 16 37)).pos.supply.recent = [1, 16, 16, 16] := by decide
/-- PLAY at speed S past the window, the capstan LOCKED, the supply reel's next pulse the eighth; section 3.5's periods. -/
def identifying (candidate : Option CassetteClass) (run : Nat) (cls : Option CassetteClass) : State :=
  later (cyclesOf 1000) ((countingBy .play .control 0).onPos fun p =>
    { p with cls := cls, candidate := candidate, run := run, window := 0,
             supply := { past := true, recent := [1750, 1750, 1750, 1750], count := 7 },
             takeUp := { past := true, recent := [1198, 1198, 1197, 1197], count := 4 } })

theorem test_meets_Identification : ∀ s ∈ [identifying none 0 none, identifying (some .c120) 1 none, identifying (some .c120) 2 none,
      identifying (some .c120) 2 (some .c120), identifying (some .c60) 2 (some .c60)],
    s.hears ∧ s.mech.state = .play ∧ s.pos.motion = some { forward := true, start := 0 } ∧
    1000 * 32768 ≤ (s.now - s.pos.window) * 1000 ∧ s.servo.capstan.state = .locked ∧
    s.pos.supply = { past := true, recent := [1750, 1750, 1750, 1750], count := 7 } ∧ s.pos.takeUp.period = some 4790 ∧
    7000 = clampNat 1 65535 (1750 + 1750 + 1750 + 1750) ∧ s.sched.holder = none ∧ s.roomFor 1 := by decide
/-- R64: Qn of the example fits the C120 alone; take-up intervals of 1 tick fit none. -/
theorem test_meets_Identification_fits :
    (∀ k ∈ [CassetteClass.c30, .c60, .c90, .c120, .c180, .c240], ((qn 7000 4790 1 : Int) - (k.qc : Int)).natAbs * 100 ≤ 6 * k.qc ↔
      k = .c120) ∧
    ∀ k ∈ [CassetteClass.c30, .c60, .c90, .c120, .c180, .c240], ¬ ((qn 65535 65535 1 : Int) - (k.qc : Int)).natAbs * 100 ≤ 6 * k.qc := by
  decide
theorem test_meets_ReelNotices : let s := later 327680 (motionAt .fwind true 0)
    s.hears ∧ s.pos.motion = some { forward := true, start := 0 } ∧ s.pos.counterSent < (s.now - 0) / 32768 ∧
    s.pos.remainingSent < (s.now - 0) / 32768 / 10 ∧ s.link.settings.counterNotices = false ∧
    s.link.settings.remainingNotices = false ∧ ¬ (later 327679 s).pos.remainingSent < ((later 327679 s).now - 0) / 32768 / 10 := by
  decide
/-- Section 3.5, the first worked example, as the part computes it at a pulse: F16 47,164. -/
theorem test_reel_example : let t := after (.reelPulse .supply 1750) (later (cyclesOf 1000) windReels)
    t.pos.f16 = 47164 ∧ t.pos.estState = .live ∧ t.pos.counter = 0 := by decide
theorem test_meets_Remaining : (1 ≤ 1 ∧ 1 ≤ 65535) ∧ (1 ≤ 65535 ∧ 65535 ≤ 65535) := by decide

/-! ## Statements of the marks and searches -/

theorem test_meets_MarksReadBack : MarkType.index ≠ .unreadable ∧ 0 < 4096 ∧ 4095 < 4096 := by decide
/-- R74 read forward at the greatest value. -/
theorem test_mark_reads_back : examineRun true (((List.range 48).zip (markPulses .protectEnd 4095)).map fun x =>
    (100 + (x.1 : Int), x.2)).reverse = [{ pos := 100, type := .protectEnd, value := some 4095 }] := by decide
theorem test_meets_MarkListKeeps : let l : List MarkEntry := (List.range 32).map fun (i : Nat) =>
      { pos := 48 * (i : Int), type := .index, value := some i, written := false }
    l.length ≤ 32 ∧ l.Pairwise (fun a b => a.pos + 48 ≤ b.pos) := by decide

/-- The 48 pulses of a mark at p..p+47, in tape order. -/
def runOf (t : MarkType) (v : Nat) (p : Int) : List (Int × Duty) :=
  (List.range 48).zip (markPulses t v) |>.map fun x => (p + (x.1 : Int), x.2)
/-- A motion whose reader holds a run with a bound before it, given in tape order. -/
def readingAt (m : MState) (forward : Bool) (counter : Int) (run : List (Int × Duty)) (approx : Bool) : State :=
  ((motionAt m forward counter).onPos fun p => { p with approx := approx }).onMark fun k =>
    { k with reader := { k.reader with phase := .inRun, sound := true, pulses := if forward then run.reverse else run } }
/-- The list holds three INDEX marks of value 7, two of them equally far from 155. -/
def listed7 (s : State) : State := s.onMark fun k =>
  { k with list := [110, 200, 300].map fun p => { pos := p, type := .index, value := some 7, written := true } }

theorem test_meets_MarksRead : ∀ x ∈ [(MState.play, true, (202 : Int)), (.cue, true, 202), (.review, false, 155)],
    ∀ approx ∈ [true, false], let s := listed7 (readingAt x.1 x.2.1 x.2.2 (runOf .index 7 155) approx)
    s.hears ∧ s.pos.motion = some { forward := x.2.1, start := 0 } ∧ s.mech.state = x.1 ∧ s.mech.junction = none ∧
    s.mark.search = none ∧ s.sched.holder = none ∧ s.mark.writer = .idle ∧ s.servo.pendingSpeed = none ∧
    s.servo.pendingPlay = none ∧ - counterLimit s.std < s.pos.counter ∧ s.pos.counter < counterLimit s.std ∧
    s.mark.reader.phase = .inRun ∧ s.mark.reader.sound = true ∧ s.pos.approx = approx ∧ s.roomFor 1 ∧
    s.mark.list.Pairwise (fun a b => a.pos < b.pos) ∧ (∀ f ∈ s.mark.list, f.type = .index ∧ f.value = some 7) ∧
    ((110 : Int) - 155).natAbs = ((200 : Int) - 155).natAbs := by decide
/-- R74: duties 419 and 671 are coded, 420 and 670 PLAIN; runs of 7, 8, 47 pulses with a bound before them. -/
theorem test_meets_MarksRead_runs : dutyClass 419 = .short ∧ dutyClass 420 = .plain ∧ dutyClass 670 = .plain ∧
    dutyClass 671 = .long ∧ (∀ n ∈ [7, 8, 47], let r := (runOf .index 7 155).take n
      (readingAt .cue true 202 r true).mark.reader.pulses.length = n) ∧
    (motionAt .play true 0).mark.reader.phase ≠ .inRun := by decide
/-- R77: of two entries equally far from the position read the lower one corrects the counter. -/
theorem test_mark_corrects : let s := listed7 (readingAt .review false 155 (runOf .index 7 155) true)
    let t := after (.controlPulseReplayed 550 0 40000000 30) s
    t.pos.counter = 154 - 45 ∧ t.pos.approx = false ∧ t.mark.list.length = 3 := by decide
theorem test_meets_MarkList : (spanned (deckIn .play)).takes ∧ (spanned (deckIn .play)).mark.list.length ≤ 2 := by decide

/-- PLAY with pulses heard and a writer. -/
def writerIn (w : Writer) (heard : Bool) : State := (motionAt .play true 50).onMark fun m =>
  { m with writer := w, reader := { m.reader with heard := heard, gap := some 0, phase := .bounded } }

theorem test_meets_MarkRequests : (deckIn .empty).takes ∧ (timed (deckIn .play)).takes ∧
    (timed (deckIn .play)).mech.owner.isTimer = true ∧ (deckIn .halt).takes ∧ (deckIn .record).takes ∧
    (deckIn .record).mark.writer = .idle ∧ ((deckIn .record).onMark fun m => { m with writer := .erasing 3 none }).takes ∧
    (∀ s ∈ [writerIn (.erasing 3 none) true, writerIn .idle false, writerIn .idle true], s.takes ∧ s.mech.state = .play ∧
      s.mech.owner.isTimer = false) ∧ (4095 ≤ 4095 ∧ ¬ 4096 ≤ 4095) := by decide

/-- PLAY or RECORD at counter 50 with a writer at work, a PLAIN pulse behind it. -/
def writingIn (m : MState) (w : Writer) : State := (motionAt m true 50).onMark fun k =>
  { k with writer := w, guardDone := true, reader := { k.reader with phase := .bounded, lastPlain := true } }

theorem test_meets_MarkWrite_pulses : ∀ x ∈ [(MState.play, Writer.writing .index 7 .panel 0 none false),
      (.play, .writing .index 7 .panel 47 (some 4) false), (.record, .writing .index 7 .panel 0 none true),
      (.record, .writing .index 7 .panel 47 (some 4) true), (.play, .erasing 0 none), (.play, .erasing 1 (some 4)),
      (.play, .erasing 47 (some 4))], let s := writingIn x.1 x.2
    s.hears ∧ s.mech.state = x.1 ∧ s.mark.writer = x.2 ∧ s.mech.junction = none ∧ s.mark.search = none ∧
    s.sched.holder = none ∧ s.mech.inFlight = none ∧ s.pos.motion = some { forward := true, start := 0 } ∧
    s.servo.pendingSpeed = none ∧ s.servo.pendingPlay = none ∧ - counterLimit s.std < s.pos.counter ∧
    s.pos.counter < counterLimit s.std ∧ s.roomFor 1 ∧ s.mech.owner = .panel ∧ s.servo.reference = .internal ∧
    s.mark.guardDone = true ∧ s.mark.reader.phase ≠ .inRun ∧ s.mark.reader.lastPlain = true ∧
    (markPulses .index 7)[0]? = some .short ∧ (markPulses .index 7)[47]?.isSome = true := by decide
theorem test_meets_MarkGap : let s := later (cyclesOf 600) (writerIn (.writing .index 7 .panel 0 none false) true)
    s.hears ∧ s.mech.state = .play ∧ s.mech.junction = none ∧ s.mark.writer = .writing .index 7 .panel 0 none false ∧
    s.mark.reader.phase ≠ .inRun ∧ s.mark.reader.gap = some 0 ∧ 600 * 32768 ≤ (s.now - 0) * 1000 ∧
    (s.now - 1) * 1000 < 600 * 32768 ∧ s.roomFor 1 := by decide

/-- RECORD at a counter, the span from 100 to 247 known, the amplifier on. -/
def recordingAt (counter : Int) : State := ((motionAt .record true counter).onMark fun m =>
  { m with list := [{ pos := 100, type := .protectBegin, value := some 0, written := false },
                    { pos := 200, type := .protectEnd, value := some 0, written := false }] }).onMech fun m => { m with recAmp := true }

theorem test_meets_Recording : ∀ c ∈ [(74 : Int), 75, 99, 246, 247], let s := recordingAt c
    s.hears ∧ s.mech.state = .record ∧ s.servo.reference = .internal ∧ s.servo.pendingSpeed = none ∧ s.mech.junction = none ∧
    s.pos.motion = some { forward := true, start := 0 } ∧ s.mech.owner = .panel ∧ s.mech.inFlight = none ∧ s.mark.search = none ∧
    s.mark.writer = .idle ∧ s.sched.holder = none ∧ s.pos.target = none ∧ s.mark.guardDone = false ∧ s.roomFor 1 ∧
    s.pos.counter < counterLimit s.std ∧ - counterLimit s.std ≤ s.pos.counter := by decide
theorem test_record_guard : (after (.internalFrameEdge 30) (recordingAt 74)).mech.state = .record ∧
    (after (.internalFrameEdge 30) (recordingAt 75)).mech.state = .shifting ∧
    (after (.internalFrameEdge 30) (recordingAt 75)).mech.recAmp = false := by decide

/-- HALT with a free recorder. -/
def haltFree : State := (deckIn .halt).onMech fun m => { m with owner := .none }

/-- A search record in a state and a kind, its timer from 0. -/
def searching (m : MState) (k : SearchKind) (st : SearchState) : State := (deckIn m).onMark fun x =>
  { x with search := some { kind := k, state := st, n := 0, count := 3, start := 0, target := none, playAfter := false,
                            lastPulse := 400, timer := some 0, tag := 9, waiting := none } }

theorem test_meets_Searches : (deckIn .empty).takes ∧ (deckIn .empty).mech.state = .empty ∧ (timed (deckIn .play)).takes ∧
    (timed (deckIn .play)).mech.state ≠ .empty ∧ (searching .cue .blank .winding).takes ∧
    (searching .cue .blank .winding).mark.search.isSome = true ∧ haltFree.takes ∧ haltFree.deckFree ∧ haltFree.noOccurrence ∧
    haltFree.mech.state = .halt ∧ haltFree.mech.owner = .none ∧ haltFree.pins.leaderEnd = false ∧
    haltFree.pins.leaderStart = false ∧ haltFree.pos.counter = 0 := by decide
theorem test_meets_SearchTimers :
    (let s := later (cyclesOf 2000) (searching .cue .blank .winding)
     s.hears ∧ s.mech.state = .cue ∧ s.mech.owner = .panel ∧ s.mech.recoveryPending = false ∧ s.mech.standbyStop = false ∧
     s.mech.inFlight = none ∧ 2000 * 32768 ≤ (s.now - 0) * 1000 ∧ (s.now - 1) * 1000 < 2000 * 32768) ∧
    (let s := later (cyclesOf 8000) (searching .play .scan .scanPlay)
     s.hears ∧ s.mech.state = .play ∧ s.mech.owner = .panel ∧ s.mech.recoveryPending = false ∧ s.mech.standbyStop = false ∧
     s.mech.inFlight = none ∧ s.pins.leaderEnd = false ∧ 8000 * 32768 ≤ (s.now - 0) * 1000 ∧
     (s.now - 1) * 1000 < 8000 * 32768) ∧ (deckIn .play).mark.search = none := by decide

/-- A search in a state with its argument, count, start 0 or 305, target and open command. -/
def searchRec (k : SearchKind) (st : SearchState) (n : Int) (count : Nat) (start : Int) (target : Option Int) (play : Bool)
    (w : Option MechCmd) (s : State) : State := s.onMark fun x =>
  { x with search := some { kind := k, state := st, n := n, count := count, start := start, target := target, playAfter := play,
                            lastPulse := 0, timer := none, tag := 9, waiting := w } }

/-- R88: with start 305 and n < 0 a mark at 155 is not counted, with start 306 it is. -/
theorem test_meets_Searches_count : ∀ x ∈ [(true, (202 : Int), SearchKind.index, (2 : Int), 0, (0 : Int)), (true, 202, .index, 2, 1, 0),
      (false, 155, .index, -1, 0, 305), (false, 155, .index, -1, 0, 306), (true, 202, .scan, 0, 4, 0)],
    let s := searchRec x.2.2.1 .winding x.2.2.2.1 x.2.2.2.2.1 x.2.2.2.2.2 none true none
      (readingAt (if x.1 then .fwind else .rwind) x.1 x.2.1 (runOf .index 7 155) false)
    s.hears ∧ s.mark.search.isSome = true ∧ s.pos.motion = some { forward := x.1, start := 0 } ∧
    s.mech.state = (if x.1 then .fwind else .rwind) ∧ s.mech.junction = none ∧ s.mech.inFlight = none ∧ s.mech.slot = none ∧
    s.mech.owner = .panel ∧ s.mech.recoveryPending = false ∧ s.mech.standbyStop = false ∧ s.mark.writer = .idle ∧
    s.sched.holder = none ∧ s.pos.target = none ∧ s.pos.approx = false ∧ s.servo.pendingSpeed = none ∧
    - counterLimit s.std < s.pos.counter ∧ s.pos.counter < counterLimit s.std ∧ s.mark.reader.phase = .inRun ∧
    s.mark.reader.sound = true ∧ ((155 : Int) < 306 - 150 ∧ ¬ (155 : Int) < 305 - 150) := by decide
theorem test_meets_Searches_reach : ∀ x ∈ [(MState.cue, true, (98 : Int), SearchState.moving), (.cue, true, 99, .moving),
      (.review, false, 102, .moving), (.review, false, 101, .moving), (.fwind, true, 99, .winding), (.rwind, false, 101, .winding)],
    let s := searchRec .counter x.2.2.2 0 0 0 (some 100) false none (motionAt x.1 x.2.1 x.2.2.1)
    s.hears ∧ s.mark.search.isSome = true ∧ s.pos.motion = some { forward := x.2.1, start := 0 } ∧ s.mech.state = x.1 ∧
    s.mech.junction = none ∧ s.mech.inFlight = none ∧ s.mech.slot = none ∧ s.mech.owner = .panel ∧
    s.mech.recoveryPending = false ∧ s.mech.standbyStop = false ∧ s.mark.writer = .idle ∧ s.mark.reader.phase ≠ .inRun ∧
    s.sched.holder = none ∧ s.pos.target = none ∧ s.servo.pendingSpeed = none ∧ - counterLimit s.std < s.pos.counter ∧
    s.pos.counter < counterLimit s.std := by decide

/-- A shift with a search command in flight. -/
def searchMove (target : MState) (code : CamCode) (w : MechCmd) : State := (moving .shifting target code w).onMech fun m =>
  { m with inFlight := some { what := w, origin := .search, tag := 9 } }

theorem test_meets_Searches_settle : ∀ x ∈ [(SearchState.stopFirst, (5 : Int), SearchKind.index, MechCmd.stop, MState.halt, (3 : CamCode)),
      (.stopFirst, -5, .index, .stop, .halt, 3), (.stopFirst, 0, .counter, .stop, .halt, 3), (.stopLast, 0, .scan, .stop, .halt, 3),
      (.stopLast, 0, .index, .stop, .halt, 3), (.playing, 0, .scan, .play, .play, 4), (.playing, 0, .index, .play, .play, 4)],
    ∀ play ∈ [true, false],
    let s := later (cyclesOf 1500) (searchRec x.2.2.1 x.1 1 254 0 (some x.2.1) play (some x.2.2.2.1)
      (searchMove x.2.2.2.2.1 x.2.2.2.2.2 x.2.2.2.1))
    s.hears ∧ s.noOccurrence ∧ s.mech.state = .shifting ∧ s.mech.target = x.2.2.2.2.1 ∧ s.mech.camTarget = some x.2.2.2.2.2 ∧
    s.mech.inFlight = some { what := x.2.2.2.1, origin := .search, tag := 9 } ∧ s.mech.slot = none ∧ s.mech.owner = .panel ∧
    s.mech.recoveryPending = false ∧ s.mech.standbyStop = false ∧ s.mech.recoveryRun = false ∧ s.pins.leaderEnd = false ∧
    s.pins.leaderStart = false ∧ s.pos.motion = none ∧ s.mark.writer = .idle ∧ s.servo.reference = .internal ∧ s.roomFor 2 ∧
    s.mech.camTimer = some 0 ∧ 1500 * 32768 ≤ (s.now - 0) * 1000 := by decide
theorem test_meets_Searches_end : ∀ x ∈ [(MState.fwind, true), (.cue, true), (.rwind, false), (.review, false)],
    let s := later (12288 * 32 + 1) (searchRec .index .winding 1 0 0 none false none (motionAt x.1 x.2 7))
    s.takes ∧ s.mech.state = x.1 ∧ s.mech.junction = none ∧ s.mech.inFlight = none ∧ s.mech.slot = none ∧
    s.sched.holder = none ∧ s.mark.writer = .idle ∧ s.servo.reference = .internal ∧
    s.link.settings.counterNotices = false ∧ s.roomFor 2 ∧ s.pos.motion.isSome = true ∧ s.mech.stall.pulses < 2 ∧
    12288 * 32 < s.now - s.mech.stall.last ∧ s.mech.standbyStop = false ∧ s.mech.recoveryPending = false := by decide
/-- R76: a mark between two within 48 frames of it removes both; in a full list the lower of two equally far goes. -/
theorem test_mark_list_room : (addMark 0 ⟨100, .index, some 1, false⟩ [⟨60, .index, some 2, false⟩, ⟨140, .index, some 3, false⟩,
      ⟨188, .index, some 4, false⟩]).map MarkEntry.pos = [100, 188] ∧
    let full : List MarkEntry := (List.range 32).map fun (i : Nat) => ⟨48 * (i : Int), .index, some i, false⟩
    (addMark 744 ⟨2000, .index, some 1, false⟩ full).map MarkEntry.pos =
      (((List.range 32).drop 1).map fun (i : Nat) => 48 * (i : Int)) ++ [2000] := by decide
/-- RECORD under the tuner's sync, one or two pulses from the next frame edge. -/
def recordingOn (count : Nat) : State := (recordingAt 74).onServo fun v =>
  { v with reference := .tuner, refCount := count, syncTuner := { present := true, good := 8, bad := 0, timer := some 0 } }
theorem test_meets_Recording_external : ∀ c ∈ [0, 1], ∀ s ∈ [recordingOn c], (s.hears ∧ s.mech.state = .record ∧
    s.servo.reference = .tuner ∧ s.tuner.selected = .tuner ∧ (s.servo.sync .tuner).present = true ∧
    (s.servo.sync .tuner).timer = some 0 ∧ s.servo.refCount = c ∧ s.servo.pendingSpeed = none ∧ s.mech.junction = none ∧
    s.mech.owner = .panel ∧ s.mark.guardDone = false) ∧ s.mark.search = none ∧ s.mark.writer = .idle ∧ s.roomFor 1 := by decide
theorem test_record_external : (after (.vsyncPulse .tuner 20000000 30) (recordingOn 1)).pos.counter = 75 ∧
    (after (.vsyncPulse .tuner 20000000 30) (recordingOn 0)).pos.counter = 74 := by decide


/-! ## Statements of the tuner -/

/-- A used preset of plan T, channel 5, fine −2. -/
def presetT : Preset := { plan := .t, channel := 5, fine := -2, aftOff := false, skip := false, name := [0x41], box := none,
                          networkCode := none }
/-- Presets 3 and 7 are used. -/
def tuned : State := up.onTuner fun t => { t with presets := (t.presets.set 2 (some presetT)).set 6 (some presetT) }
/-- LOCKED on preset 3. -/
def lockedOn3 : State := tuned.onTuner fun t => { t with state := .locked, selection := some (.preset 3) }

theorem test_meets_Tune : ∀ s ∈ [tuned, lockedOn3], s.takes ∧ s.mech.owner.isTimer = false ∧ s.mech.owner ≠ .panel ∧
    s.tuner.bus = [] ∧ s.tuner.tune = none ∧ s.tuner.scan = none ∧ s.ldd.state = .none ∧ s.preset 7 = some presetT ∧
    presetT.box = none := by decide
theorem test_meets_Tune_steps : lockedOn3.tuner.selection ≠ some (.preset 7) ∧
    ((List.range 80).map fun j => (3 + j) % 80 + 1).find? lockedOn3.steppable = some 7 ∧
    ((List.range 80).map fun j => 80 - j).find? tuned.steppable = some 7 ∧ tuned.tuner.selection = none ∧
    channelSteps presetT.plan presetT.channel + 622 = 3426 := by decide
theorem test_tune_channel : (after (.tuneChannel 0 15) tuned).tuner.divider = some 8162 ∧
    (after .tuneUp lockedOn3).tuner.divider = some 3424 ∧ (after .tuneDown tuned).tuner.selection = some (.preset 7) := by decide
theorem test_meets_TuneRefused : (timed up).takes ∧ (timed up).mech.owner.isTimer = true ∧ (deckIn .record).takes ∧
    (deckIn .record).mech.owner = .panel ∧ up.takes ∧ up.mech.owner = .none ∧ up.preset 80 = none ∧ tuned.preset 7 ≠ none ∧
    (∀ k < 81, up.steppable k = false) ∧
    ∀ st ∈ [TunerState.off, .fault, .init, .scanning, .tuning], (up.onTuner fun t =>
      { t with state := st, presets := List.replicate 80 (some presetT) }).takes := by decide

/-- A tune in flight on a channel, a READ on the bus, the timers from 0. -/
def reading (st : TunerState) (fails unsettled : Nat) : State := up.onTuner fun t =>
  { t with state := st, selection := some (.channel .t 5), bus := [.readStatus true], settle := some 0, watch := some 0,
           target := some { nominal := 3426, fine := 0, aftOff := false, learn := none }, divider := some 3426,
           band := some .mid, tune := some { timer := false, box := .none }, failures := fails, unsettled := unsettled, aft := 30 }

theorem test_meets_TunerReads : (∀ ms ∈ [40, 1000], let s := later (cyclesOf ms) (reading .tuning 0 0)
    s.hears ∧ s.tuner.target = some { nominal := 3426, fine := 0, aftOff := false, learn := none } ∧ s.ldd.candidate = none ∧
    s.tuner.settle = some 0 ∧ s.tuner.watch = some 0 ∧ ms * 32768 ≤ (s.now - 0) * 1000 ∧ (s.now - 1) * 1000 < ms * 32768) ∧
    (∀ s ∈ [reading .tuning 0 1, reading .aft 0 2], s.tuner.bus = [.readStatus true] ∧ s.tuner.next = .none ∧
      s.tuner.tune = some { timer := false, box := .none } ∧ s.roomFor 1 ∧ s.tuner.aft < 31 ∧ s.tuner.steps < 64) ∧
    (∀ n ∈ [0, 1], let s := (reading .tuning n 0).onTuner fun t => { t with tune := none }
      s.tuner.bus = [.readStatus true] ∧ s.tuner.state = .tuning ∧ s.tuner.next = .none ∧ s.tuner.tune = none ∧
      s.tuner.scan = none ∧ s.roomFor 1 ∧ s.tuner.failures = n) := by decide

/-- A watch or tune READ on the bus with no tune in flight, the target's fine value −2. -/
def watching (st : TunerState) (aft : Int) (unsettled : Nat) (g : TuneTarget) : State := (reading st 0 unsettled).onTuner fun t =>
  { t with aft := aft, tune := none, target := some g,
           presets := (t.presets.set 2 (some presetT)).set 6 (some { presetT with aftOff := true }) }

theorem test_meets_TunerWatch : (∀ x ∈ [(TunerState.locked, (30 : Int), 1), (.locked, 31, 2), (.locked, -32, 0), (.noSignal, 30, 0),
      (.noSignal, 31, 0), (.noSignal, -31, 0), (.tuning, 5, 0)], ∀ learn ∈ [none, some 3, some 7], ∀ off ∈ [true, false],
    let s := watching x.1 x.2.1 x.2.2 { nominal := 3426, fine := -2, aftOff := off, learn := learn }
    s.hears ∧ s.tuner.target = some { nominal := 3426, fine := -2, aftOff := off, learn := learn } ∧
    s.tuner.bus = [.readStatus true] ∧ s.tuner.next = .none ∧ s.tuner.tune = none ∧ s.tuner.scan = none ∧ s.tuner.state = x.1 ∧
    s.tuner.aft = x.2.1 ∧ s.tuner.unsettled = x.2.2 ∧ s.preset 3 = some presetT ∧ (s.preset 7).isSome = true) := by decide
/-- R95: a READ of register 3 leaves the line to the module from the turnaround bit on. -/
theorem test_transaction_bits : (Transaction.readStatus true).bits.drop 2 =
    [.driven false, .driven true, .driven true] ++ List.replicate 17 .released ∧
    (Transaction.writeDivider 1394).bits.length = 22 := by decide

/-- INIT with its wait from 0. -/
def initing (bus : List Transaction) : State := up.onTuner fun t => { t with state := .init, initTimer := some 0, bus := bus }

theorem test_meets_TunerInit : let s := later (cyclesOf 50) (initing [])
    s.hears ∧ s.tuner.initTimer = some 0 ∧ s.tuner.state = .init ∧ 50 * 32768 ≤ (s.now - 0) * 1000 ∧
    (s.now - 1) * 1000 < 50 * 32768 ∧ (initing [.readStatus true]).tuner.next = .none ∧
    (initing [.readStatus true]).tuner.selection = none := by decide
theorem test_meets_SourcePreset : (timed up).takes ∧ up.takes ∧ up.mech.owner.isTimer = false ∧ up.ldd.state = .none ∧
    up.mech.state ≠ .record ∧ up.mech.state ≠ .recPause ∧ up.servo.reference = .internal ∧ up.presetInUse 80 = false ∧
    presetRecordT.used = true ∧ presetRecordT.sourceBox = false ∧ presetRecordT.codePresent = false ∧
    presetRecordT.nameLength ≤ 5 ∧ (presetRecordT.plan, Plan.t) ∈ [(0, Plan.t), (1, .c), (2, .direct)] := by decide
theorem test_preset_write : (after (.presetWrite 80 presetRecordT) up).preset 80 =
    some { plan := .t, channel := 5, fine := 0, aftOff := false, skip := false, name := [0x41, 0x42, 0x43], box := none,
           networkCode := none } := by decide

/-- A scan of plan C waiting from 0 with a bus. -/
def scanningAt (stage : ScanStage) (bus : List Transaction) : State := up.onTuner fun t =>
  { t with state := .scanning, bus := bus,
           scan := some { plan := .c, next := 4, stored := 1, saved := none, last := some 3, stage := stage, timer := some 0 } }

theorem test_meets_Scan : up.takes ∧ up.mech.owner = .none ∧ up.tuner.state = .noSignal ∧ up.tuner.bus = [] ∧
    up.tuner.tune = none ∧ none ∈ up.tuner.presets ∧
    (let s := later (cyclesOf 60) (scanningAt .waiting [])
     s.hears ∧ 60 * 32768 ≤ (s.now - 0) * 1000 ∧ (s.now - 1) * 1000 < 60 * 32768) ∧
    (scanningAt .running []).takes ∧ (scanningAt .running []).tuner.state = .scanning ∧ (scanningAt .running []).tuner.bus = [] ∧
    (scanningAt .running []).roomFor 1 := by decide

/-- A scan's READ on the bus: the channel under examination, the stage, the saved selection and the presets. -/
def scanRead (plan : Plan) (next : Nat) (stage : ScanStage) (saved : Option Selection) (presets : List (Option Preset)) : State :=
  tuned.onTuner fun t => { t with
    state := .scanning, bus := [.readStatus true], unsettled := 2, presets := presets,
    target := some { nominal := nominalDivider plan next, fine := 0, aftOff := false, learn := none },
    scan := some { plan := plan, next := next, stored := 1, saved := saved, last := some 3, stage := stage, timer := none } }

theorem test_meets_Scan_read : ∀ x ∈ [(Plan.t, 2, ScanStage.running, (none : Option Selection)), (.t, 12, .running, none),
      (.t, 21, .confirming, none), (.t, 69, .confirming, some (.preset 3)), (.t, 5, .confirming, some (.channel .t 5)),
      (.c, 1, .confirming, some (.direct 900)), (.c, 125, .running, none)],
    let s := scanRead x.1 x.2.1 x.2.2.1 x.2.2.2 tuned.tuner.presets
    s.hears ∧ s.tuner.state = .scanning ∧ s.tuner.bus = [.readStatus true] ∧ s.tuner.next = .none ∧ s.tuner.tune = none ∧
    s.tuner.boxSend = false ∧ s.ldd.state = .none ∧ s.tuner.scan.isSome = true ∧ s.roomFor 2 ∧
    (x.1 = .t ∧ (2 ≤ x.2.1 ∧ x.2.1 ≤ 12 ∨ 21 ≤ x.2.1 ∧ x.2.1 ≤ 69) ∨ x.1 = .c ∧ 1 ≤ x.2.1 ∧ x.2.1 ≤ 125) ∧
    (x.2.2.2.map fun sel => (targetOf s sel).isSome) ≠ some false ∧ some presetT ∈ s.tuner.presets ∧ presetT.channel = 5 ∧
    presetT.plan = .t ∧ s.tuner.presets[0]? = some none ∧ s.tuner.presets[1]? = some none := by decide
theorem test_meets_Scan_range : ∀ x ∈ [((31 : Int), 0), (30, 64), (-32, 0), (-31, 64)],
    let s := (scanRead .t 12 .running none tuned.tuner.presets).onTuner fun t => { t with aft := x.1, steps := x.2 }
    s.hears ∧ s.tuner.state = .scanning ∧ s.tuner.bus = [.readStatus true] ∧ s.tuner.next = .none ∧ s.tuner.tune = none ∧
    s.tuner.boxSend = false ∧ s.ldd.state = .none ∧ s.roomFor 2 ∧ s.tuner.aft = x.1 ∧ s.tuner.steps = x.2 := by decide
/-- R102, R112: a locked read of a scan returns the unsettled count to 0, an unlocked one makes it 3 and restores. -/
theorem test_scan_unsettled : ∀ w ∈ [(true, 0), (false, 3)],
    (after (.tunerTransactionEnd (some { lock := w.1, window := .inside, level := 12 }))
      (scanRead .t 12 .running none tuned.tuner.presets)).tuner.unsettled = w.2 := by decide
theorem test_meets_Scan_full : let l := (List.replicate 80 (some presetT)).set 79 none
    l[79]? = some none ∧ (∀ j, j < 79 → l[j]? ≠ some none) ∧ ∀ j, 79 < j → l[j]? ≠ some none := by
  refine ⟨by decide, by decide, fun j h => ?_⟩
  rw [List.getElem?_eq_none (by simp; omega)]; simp
/-- Preset 7 a BOX preset of a channel, the box feed preset named, the box's profile loaded or not with frames queued. -/
def boxPreset (c : Nat) (feed : Option Nat) (p : Option BoxProfile) (k : Nat) : State := ((tuned.onTuner fun t =>
  { t with presets := t.presets.set 6 (some { presetT with channel := 20, fine := 3, box := some c }) }).onLink fun l =>
    { l with settings := { l.settings with boxFeed := feed } }).onBox fun b =>
    { b with profile := p, queue := List.replicate k { key := 1, code := 0x01FE, origin := .panel }, sending := decide (0 < k) }
theorem test_meets_Tune_box : ∀ feed ∈ [none, some 3, some 7, some 80], ∀ p ∈ [none, some boxExample], ∀ k ∈ [0, 4, 5],
    ∀ s ∈ [boxPreset 47 feed p k], (s.takes ∧ s.mech.owner.isTimer = false ∧ s.mech.owner ≠ .panel ∧ s.tuner.state = .noSignal ∧
    s.tuner.bus = [] ∧ s.tuner.tune = none ∧ s.tuner.scan = none ∧ s.ldd.state = .none) ∧ (s.preset 7).isSome = true ∧
    s.roomFor 1 ∧ s.pwr.power ≠ .standby ∧ s.box.profile = p ∧ s.box.queue.length = k := by decide
/-- R106, R181: the feed preset's fine value or the BOX preset's own, and the three answers. -/
theorem test_tune_box : (after (.tunePreset 7) (boxPreset 47 (some 3) none 0)).tuner.aft = -2 ∧
    (after (.tunePreset 7) (boxPreset 47 (some 80) none 0)).tuner.aft = 3 ∧
    (after (.tunePreset 7) (boxPreset 47 none none 0)).tuner.tune = some { timer := false, box := .noProfile } ∧
    (after (.tunePreset 7) (boxPreset 47 none (some boxExample) 5)).tuner.tune = some { timer := false, box := .refused } ∧
    (after (.tunePreset 7) (boxPreset 47 none (some boxExample) 4)).box.queue.map IrFrame.key = [1, 1, 1, 1, 0, 4, 7, 10] := by
  decide
/-- R108, R182: a host tune of a BOX preset stored in INIT hands BOX its sequence at its tune start, but none under owner TIMER. -/
theorem test_tune_box_timer : ∀ x ∈ [(Owner.none, [0, 4, 7, 10]), (.timer 3, [])],
    ((after (.tunerTransactionEnd (some { lock := true, window := .inside, level := 12 }))
      (((boxPreset 47 none (some boxExample) 0).onTuner fun t =>
        { t with state := .init, bus := [.readStatus true], selection := some (.preset 7), boxSend := true }).onMech fun m =>
          { m with owner := x.1 })).box.queue.map IrFrame.key) = x.2 := by decide
/-- R181: the TUNE_END that closes the tune carries BOX's answer. -/
theorem test_tune_end_box : ((after (.tunerTransactionEnd (some { lock := true, window := .inside, level := 12 }))
    ((reading .tuning 0 0).onTuner fun t => { t with tune := some { timer := false, box := .queued } })).link.notices) =
    [.tuneEnd .locked (some (.channel .t 5)) (some 3426) (some .mid) 30 (some 12) .queued] := by decide


/-! ## Statements of the line data and the clock -/

/-- LDD decoding with the label as its candidate. -/
def decoding (c : Option Label) : State := up.onLdd fun d => { d with active := true, candidate := c }
/-- VALID with the label timer from 0. -/
def labelled : State := (decoding none).onLdd fun d => { d with state := .valid, timer := some 0 }

theorem test_meets_Labels : up.hears ∧ up.ldd.active = false ∧ (∃ l, judgeLabel labelFields = some l ∧
      (decoding (some l)).hears ∧ (decoding (some l)).ldd.active = true ∧ (decoding (some l)).ldd.candidate = some l ∧
      (decoding (some l)).ldd.last = none ∧ (decoding (some l)).ldd.tuned = none ∧ (decoding (some l)).noOccurrence ∧
      (decoding (some l)).sched.due = none ∧ (decoding (some l)).roomFor 1 ∧ (decoding none).ldd.candidate ≠ some l) ∧
    judgeLabel { labelFields with minute := 60 } = none ∧ timeGood { timeFields with second := 60 } = false ∧
    (∀ kind ∈ [(1 : Byte), 2, 3], let p := packetOf kind labelFields timeFields
      p.payload.foldl (· ^^^ ·) p.kind = p.check ∧ p.payload.foldl (· ^^^ ·) p.kind ≠ { p with check := p.check + 1 }.check) ∧
    (let s := later (cyclesOf 10000) labelled
     s.hears ∧ s.ldd.state = .valid ∧ s.ldd.timer = some 0 ∧ 10000 * 32768 ≤ (s.now - 0) * 1000 ∧
     (s.now - 1) * 1000 < 10000 * 32768 ∧ s.noOccurrence ∧ s.sched.due = none) := by
  refine ⟨by decide, by decide, ⟨{ network := 1000, day := 14, month := 6, hour := 20, minute := 15, status := .run, toggle := 0 }, ?_⟩,
    by decide, by decide, by decide, ?_⟩ <;> decide

/-- The clock at a date-time, VALID_MANUAL. -/
def clockAt (t : DateTime) (count : Nat) : State := up.onClock fun c => { c with time := t, state := .manual, trimCount := count, trim := 4 }

theorem test_meets_SecondBoundary : ∀ s ∈ [clockAt lastTime 3, clockAt (june 23 59 59) 15, clockAt (june 0 0 0) 14],
    s.hears ∧ s.noOccurrence ∧ s.sched.due = none ∧ s.roomFor 1 ∧
      ∀ k ∈ s.sched.slots, k.state = .empty ∨ k.state = .disabled := by decide
theorem test_meets_SecondBoundary_calendar : timeLegal (june 23 59 59) = true ∧ june 23 59 59 ≠ lastTime ∧
    timeLegal firstTime = true ∧ firstTime ≠ lastTime := by decide
set_option maxRecDepth 8000 in
/-- R136: the second that begins at trim count 0 is shortened by the trim; R130: the day ends. -/
theorem test_second_boundary : (after .secondBoundary (clockAt (june 23 59 59) 15)).clock.length = 32764 ∧
    (after .secondBoundary (clockAt (june 23 59 59) 15)).clock.time.date = { year := 2031, month := 6, day := 16 } := by decide
theorem test_meets_ClockSet : up.takes ∧ timeLegal (june 20 35 0) = true ∧ timeLegal (june 24 0 0) = false ∧
    (∀ k ∈ up.sched.slots, k.state = .empty ∨ k.state = .disabled) ∧ up.noOccurrence ∧ up.sched.due = none ∧ up.roomFor 1 ∧
    clampInt (-31) 31 31 = 31 ∧ clampInt (-31) 31 32 = 31 ∧ clampInt (-31) 31 (-128) = -31 := by decide

/-- LDD active with a time candidate, the clock at a date-time of the example and so many crystal cycles counted. -/
def timeAt (t : DateTime) (fraction c : Nat) (old : Option TimeCandidate) (st : ClockState) : State :=
  later c ((up.onLdd fun d => { d with active := true, time := old }).onClock fun k =>
    { k with time := t, fraction := fraction, state := st })
/-- A date-time on 2031-06-14 in the hour from 20:00. -/
def evening (m s : Nat) : DateTime := { date := { year := 2031, month := 6, day := 14 }, hour := 20, minute := m, second := s }
/-- Section 6.5's example: the candidate of the packet 50 s before, 179.5 s ahead of the clock. -/
def candidateAt (arrival : Nat) (d : Int) : Option TimeCandidate := some { arrival := arrival, d := d }

theorem test_meets_TimePacket : (let p := packetOf 2 labelFields timeFields
    p.payload.foldl (· ^^^ ·) p.kind = p.check ∧ p.kind = 2 ∧ timeGood p.time = true ∧
    (secondsOf (utcOf p.time) : Int) + p.time.offset * 1800 = secondsOf (evening 30 50)) ∧
    (let t : TimeFields := { timeFields with year := 89, month := 12, day := 31, hour := 23, minute := 59, second := 59, offset := 1 }
     timeGood t = true ∧ (secondsOf lastTime : Int) < secondsOf (utcOf t) + t.offset * 1800) ∧
    (let t : TimeFields := { timeFields with year := 90, month := 1, day := 1, hour := 0, minute := 0, second := 0, offset := -1 }
     timeGood t = true ∧ (secondsOf (utcOf t) : Int) + t.offset * 1800 < 0) ∧
    ∀ s ∈ [timeAt (evening 27 50) 16384 (50 * 32768) (candidateAt 0 183808) .manual,
        timeAt (evening 30 50) 0 (30 * 32768) (candidateAt 0 1024) .invalid,
        timeAt (evening 30 48) 0 (120 * 32768) (candidateAt 0 1024) .broadcast, timeAt (evening 30 48) 32 0 none .broadcast],
      s.hears ∧ s.ldd.active = true ∧ s.link.settings.autoClock = true ∧ s.noOccurrence ∧ s.sched.due = none ∧ s.roomFor 1 ∧
      (∀ k ∈ s.sched.slots, k.state = .empty ∨ k.state = .disabled) := by decide
set_option maxRecDepth 8000 in
/-- Section 6.5's example at 50 s: time is confirmed and the clock steps to 20:30:50. -/
theorem test_broadcast_sets :
    let t := after (.lineDataPacket (packetOf 2 labelFields timeFields))
      (timeAt (evening 27 50) 16384 (50 * 32768) (candidateAt 0 183808) .manual)
    t.clock.time = evening 30 50 ∧ t.clock.fraction = 0 ∧ t.clock.state = .broadcast ∧ t.ldd.time = candidateAt 51200 183808 := by
  decide
/-- Section 6.5's example at 20 s: the packet is ignored. -/
theorem test_broadcast_ignored :
    (after (.lineDataPacket (packetOf 2 labelFields { timeFields with second := 20 }))
      (timeAt (evening 27 20) 16384 (20 * 32768) (candidateAt 0 183808) .manual)).ldd.time = candidateAt 0 183808 := by decide
/-- A label of the minute and toggle, RUN. -/
def labelT (minute toggle : Nat) : Label :=
  { network := 1000, day := 14, month := 6, hour := 20, minute := minute, status := .run, toggle := toggle }
/-- The candidate received once, with the label last accepted and LDD's state; preset 1 tuned. -/
def again (last : Option Label) (st : LabelState) : State := ((decoding (some (labelT 15 0))).onLdd fun d =>
  { d with last := last, state := st, timer := if st = .valid then some 0 else none, tuned := some 1 }).onTuner fun t =>
  { t with presets := some presetT :: t.presets.tail }
theorem test_meets_Labels_again : judgeLabel labelFields = some (labelT 15 0) ∧
    ∀ x ∈ [(none, LabelState.none), (some (labelT 15 1), .valid), (some (labelT 15 0), .valid), (some (labelT 15 0), .lost),
      (some (labelT 20 0), .valid)], ∀ s ∈ [again x.1 x.2], s.hears ∧ s.ldd.active = true ∧
    s.ldd.candidate = some (labelT 15 0) ∧ s.ldd.last = x.1 ∧ s.ldd.state = x.2 ∧ s.noOccurrence ∧ s.sched.due = none ∧
    s.roomFor 1 ∧ s.ldd.tuned = some 1 := by decide
/-- R120, R124, R125: a new label teaches its code; a repeat restarts the timer alone; a changed label of the same toggle counts. -/
theorem test_labels_again : let a (last : Option Label) (st : LabelState) := after (.lineDataPacket (packetOf 1 labelFields timeFields)) (again last st)
    ((a none .none).preset 1).map Preset.networkCode = some (some 1000) ∧ (a none .none).link.notices.length = 1 ∧
    (a (some (labelT 15 0)) .valid).link.notices = [] ∧ (a (some (labelT 15 0)) .lost).link.notices.length = 1 ∧
    (a (some (labelT 20 0)) .valid).ldd.toggles = 1 := by decide


/-! ## Statements of the timed recordings -/

/-- The entry of section 10.4's example: ONCE on 2031-06-15, 02:00 to 03:00, preset 1, speed S, power-off-after. -/
def entryOnce : Entry :=
  { enabled := true, repeats := .once, date := some { year := 2031, month := 6, day := 15 }, weekday := none, start := 120,
    stop := 180, preset := 1, speed := .fixed .s, allowSlower := false, labelFollow := false, policy := .stop,
    markFlag := true, powerOff := true }
/-- Its occurrence. -/
def occOnce : Occurrence := makeOcc entryOnce 15140
/-- A slot that holds the entry and the occurrence in a state. -/
def slotIn (x : EntryState) : Slot :=
  { entry := some entryOnce, state := x, lastDate := none, outcome := .none, recSeconds := 0, occ := some occOnce }
/-- The deck with that slot as its slot 4. -/
def programmed (k : Slot) (s : State) : State := s.onSched fun c => { c with slots := c.slots.set 3 k }
/-- The deck with preset 1 used and the clock at a time of 2031-06-15. -/
def ready (t : DateTime) : State := ((clockAt t 0).onTuner fun u => { u with presets := some presetT :: u.presets.tail })
/-- The recorder held by slot 4, recording since tick 0. -/
def holder4 : Holder :=
  { slot := 4, tag := 9, want := [], waiting := false, awaitDeck := false, moved := true, awaitReady := false, skip := none,
    retest := false, awaitLive := false, watchSince := 0, recSince := some 0, overrun := false }
/-- Slot 4 holds the recorder with this slot record, in a mechanism state, under the owner TIMER. -/
def held4 (k : Slot) (m : MState) (t : DateTime) : State :=
  ((programmed k (ready t)).onSched fun c => { c with holder := some holder4 }).onMech fun x =>
    { x with state := m, target := m, owner := .timer 4 }

/-- PREPARING in THREADING toward REC_PAUSE, SCHED's RECORD in flight. -/
def preparing4 : State := (held4 (slotIn .preparing) .threading (june 2 0 0)).onMech fun x =>
  { x with target := .recPause, camTarget := some 3, camTimer := some 0,
           inFlight := some { what := .record, paused := true, origin := .timer 4, tag := 9 } }

theorem test_meets_CancelTimer : ∀ x ∈ [(EntryState.recording, held4 (slotIn .recording) .record (june 2 30 0)),
      (.preparing, preparing4)], let s := x.2
    s.takes ∧ s.hasSlot 4 (slotIn x.1) ∧ s.onlyOccurrence 4 ∧ s.sched.holder = some holder4 ∧ holder4.slot = 4 ∧
    entryOnce.repeats = .once ∧ s.mech.owner = .timer 4 ∧ s.mech.slot = none ∧ s.mech.junction = none ∧ s.mech.standbyStop = false ∧
    s.mech.recoveryPending = false ∧ s.mark.search = none ∧ (x.1 = .recording → s.mech.inFlight = none ∧ s.mech.state = .record) ∧
    (x.1 = .preparing → s.mech.inFlight.isSome = true ∧ s.mech.state = .threading ∧ s.mech.target = .recPause) := by decide

theorem test_entryOf : entryOf .a entryRecordOnce = some entryOnce := by decide

theorem test_meets_EntryWrite_refused : up.takes ∧ up.clock.valid = false ∧ (ready (june 1 0 0)).takes ∧
    (ready (june 1 0 0)).clock.valid = true ∧
    (let s := (ready (june 1 0 0)).onSched fun c => { c with slots := List.replicate 16 (slotIn .armed) }
     s.takes ∧ s.clock.valid = true ∧ ∀ m < 16, (s.slot (m + 1)).state ≠ .empty) ∧
    (∀ x ∈ [EntryState.watching, .preparing, .recording, .held], (held4 (slotIn x) .record (june 2 30 0)).takes ∧
      (held4 (slotIn x) .record (june 2 30 0)).clock.valid = true ∧ (held4 (slotIn x) .record (june 2 30 0)).hasSlot 4 (slotIn x)) ∧
    entryOf .a { entryRecordOnce with stopMinute := 60 } = none ∧ up.preset 1 = none ∧ (clockAt (june 1 0 0) 0).preset 1 = none ∧
    (clockAt (june 1 0 0) 0).takes ∧ (clockAt (june 1 0 0) 0).hasSlot 16 Slot.reset := by decide
theorem test_meets_EntryWrite_stored : ∀ n ∈ [1, 16], ∀ t ∈ [june 1 0 0, june 1 57 29, june 4 0 0],
    (ready t).takes ∧ (ready t).clock.valid = true ∧ (ready t).hasSlot n Slot.reset ∧ (ready t).onlyOccurrence n ∧
    (ready t).sched.holder = none ∧ (ready t).roomFor 1 ∧ entryOf (ready t).std entryRecordOnce = some entryOnce ∧
    (entryOf (ready t).std { entryRecordOnce with enabled := false }).isSome = true ∧
    ((ready t).preset entryOnce.preset).isSome = true := by decide
/-- R143, R144: before 01:58:30 the occurrence's claim instant lies ahead; after 03:00 there is none. -/
theorem test_meets_EntryWrite_next : nextOcc entryOnce none (ready (june 1 0 0)).clock.reading = some occOnce ∧
    (((ready (june 1 0 0)).clock.reading : Int) < occOnce.claim * 1024) ∧
    nextOcc entryOnce none (ready (june 4 0 0)).clock.reading = none := by decide
/-- The lowest EMPTY slot: 1 in an empty table, 5 where the first four are used. -/
theorem test_meets_EntryWrite_slot0 :
    let s := (ready (june 1 0 0)).onSched fun c => { c with slots := List.replicate 4 (slotIn .done) ++ c.slots.drop 4 }
    s.takes ∧ (s.slot 5).state = .empty ∧ ∀ m < 5, 1 ≤ m → (s.slot m).state ≠ .empty := by decide
theorem test_meets_EntryRead : (programmed (slotIn .armed) up).takes ∧
    ((programmed (slotIn .armed) up).slot 4).entry = some entryOnce := by decide

theorem test_meets_EntryControls : ∀ x ∈ [EntryState.empty, .disabled, .armed, .blocked, .watching, .preparing, .recording, .held,
      .done], (programmed (slotIn x) (ready (june 1 0 0))).takes ∧
    (programmed (slotIn x) (ready (june 1 0 0))).hasSlot 4 (slotIn x) ∧
    (programmed (slotIn x) (ready (june 1 0 0))).onlyOccurrence 4 ∧ (programmed (slotIn x) (ready (june 1 0 0))).sched.holder = none ∧
    (programmed (slotIn x) (ready (june 1 0 0))).roomFor 1 ∧ entryOnce.repeats = .once ∧ occOnce.started = false ∧
    (programmed (slotIn x) up).takes ∧ (programmed (slotIn x) up).clock.valid = false ∧
    (ready (june 1 0 0)).hasSlot 16 Slot.reset ∧ (programmed { slotIn x with occ := none } (ready (june 4 0 0))).takes := by decide
theorem test_meets_EntryControls_extend : ∀ x ∈ [EntryState.recording, .held], ∀ h ∈ [holder4],
    let s := held4 (slotIn x) .record (june 2 30 0)
    s.takes ∧ s.hasSlot 4 (slotIn x) ∧ s.sched.holder = some h ∧ h.slot = 4 ∧ s.onlyOccurrence 4 ∧
    (timeLegal (june 3 30 0) = true ∧ s.clock.reading < secondsOf (june 3 30 0) * 1024 ∧
      secondsOf (june 3 30 0) * 1024 ≤ s.clock.reading + 86400 * 1024) ∧
    ¬ s.clock.reading < secondsOf (june 2 30 0) * 1024 ∧
    secondsOf { june 2 30 0 with date := { year := 2031, month := 6, day := 16 } } * 1024 ≤ s.clock.reading + 86400 * 1024 ∧
    entryOnce.labelFollow = false := by decide

/-- Slot 4 ARMED with its claim instant come and the due timer at 0, the recorder with the owner in a mechanism state. -/
def dueAt (w : Owner) (m : MState) (t : DateTime) : State :=
  ((programmed (slotIn .armed) (ready t)).onSched fun c => { c with due := some 0 }).onMech fun x =>
    { x with state := m, target := m, owner := w }

theorem test_meets_DueEntry : up.hears ∧ up.sched.due = none ∧
    (∀ t ∈ [june 1 58 30, june 2 59 59], ∀ s ∈ [dueAt .panel .play t, dueAt .none .idle t],
      s.hears ∧ s.sched.due = some 0 ∧ 0 ≤ s.now ∧ s.clock.valid = true ∧ s.hasSlot 4 (slotIn .armed) ∧ s.onlyOccurrence 4 ∧
      s.sched.holder = none ∧ entryOnce.labelFollow = false ∧ occOnce.claim * 1024 ≤ (s.clock.reading : Int) ∧
      (s.clock.reading : Int) < occOnce.endAt * 1024 ∧ s.roomFor 1) ∧
    (let s := dueAt .none .idle (june 1 58 30)
     s.mech.owner = .none ∧ s.mech.state = .idle ∧ s.deckFree ∧ s.mech.recoveryRun = false ∧ s.mech.junction = none ∧
     s.mech.tab = true ∧ s.pins.leaderEnd = false ∧ s.guardSpan = none ∧ s.pwr.power = .on ∧ s.pwr.phase = .up ∧
     s.preset entryOnce.preset = some presetT ∧ presetT.box = none ∧ s.tuner.scan = none) := by decide

/-- The deck without its supply, slot 4's claim instant come. -/
def dueDown : State := ((dueAt .none .idle (june 1 58 30)).onPwr (fun p => { p with power := .standby, phase := .off })).onPins fun p =>
  { p with supGood := false }
/-- The counter between two protection marks. -/
def fenced (last : List MarkEntry) (s : State) : State :=
  s.onMark fun k => { k with list := ⟨0, .protectBegin, none, true⟩ :: last }
/-- Slot 4's entry with a protect policy, due in IDLE. -/
def dueWith (p : Policy) : State := programmed { slotIn .armed with entry := some { entryOnce with policy := p } }
  (dueAt .none .idle (june 1 58 30))
theorem test_meets_DueEntry_standby : (dueDown.hears ∧ dueDown.mech.owner = .none ∧ dueDown.mech.inFlight = none ∧
      dueDown.mech.slot = none ∧ dueDown.mech.standbyStop = false ∧ dueDown.mark.search = none ∧ dueDown.mech.junction = none) ∧
    dueDown.pwr.power = .standby ∧ dueDown.pwr.phase = .off ∧ dueDown.pins.supGood = false ∧ dueDown.roomFor 4 ∧
    dueDown.box.onPoint = .none ∧ dueDown.box.hold = none ∧ dueDown.tuner.scan = none := by decide
/-- R151, R163: each deck check failing; a closed and an open span around the counter. -/
theorem test_meets_DueEntry_checks : (∀ m ∈ [MState.idle, .empty, .jammed], ∀ s ∈ [dueAt .none m (june 1 58 30)], s.hears ∧
      s.mech.state = m ∧ s.pwr.power ≠ .standby ∧ s.pwr.phase = .up ∧ s.mech.recoveryPending = false ∧ s.mech.recoveryRun = false) ∧
    (∀ s ∈ [fenced [⟨500, .protectEnd, none, true⟩] (dueWith .refuse), fenced [] (dueWith .skip)], s.hears ∧
      s.guardSpan.isSome = true ∧ s.mech.state = .idle ∧ s.mech.tab = true) ∧
    (fenced [] (dueWith .skip)).guardSpan.map Span.opened = some true ∧
    (fenced [⟨500, .protectEnd, none, true⟩] (dueWith .skip)).guardSpan.map Span.opened = some false ∧
    ((dueWith .skip).onPins fun x => { x with leaderEnd := true }).pins.leaderEnd = true ∧
    ((dueWith .skip).onMech fun m => { m with tab := false }).mech.tab = false ∧
    ((dueWith .skip).onTuner fun u => { u with presets := u.presets.set 0 none }).preset 1 = none ∧
    entryOnce.repeats = .once ∧ occOnce.started = false := by decide

/-- The label entry of a programme from 02:00 to 03:00 of 2031-06-15. -/
def entryLabel : Entry := { entryOnce with labelFollow := true }
/-- Its occurrence, the window opening judged. -/
def occLabel : Occurrence := { makeOcc entryLabel 15140 with winSeen := true }
/-- A slot with the label entry in a state. -/
def labelSlot (x : EntryState) (o : Occurrence) : Slot := { slotIn x with entry := some entryLabel, occ := some o }
/-- Slot 7's label entry holds the recorder at 00:59:30, where slot 4's entry from 01:01 is due. -/
def contested (x : EntryState) (m : MState) : State :=
  let e := { entryOnce with start := 61, stop := 90 }
  ((programmed { slotIn .armed with entry := some e, occ := some (makeOcc e 15140) } (ready (june 1 0 0))).onSched fun c =>
    { c with due := some 0, slots := c.slots.set 6 (labelSlot x occLabel),
             holder := some { holder4 with slot := 7, overrun := true } }).onMech fun y =>
    { y with state := m, target := m, owner := .timer 7 }
set_option maxRecDepth 8000 in
theorem test_meets_DueEntry_preempts : ∀ x ∈ [(EntryState.watching, MState.idle), (.recording, .record)],
    ∀ s ∈ [contested x.1 x.2], (s.hears ∧ s.sched.due = some 0 ∧ s.clock.valid = true ∧ (s.slot 4).state = .armed ∧
    (s.slot 4).occ.map (fun o => decide (o.claim * 1024 ≤ (s.clock.reading : Int))) = some true ∧
    s.hasSlot 7 (labelSlot x.1 occLabel) ∧ (∀ y ∈ (s.sched.slots.set 3 Slot.reset).set 6 Slot.reset, y.occ = none) ∧
    s.sched.holder.map Holder.slot = some 7) := by decide
theorem test_meets_DueEntry_preempts_deck : ∀ x ∈ [(EntryState.watching, MState.idle), (.recording, .record)],
    ∀ s ∈ [contested x.1 x.2], (s.mech.owner = .timer 7 ∧ s.mech.state = x.2 ∧ s.mech.inFlight = none ∧
    s.mech.slot = none ∧ s.mech.standbyStop = false ∧ s.mark.search = none ∧ s.mech.junction = none ∧ s.mech.tab = true ∧
    s.pins.leaderEnd = false ∧ s.guardSpan = none) ∧ s.pwr.power ≠ .standby ∧ s.pwr.phase = .up ∧
    s.mech.recoveryPending = false ∧ s.mech.recoveryRun = false ∧ (s.preset 1).isSome = true ∧ s.tuner.scan = none ∧
    (s.clock.reading : Int) < occLabel.lead * 1024 ∧ (s.clock.reading : Int) < occLabel.winClose * 1024 ∧
    (s.clock.reading : Int) < occLabel.endAt * 1024 ∧ s.roomFor 6 ∧ s.box.onPoint = .none ∧ s.box.hold = none ∧
    s.box.deferred = none ∧ occLabel.mode = .label := by decide
/-- EXTEND with a label entry: its window opening judged, and one second before its opening. -/
theorem test_meets_EntryControls_extend_label : occLabel.winSeen = true ∧ (∀ x ∈ [EntryState.recording, .held],
    ∀ s ∈ [held4 (labelSlot x occLabel) .record (june 2 30 0)], s.takes ∧ s.hasSlot 4 (labelSlot x occLabel) ∧
      s.sched.holder = some holder4 ∧ s.onlyOccurrence 4) ∧
    (let o := makeOcc entryLabel 15140
     o.winSeen = false ∧ ∀ s ∈ [held4 (labelSlot .held o) .recPause (june 0 59 59)], s.takes ∧ s.hasSlot 4 (labelSlot .held o) ∧
      (s.clock.reading : Int) < o.winOpen * 1024 ∧ s.clock.reading < secondsOf (june 3 30 0) * 1024) := by decide

/-- Slot 4 PREPARING with the deck ready in REC_PAUSE and the due timer come. -/
def readyAt (o : Occurrence) (e : Entry) (t : DateTime) : State :=
  (held4 { slotIn .preparing with entry := some e, occ := some o } .recPause t).onSched fun c =>
    { c with due := some 0, holder := c.holder.map fun h => { h with awaitReady := true, recSince := none } }
theorem test_meets_RecordingStarts : ∀ s ∈ [readyAt occOnce entryOnce (june 1 59 59), readyAt occOnce entryOnce (june 2 0 0),
      readyAt { occOnce with winSeen := true } entryLabel (june 2 0 1), readyAt occLabel entryLabel (june 1 30 0)],
    s.hears ∧ (s.slot 4).state = .preparing ∧ s.onlyOccurrence 4 ∧ s.mech.owner = .timer 4 ∧ s.clock.valid = true ∧
    s.sched.due = some 0 ∧ s.mech.state = .recPause ∧ s.mech.junction = none ∧ s.mech.inFlight = none ∧ s.mech.slot = none ∧
    s.mech.standbyStop = false ∧ s.mech.recoveryPending = false ∧ s.mech.tab = true ∧ s.pins.leaderEnd = false ∧
    s.sched.holder = some { holder4 with awaitReady := true, recSince := none } ∧
    (s.clock.reading : Int) < occLabel.winClose * 1024 ∧ s.roomFor 1 := by decide
theorem test_meets_RecordEntered : ∀ x ∈ [EntryState.recording, .held], ∀ s ∈ [held4 (slotIn x) .record (june 3 0 0)],
    s.hasSlot 4 (slotIn x) ∧ s.mech.state = .record ∧ entryOnce.speed ≠ .auto ∧ entryOnce.allowSlower = false := by decide

theorem test_meets_RecordingEnds : ∀ s ∈ [held4 (slotIn .recording) .record (june 3 0 0)], ∀ h ∈ [holder4],
    s.hears ∧ s.hasSlot 4 (slotIn .recording) ∧ s.onlyOccurrence 4 ∧ s.sched.holder = some h ∧ h.slot = 4 ∧
    entryOnce.repeats = .once ∧ s.mech.state = .record ∧ s.mech.owner = .timer 4 ∧ s.mech.inFlight = none ∧
    s.mech.standbyStop = false ∧ s.mech.recoveryPending = false ∧ s.takes ∧
    (let r := s.onSched fun c => { c with stopAt := some 0, windowAt := some 1 }
     r.hears ∧ r.sched.stopAt = some 0 ∧ 0 ≤ r.now ∧ r.sched.windowAt = some 1 ∧ r.now < 1 ∧ (later 1 r).hears ∧
     1 ≤ (later 1 r).now) := by decide

theorem test_meets_ScheduledStop : ∀ t0 ∈ [0, 1], ∀ s ∈ [(held4 (slotIn .recording) .record (june 3 0 0)).onSched fun c =>
      { c with schedAt := some t0 }], s.hears ∧ s.sched.holder = some holder4 ∧ s.sched.schedAt = some t0 := by decide
/-- Slot 4 HELD, the deck in REC_PAUSE, the held timer from 0. -/
def holding4 : State := (held4 (slotIn .held) .recPause (june 2 30 0)).onSched fun c => { c with held := some 0 }
theorem test_meets_HeldTimer : ∀ c ∈ [cyclesOf 1800000, cyclesOf 1800000 - 1], ∀ s ∈ [later c holding4],
    s.hears ∧ s.hasSlot 4 (slotIn .held) ∧ s.sched.holder = some holder4 ∧ s.sched.held = some 0 ∧
    ((s.now - 0) * 1000 < 1800000 * 32768 ∨ 1800000 * 32768 ≤ (s.now - 0) * 1000 ∧ s.mech.state = .recPause ∧
      s.mech.junction = none ∧ s.mech.owner = .timer 4 ∧ s.mech.inFlight = none ∧ s.mech.standbyStop = false ∧
      s.mech.recoveryPending = false ∧ holder4.want = [] ∧ holder4.waiting = false) := by decide
/-- Slot 4 RECORDING in mode LABEL, the label-loss timer from 0 and the scheduled stop ahead. -/
def lossAt (c : Nat) : State :=
  later c ((held4 { slotIn .recording with occ := some { occOnce with mode := .label } } .record (june 2 30 0)).onSched fun x =>
    { x with loss := some 0, schedAt := some 99999999 })
theorem test_meets_LabelLoss : ∀ c ∈ [cyclesOf 60000, cyclesOf 60000 - 1], ∀ s ∈ [lossAt c],
    s.hears ∧ s.hasSlot 4 { slotIn .recording with occ := some { occOnce with mode := .label } } ∧
    s.sched.holder = some holder4 ∧ holder4.overrun = false ∧ s.sched.schedAt = some 99999999 ∧ s.now < 99999999 ∧
    s.sched.loss = some 0 := by decide
theorem test_meets_LabelLoss_length : 60000 * 32768 ≤ cyclesOf 60000 * 1000 ∧ (cyclesOf 60000 - 1) * 1000 < 60000 * 32768 := by
  decide
/-- The slot RECORDING with an AUTO entry in mode FIXED. -/
def autoSlot : Slot :=
  { slotIn .recording with entry := some { entryOnce with speed := .auto }, occ := some { occOnce with mode := .fixed } }
/-- Slot 4 RECORDING at S with an AUTO entry, so many cycles after the entry to RECORD, the stop timer set; the estimate is LIVE. -/
def checkedAt (c stop : Nat) : State :=
  ((later c (held4 autoSlot .record (june 2 30 0))).onSched fun x => { x with stopAt := some stop })
    |>.onServo (fun v => { v with recSpeed := some .s })
    |>.onPos fun p => { p with estState := .live, cls := some .c120, f16 := 32768 }
theorem test_meets_SpeedCheck : ∀ c ∈ [300 * 32768, 300 * 32768 - 1], ∀ s ∈ [checkedAt c 200000000],
    s.hears ∧ s.hasSlot 4 autoSlot ∧ s.sched.holder = some holder4 ∧ s.sched.stopAt = some 200000000 ∧ s.now < 200000000 ∧
    s.servo.recSpeed = some .s ∧ s.pos.estState ≠ .none ∧ (s.remainingAt .s).isSome = true ∧ (s.remainingAt .h).isSome = true ∧
    occOnce.speed = .s ∧ entryOnce.allowSlower = false := by decide
/-- A LABEL packet of the programme that starts at 02:00, or of another at 02:05. -/
def labelOf (minute status : Nat) : LabelFields := { labelFields with day := 15, hour := 2, minute := minute, status := status }
/-- Slot 4's label entry in a state, in mode LABEL, the label of the next packet received once. -/
def following (x : EntryState) (o : Occurrence) (m : MState) (f : LabelFields) : State :=
  ((held4 (labelSlot x o) m (june 2 10 0)).onSched fun c => { c with due := some 0 }).onLdd fun d =>
    { d with active := true, last := none, tuned := none, candidate := judgeLabel f }
/-- The same with a recording session at speed S. -/
def followingIn (x : EntryState) (o : Occurrence) (m : MState) (f : LabelFields) : State :=
  (following x o m f).onServo fun v => { v with recSpeed := some .s }
theorem test_meets_LabelGrant : ∀ s ∈ [programmed (labelSlot .armed (makeOcc entryLabel 15140)) (dueAt .none .idle (june 0 59 30)),
      programmed (labelSlot .armed (makeOcc entryLabel 15140)) (dueAt .panel .play (june 0 59 59))],
    s.hears ∧ s.onlyOccurrence 4 ∧ s.sched.due = some 0 ∧ s.sched.holder = none ∧
    (makeOcc entryLabel 15140).claim * 1024 ≤ (s.clock.reading : Int) ∧
    (s.clock.reading : Int) < (makeOcc entryLabel 15140).winOpen * 1024 ∧
    (s.clock.reading : Int) < (makeOcc entryLabel 15140).winClose * 1024 ∧
    (s.clock.reading : Int) < (makeOcc entryLabel 15140).lead * 1024 ∧
    (s.clock.reading : Int) < (makeOcc entryLabel 15140).endAt * 1024 ∧ (s.preset 1).isSome = true := by decide
set_option maxRecDepth 8000 in
theorem test_meets_Labels_followed : ∀ f ∈ [labelOf 0 0, labelOf 0 1, labelOf 0 2, labelOf 5 0, labelOf 5 1],
    ∀ x ∈ [(EntryState.watching, MState.idle, { occLabel with tested := true }), (.watching, .play, { occLabel with heldOut := true }),
      (.preparing, .recPause, occLabel), (.recording, .record, occLabel), (.held, .recPause, occLabel)],
    ∀ s ∈ [following x.1 x.2.2 x.2.1 f], (s.hears ∧ s.hasSlot 4 (labelSlot x.1 x.2.2) ∧ s.onlyOccurrence 4 ∧ s.clock.valid = true ∧
    (judgeLabel f).isSome = true ∧ (∀ l ∈ judgeLabel f, s.newLabelIn (packetOf 1 f timeFields) l) ∧
    s.sched.holder = some holder4) := by decide
set_option maxRecDepth 8000 in
theorem test_meets_Labels_followed_deck : ∀ x ∈ [(EntryState.watching, MState.idle, { occLabel with tested := true }),
      (.watching, .play, { occLabel with heldOut := true }), (.preparing, .recPause, occLabel), (.recording, .record, occLabel),
      (.held, .recPause, occLabel)],
    ∀ s ∈ [followingIn x.1 x.2.2 x.2.1 (labelOf 0 0)], (s.mech.owner = .timer 4 ∧ s.mech.inFlight = none ∧ s.mech.slot = none ∧
    s.mech.standbyStop = false ∧ s.mech.recoveryPending = false ∧ s.mech.recoveryRun = false ∧ s.mark.search = none ∧
    s.tuner.scan = none ∧ s.pwr.power ≠ .standby ∧ s.pwr.phase = .up ∧ s.mech.junction = none) ∧ x.2.2.mode = .label ∧
    x.2.2.winSeen = true ∧ x.2.2.winOpen * 1024 ≤ (s.clock.reading : Int) ∧ (s.clock.reading : Int) < x.2.2.winClose * 1024 ∧
    holder4.want = [] ∧ holder4.waiting = false ∧ holder4.awaitReady = false ∧ holder4.skip = none ∧ s.mech.tab = true ∧
    s.pins.leaderEnd = false ∧ s.guardSpan = none ∧ (s.preset 1).isSome = true ∧ s.servo.recSpeed.isSome = true := by decide
/-- R156: 02:00 is the occurrence's label, 02:05 another programme's. -/
theorem test_meets_Labels_mine : ((judgeLabel (labelOf 0 0)).map fun l => decide (up.labelIsOf l entryLabel occLabel)) = some true ∧
    ((judgeLabel (labelOf 5 0)).map fun l => decide (up.labelIsOf l entryLabel occLabel)) = some false := by decide
theorem test_meets_Fallback : ∀ seen ∈ [true, false],
    ∀ s ∈ [later 327680 (following .watching { occLabel with labelSeen := seen } .idle (labelOf 0 0))], s.hears ∧
    s.sched.due = some 0 ∧ 0 ≤ s.now ∧ occLabel.lead * 1024 ≤ (s.clock.reading : Int) ∧
    (s.clock.reading : Int) < occLabel.winClose * 1024 ∧ occLabel.tested = false ∧
    10000 * 32768 ≤ (s.now - holder4.watchSince) * 1000 ∧ s.mech.state = .idle := by decide
/-- The post-hold timer of slot 4 from 0, the deck in HALT without an owner. -/
def afterHold (p : Power) (off : Bool) (c : Nat) : State :=
  later c (((deckIn .halt).onMech fun m => { m with owner := .none }).onSched fun x =>
    { x with post := some { since := 0, slot := 4, powerOff := off } }) |>.onPwr fun q => { q with power := p }
theorem test_meets_PostHold : ∀ c ∈ [cyclesOf 10000, cyclesOf 10000 - 1], ∀ p ∈ [Power.on, .timerOn], ∀ off ∈ [true, false],
    ∀ s ∈ [afterHold p off c], s.hears ∧ s.sched.post = some { since := 0, slot := 4, powerOff := off } ∧
    s.sched.holder = none ∧ s.mech.owner = .none ∧ s.mech.state = .halt ∧ s.mech.inFlight = none ∧
    s.mech.standbyStop = false ∧ s.mech.recoveryPending = false ∧ s.pwr.power = p ∧ s.pwr.phase = .up := by decide
theorem test_meets_PostHold_length : 10000 * 32768 ≤ cyclesOf 10000 * 1000 ∧ (cyclesOf 10000 - 1) * 1000 < 10000 * 32768 := by
  decide
set_option maxRecDepth 8000 in
/-- The example of section 10.4: the due timer at the claim instant threads the deck and selects the preset. -/
theorem test_claim_threads : (after .dueTimerExpiry (dueAt .none .idle (june 1 58 30))).mech.state = .threading ∧
    (after .dueTimerExpiry (dueAt .none .idle (june 1 58 30))).tuner.selection = some (.preset 1) := by decide
/-- R143, R144: a daily label entry of 23:00 to 01:00 after its date of 2031-06-14. -/
def entryNightly : Entry := { entryLabel with repeats := .daily, date := none, start := 1380, stop := 60 }
theorem test_meets_NextOccurrence : entryNightly.start < 1440 ∧ entryNightly.stop < 1440 ∧ entryNightly.start ≠ entryNightly.stop ∧
    dayNumber { year := 2031, month := 6, day := 14 } < 15140 ∧ (0 : Int) < (makeOcc entryNightly 15140).endAt * 1024 ∧
    ∀ d < 15140, ¬ ∀ x, some ({ year := 2031, month := 6, day := 14 } : Date) = some x → dayNumber x < d := by
  refine ⟨by decide, by decide, by decide, by decide, by decide, fun d h c => ?_⟩
  have h1 : dayNumber { year := 2031, month := 6, day := 14 } = 15139 := by decide
  have h2 := c _ rfl
  omega
/-- R143, R144 by hand: the next date, its claim at 21:59:30, its stop at 01:00 and its end at 03:00 of the date after. -/
theorem test_next_occurrence : let o := nextOcc entryNightly (some { year := 2031, month := 6, day := 14 }) 0
    o.map (fun o => (o.date, o.stop - o.start, o.start - o.claim, o.endAt - o.start)) =
      some ({ year := 2031, month := 6, day := 15 }, 7200, 3630, 14400) ∧
    nextOcc { entryNightly with repeats := .weekdays } (some { year := 2031, month := 6, day := 13 }) 0 =
      nextOcc { entryNightly with repeats := .weekly, weekday := some 0 } (some { year := 2031, month := 6, day := 13 }) 0 ∧
    nextOcc entryNightly (some { year := 2089, month := 12, day := 30 }) 0 = none := by decide

/-- Slot 4 due with a BOX preset of channel 47, the box's profile, so many frames queued, and a sequence deferred or none. -/
def dueBox (p : Option BoxProfile) (k : Nat) (d : Option Deferred) (t : DateTime) : State :=
  ((dueAt .none .idle t).onTuner fun u => { u with presets := some { presetT with box := some 47 } :: u.presets.tail }).onBox fun b =>
    { b with profile := p, queue := List.replicate k { key := 1, code := 0x01FE, origin := .panel }, sending := decide (0 < k),
             deferred := d, retry := d.map fun _ => 0 }
set_option maxRecDepth 8000 in
theorem test_meets_DueEntry_box : ∀ p ∈ [none, some boxExample], ∀ k ∈ [4, 5], ∀ d ∈ [none, some ⟨7, 99, 5⟩],
    ∀ t ∈ [june 1 58 30, june 2 0 0], ∀ s ∈ [dueBox p k d t], (s.hears ∧ s.sched.due = some 0 ∧ s.clock.valid = true ∧
    s.hasSlot 4 (slotIn .armed) ∧ s.sched.holder = none ∧ s.mech.owner = .none ∧ s.mech.state = .idle ∧ s.mech.tab = true ∧
    s.pins.leaderEnd = false ∧ s.guardSpan = none ∧ s.tuner.scan = none) ∧ (s.preset 1).map Preset.box = some (some 47) ∧
    s.roomFor 5 ∧ s.box.profile = p ∧ s.box.queue.length = k ∧ s.box.deferred = d := by decide
set_option maxRecDepth 16000 in
/-- R182: the sequence fits, waits with its deadline at 02:00, is dropped past it, and replaces one deferred. -/
theorem test_first_hand_off :
    (after .dueTimerExpiry (dueBox (some boxExample) 4 none (june 1 58 30))).box.queue.length = 8 ∧
    (after .dueTimerExpiry (dueBox (some boxExample) 5 none (june 1 58 30))).box.deferred =
      some { slot := 4, channel := 47, deadline := occOnce.start } ∧
    (after .dueTimerExpiry (dueBox (some boxExample) 5 none (june 2 0 0))).box.deferred = none ∧
    .irDropped 7 99 .replaced ∈ (after .dueTimerExpiry (dueBox none 4 (some ⟨7, 99, 5⟩) (june 1 58 30))).link.notices := by decide
set_option maxRecDepth 16000 in
/-- R167: with an earlier entry's STOP in flight and the holder's RECORD stored, CANCEL stores a STOP in its place. R173: a step back
before the claim instant stops a preparation that is still threading. -/
theorem test_stops_a_preparation : (after (.cancel 4) (preparing4.onMech fun x =>
      { x with state := .shifting, target := .halt, inFlight := some { what := .stop, origin := .timer 7, tag := 8 },
               slot := some { what := .record, paused := true, origin := .timer 4, tag := 9 } })).mech.slot.map Cmd.what = some .stop ∧
    (after (.clockSet (some (june 0 30 0)) none) preparing4).mech.slot.map Cmd.what = some .stop ∧
    ((after (.clockSet (some (june 0 30 0)) none) preparing4).slot 4).state = .armed := by decide
/-- PREPARING at 01:59:00, a minute before its start. -/
def beforeStart : State := preparing4.onClock fun c => { c with time := june 1 59 0 }
set_option maxRecDepth 16000 in
/-- R173: a broadcast step from before the start to half a second past it sets the late mark; one that lands on the start, or that
is made past the start, does not. -/
theorem test_step_past_start : ∀ x ∈ [(beforeStart, 16384, some true), (beforeStart, 0, some false), (preparing4, 16384, some false)],
    ((finish (clockStep (june 2 0 0) x.2.1 .broadcast .broadcast x.1)).slot 4).occ.map Occurrence.late = x.2.2 := by decide


/-! ## Statements of the box and the outlet -/

/-- The deck with the example profile loaded and so many frames queued, the first being sent. -/
def boxed (k : Nat) : State := up.onBox fun b =>
  { b with profile := some boxExample, queue := List.replicate k { key := 1, code := 0x01FE, origin := .panel },
           sending := decide (0 < k) }
/-- The same with the sequence of channel 47 for slot 4 deferred, the retry timer from 0 and its deadline at an instant. -/
def deferring (k : Nat) (deadline : Int) (c : Nat) : State :=
  later c ((boxed k).onBox fun b => { b with deferred := some { slot := 4, channel := 47, deadline := deadline }, retry := some 0 })

theorem test_meets_BoxRequests : (∀ s ∈ [up, boxed 0, boxed 1, boxed 7, boxed 8, deferring 0 0 0], s.hears ∧ s.pwr.power ≠ .standby ∧
      s.takes ∧ s.mech.owner.isTimer = false ∧ (timed s).takes ∧ (timed s).mech.owner.isTimer = true) ∧
    (boxed 1).box.queue ≠ [] ∧ (deferring 0 0 0).box.deferred.isSome = true ∧ (boxed 0).box.queue = [] ∧
    (boxed 0).box.deferred = none ∧ BoxProfile.ok boxExample = true ∧ BoxProfile.ok { boxExample with space1 := 1 } = false ∧
    BoxProfile.ok { boxExample with headerSpace := 0 } = false ∧
    BoxProfile.ok { boxExample with headerMark := 0, headerSpace := 0, biphase := true } = false ∧
    up.box.profile = none ∧ (boxed 0).box.profile = some boxExample ∧ 8 ≤ (boxed 8).box.queue.length ∧
    (boxed 7).box.queue.length < 8 ∧ up.box.sending = false ∧ (boxed 1).box.sending = true ∧ (boxed 8).box.sending = true := by
  decide
theorem test_meets_IrRetry : ∀ c ∈ [cyclesOf 1000, cyclesOf 1000 - 1], ∀ k ∈ [4, 5], ∀ d ∈ [0, 1],
    ∀ s ∈ [deferring k d c, (deferring k d c).onBox fun b => { b with profile := none }],
    s.hears ∧ s.pwr.power ≠ .standby ∧ s.box.deferred = some { slot := 4, channel := 47, deadline := d } ∧
    s.box.retry = some 0 ∧ s.roomFor 1 ∧ (s.clock.reading : Int) < 2 * 1024 := by decide
theorem test_meets_IrRetry_values : (cyclesOf 1000 - 1) * 1000 < 1000 * 32768 ∧ 1000 * 32768 ≤ cyclesOf 1000 * 1000 ∧
    (let s := deferring 5 0 (cyclesOf 1000); 0 * 1024 ≤ (s.clock.reading : Int) ∧ (s.clock.reading : Int) < 1 * 1024) := by decide

/-- The outlet with LEAD and an OFF timepoint, its output ON or OFF. -/
def outletOf (off : Timepoint) (on : Bool) : State := up.onBox fun b => { b with onPoint := .lead, offPoint := off, output := on }
/-- The minimum-on timer from 0, slot 4 holding the output, an OFF waiting or not. -/
def pulsing (due : Option Timepoint) (on : Bool) (c : Nat) : State :=
  later c (up.onBox fun b => { b with minimum := some 0, offDue := due, output := on, hold := some 4 })

theorem test_meets_Outlet : up.hears ∧ up.takes ∧ (timed up).takes ∧ (timed up).mech.owner.isTimer = true ∧
    up.mech.owner.isTimer = false ∧ up.box.minimum = none ∧
    (∀ off ∈ [Timepoint.recordEnd, .occurrenceEnd, .same], ∀ on ∈ [true, false], (outletOf off on).hears ∧
      (outletOf off on).box.onPoint = .lead ∧ (outletOf off on).box.offPoint = off ∧ (outletOf off on).box.output = on ∧
      (outletOf off on).roomFor 1) ∧
    (∀ c ∈ [cyclesOf 200, cyclesOf 200 - 1], ∀ due ∈ [none, some Timepoint.recordEnd], ∀ on ∈ [true, false],
      (pulsing due on c).hears ∧ (pulsing due on c).box.minimum = some 0 ∧ (pulsing due on c).box.offDue = due ∧
      (pulsing due on c).box.hold = some 4 ∧ (pulsing due on c).roomFor 1) ∧
    (cyclesOf 200 - 1) * 1000 < 200 * 32768 ∧ 200 * 32768 ≤ cyclesOf 200 * 1000 := by decide
theorem test_meets_Outlet_plan : ∀ on ∈ [Timepoint.none, .lead, .recordStart], ∀ off ∈ [Timepoint.recordEnd, .occurrenceEnd, .same],
    ∀ acted ∈ [true, false], ∀ m ∈ [none, some 0], ∀ s ∈ [(outletOf off true).onBox fun b =>
      { b with plan := some ⟨4, on, off, acted⟩, hold := some 4, minimum := m }],
    s.hears ∧ s.box.plan = some ⟨4, on, off, acted⟩ ∧ s.box.hold = some 4 ∧ s.box.deferred = none ∧ s.box.minimum = m ∧
    s.roomFor 1 := by decide
theorem test_meets_Outlet_deferred : ∀ on ∈ [Timepoint.none, .lead, .recordStart], ∀ m ∈ [none, some 0], ∀ o ∈ [true, false],
    ∀ k ∈ [4, 5], ∀ s ∈ [(outletOf .recordEnd o).onBox fun b =>
      { b with plan := some ⟨4, on, .recordEnd, true⟩, hold := some 4, minimum := m, deferred := some ⟨k, 47, 0⟩ }],
    s.hears ∧ s.box.plan = some ⟨4, on, .recordEnd, true⟩ ∧ s.box.hold = some 4 ∧ s.box.deferred = some ⟨k, 47, 0⟩ ∧
    s.box.minimum = m ∧ s.roomFor 2 := by decide
/-- R182, R185 (log 49): the holder's OCCURRENCE_END tells of the outlet first and of the dropped sequence then. -/
theorem test_outlet_before_dropped : (timepoint 4 .occurrenceEnd ((outletOf .same true).onBox fun b =>
    { b with hold := some 4, deferred := some ⟨4, 47, 0⟩ })).link.notices =
      [.outletState false 4 .occurrenceEnd, .irDropped 4 47 .ended] := by decide
theorem test_meets_Outlet_other : up.hears ∧ up.box.hold ≠ some 4 ∧ (∀ q ∈ up.box.plan, q.slot ≠ 4) ∧ up.box.deferred = none ∧
    (up.onBox fun b => { b with deferred := some ⟨4, 47, 0⟩ }).box.deferred = some ⟨4, 47, 0⟩ := by decide
/-- Section 9.2: a key of the example profile queues its code. -/
theorem test_box_key : (after (.boxKey 1) (boxed 0)).box.queue = [{ key := 1, code := 0x01FE, origin := .panel }] := by decide
/-- R176, R177: the frame of a key has two transmissions of 2 + 32 + 1 + 1 parts; mark, space, gap and idle on the emitter. -/
theorem test_meets_Emitter : (boxed 1).hears ∧ (boxed 1).box.profile = some boxExample ∧ (boxed 1).box.sending = true ∧
    (boxed 1).box.queue = [{ key := 1, code := 0x01FE, origin := .panel }] ∧ (boxed 0).box.sending = false ∧
    (boxed 1).irParts.length = 72 ∧ [0, 1, 35, 72].map (boxed 1).irOutput = [.carrier, .noCarrier, .noCarrier, .noCarrier] ∧
    [0, 1, 35, 72].map ((boxed 1).onBox fun b => { b with profile := some { boxExample with carrier := 4 } }).irOutput =
      [.high, .low, .low, .low] := by decide


/-! ## Statements of power and the resets -/

/-- The part in a power state and supply phase, the supply timer from 0, the deck at rest without an owner. -/
def powered (p : Power) (f : Phase) (c : Nat) : State :=
  later c (((up.onMech fun m => { m with recoveryPending := true }).onPwr fun q =>
    { q with power := p, phase := f, timer := if f = .raising then some 0 else none }).onPins fun x =>
    { x with supGood := decide (f = .up ∨ f = .stopping), cam := 4 })
/-- The same with the ON mark set. -/
def marked (s : State) : State := s.onPwr fun q => { q with onMark := true }
/-- The same with the power key's enable off. -/
def keyless (s : State) : State := s.onLink fun l => { l with settings := { l.settings with keyWake := false } }

theorem test_meets_PowerEvents : ∀ c ∈ [cyclesOf 2000, cyclesOf 2000 - 1],
    ∀ f ∈ [(Power.standby, Phase.off), (.standby, .raising), (.timerOn, .raising), (.timerOn, .up), (.on, .up), (.on, .stopping)],
    ∀ s ∈ [powered f.1 f.2 c, marked (powered f.1 f.2 c), keyless (powered f.1 f.2 c), timed (powered f.1 f.2 c)],
    s.hears ∧ s.noOccurrence ∧ s.sched.due = none ∧ s.box.deferred = none ∧ s.roomFor 2 ∧ s.pwr.power = f.1 ∧ s.pwr.phase = f.2 ∧
    s.pwr.onOpen = false ∧ s.mech.recoveryPending = true ∧ s.mech.state = .idle ∧ s.pins.cam ∉ [0, 1, 7] ∧ s.mech.slot = none ∧
    s.mech.inFlight = none ∧ s.link.reply = none ∧ s.link.holding = [] := by decide
theorem test_meets_PowerEvents_values : (powered .standby .off 0).pins.supGood = false ∧
    (powered .standby .off 0).link.settings.keyWake = true ∧ (keyless (powered .standby .off 0)).link.settings.keyWake = false ∧
    (timed (powered .on .up 0)).mech.owner.isTimer = true ∧ (powered .on .up 0).mech.owner.isTimer = false ∧
    (powered .standby .raising 0).pwr.timer = some 0 ∧ (cyclesOf 2000 - 1) * 1000 < 2000 * 32768 ∧
    2000 * 32768 ≤ cyclesOf 2000 * 1000 ∧ (deckIn .halt).pwr.phase = .up ∧ (deckIn .halt).mech.owner.isTimer = false ∧
    (deckIn .halt).mech.state = .halt ∧ (deckIn .halt).mech.slot = none ∧ (deckIn .halt).mech.inFlight = none ∧
    (deckIn .halt).hears ∧ (deckIn .halt).link.reply = none ∧ (deckIn .halt).link.holding = [] := by decide
theorem test_meets_Resets : up.reports = [] ∧ up.pins.resetLow = false ∧
    (∀ p ∈ [Power.standby, .timerOn], ∀ s ∈ [programmed { slotIn .done with occ := none } (powered p .off 7)], s.reports = [] ∧
      s.pins.resetLow = false ∧ s.noOccurrence ∧ s.pwr.phase = .off ∧ s.link.reply = none ∧ s.link.holding = [] ∧
      ∀ i < 16, (s.slot (i + 1)).state ∈ [EntryState.empty, .disabled, .done]) ∧
    (up.onPins fun x => { x with resetLow := true }).reports = [] ∧
    (up.onPins fun x => { x with resetLow := true }).pins.resetLow = true := by decide
/-- A deck in a supply phase at a date-time, slot 4 in a state with an entry, holding the recorder where the state does; slot 5 has a
DAILY entry ARMED, slot 6 one BLOCKED, slot 7 one DISABLED. -/
def resetting (x : EntryState) (e : Entry) (f : Phase) (t : DateTime) : State :=
  let s := (held4 { slotIn x with entry := some e } .record t).onSched fun c =>
    { c with slots := ((c.slots.set 4 { slotIn .armed with entry := some { entryOnce with repeats := .daily } }).set 5
               { slotIn .blocked with entry := some { entryOnce with repeats := .daily } }).set 6 { slotIn .disabled with occ := none },
             holder := if x.holds then some holder4 else none }
  (s.onPwr fun p => { p with phase := f }).onPins fun p => { p with cam := 4, supGood := decide (f = .up ∨ f = .stopping) }

theorem test_meets_Resets_holding : ∀ x ∈ [EntryState.recording, .held, .armed, .done],
    ∀ e ∈ [entryOnce, { entryOnce with repeats := .daily }], ∀ f ∈ [Phase.off, .up, .stopping, .raising],
    let s := resetting x e f (june 4 0 0)
    s.reports = [] ∧ s.pins.resetLow = false ∧ s.link.reply = none ∧ s.link.holding = [] ∧ s.pwr.phase = f ∧ s.pwr.onMark = false ∧
    s.pins.cam ∉ [0, 1] ∧ (s.onPins fun p => { p with resetLow := true }).pins.resetLow = true ∧ (s.sched.holder = none ∨ s.sched.holder = some holder4) ∧ (s.slot 4).state = x ∧
    (s.slot 4).entry = some e ∧ (s.slot 5).state = .armed ∧ (s.slot 6).state = .blocked := by decide
set_option maxRecDepth 16000 in
/-- R143, R144: at 04:00 of 2031-06-15 the DAILY entry is next due on the 16th, with its claim instant ahead. -/
theorem test_meets_Resets_next : ∀ e ∈ [entryOnce, { entryOnce with repeats := .daily }],
    let s := resetting .recording e .off (june 4 0 0)
    (s.clock.valid = true ∧ ∀ k ∈ s.sched.slots, ∀ e ∈ k.entry, ∀ d ∈ [k.lastDate, k.date],
      ∀ o ∈ nextOcc e d s.clock.reading, s.reachedInstant o.claim = false) ∧
    (nextOcc { entryOnce with repeats := .daily } (s.slot 4).date s.clock.reading).map (fun o => o.date.day) = some 16 := by decide
/-- R191: the power key wakes the deck; R188: the supply good, it is ON and INIT runs. -/
theorem test_wake : (after .supGoodRise (after .powerKeyPress (powered .standby .off 0))).pwr.power = .on ∧
    (after .supGoodRise (after .powerKeyPress (powered .standby .off 0))).tuner.state = .init := by decide
/-- R191: the cassette's switch, and every request of the host, find the deck in STANDBY. -/
theorem test_meets_Wakes_standby : ∀ f ∈ [Phase.off, .raising], ∀ s ∈ [powered .standby f 0], s.hears ∧ s.noOccurrence ∧
    s.sched.due = none ∧ s.pins.supGood = false ∧ s.link.settings.casWake = true ∧ s.mech.state = .idle ∧
    s.link.reply = none ∧ s.link.holding = [] ∧ s.mech.recoveryPending = true ∧ s.mech.slot = none ∧ s.mech.inFlight = none ∧
    s.mech.standbyStop = false ∧ s.mech.owner.isTimer = false ∧ s.mark.search = none := by decide
theorem test_wakes : (after .cassetteInOpen (powered .standby .off 0)).pwr.phase = .raising ∧
    (after .position (powered .standby .off 0)).pwr.phase = .raising ∧
    (after .powerKeyPress (powered .on .raising 0)).pwr.power = .standby := by decide
theorem test_meets_PowerKey_on : (powered .on .raising 0).hears ∧ (powered .on .raising 0).noOccurrence ∧
    (powered .on .raising 0).sched.due = none ∧ (powered .on .raising 0).mech.owner.isTimer = false ∧
    (powered .on .raising 0).box.deferred = none ∧ (powered .on .raising 0).roomFor 2 ∧
    (deckIn .halt).pwr.power = .on ∧ (deckIn .halt).servo.reference = .internal ∧ (deckIn .halt).noOccurrence := by decide
/-- The standby stop's UNTHREADING. -/
def stopping (c : Nat) : State := later c ((((deckIn .unthreading).onMech fun x =>
  { x with owner := .none, target := .idle, camTarget := some 1, camTimer := some 0, standbyStop := true }).onPwr fun p =>
  { p with phase := .stopping }).onTuner fun u => { u with presets := some presetT :: u.presets.tail })
theorem test_meets_StandbyStop : ∀ s ∈ [stopping (cyclesOf 4000)], (s.hears ∧ s.mech.state = .unthreading ∧ s.mech.target = .idle ∧
    s.mech.camTarget = some 1 ∧ s.mech.inFlight = none ∧ s.mech.slot = none ∧ s.mech.standbyStop = true ∧
    s.mech.recoveryRun = false ∧ s.mech.cause = none ∧ s.pwr.phase = .stopping ∧ s.mark.search = none) ∧
    s.mark.writer = .idle ∧ s.pos.motion = none ∧ s.servo.reference = .internal ∧ s.noOccurrence ∧ s.box.deferred = none ∧
    s.tuner.tune = none ∧ s.tuner.scan = none ∧ s.roomFor 3 ∧ s.pins.cassetteIn = true ∧ s.mech.camTimer = some 0 ∧
    4000 * 32768 ≤ (s.now - 0) * 1000 := by decide
/-- Slot 4's claim instant comes within the standby stop. -/
def reclaimed : State := (programmed (slotIn .armed) ((stopping 0).onClock fun _ => (ready (june 1 58 30)).clock)).onSched fun c =>
  { c with due := some 0 }
theorem test_meets_Withdrawal : reclaimed.hears ∧ reclaimed.sched.due = some 0 ∧ reclaimed.clock.valid = true ∧
    reclaimed.hasSlot 4 (slotIn .armed) ∧ reclaimed.onlyOccurrence 4 ∧ reclaimed.sched.holder = none ∧
    reclaimed.mech.recoveryPending = false ∧ reclaimed.mech.junction = none ∧ reclaimed.pwr.power ≠ .standby ∧
    reclaimed.mech.tab = true ∧ reclaimed.pins.leaderEnd = false ∧ reclaimed.preset 1 = some presetT ∧
    reclaimed.guardSpan = none ∧ reclaimed.roomFor 4 := by decide
set_option maxRecDepth 16000 in
theorem test_meets_Withdrawal_instants : occOnce.claim * 1024 ≤ (reclaimed.clock.reading : Int) ∧
    (reclaimed.clock.reading : Int) < occOnce.endAt * 1024 ∧ reclaimed.pwr.phase = .stopping ∧
    (after .dueTimerExpiry reclaimed).pwr.phase = .up := by decide
/-- STANDBY with SUP_GOOD high already. -/
def risen : State := (powered .standby .off 0).onPins fun p => { p with supGood := true }
theorem test_meets_Wakes_risen : risen.hears ∧ risen.link.reply = none ∧ risen.link.holding = [] ∧ risen.noOccurrence ∧
    risen.mech.recoveryPending = true ∧ risen.mech.state = .idle ∧ risen.pins.cam ∉ [0, 1, 7] ∧ risen.mech.slot = none ∧
    risen.mech.inFlight = none ∧ risen.mech.standbyStop = false ∧ risen.mech.owner.isTimer = false ∧ risen.mark.search = none ∧
    risen.roomFor 1 ∧ risen.clock.valid = false ∧ ∀ c ∈ risen.sched.slots, c.state ∈ [EntryState.empty, .disabled, .done] := by decide
/-- R191: the frame that wakes is handled with the supply down, and the supply is up after it. -/
theorem test_wakes_risen : ((after .play risen).link.reply.map Reply.reason, (after .play risen).pwr.phase) =
      (some .badState, .up) ∧ (after (.tuneDirect 800) risen).tuner.state = .init ∧
    (after .powerRequestOn risen).link.reply.map Reply.result = some .accepted ∧
    (after .powerRequestOn risen).pwr.power = .on := by decide


/-! ## Statements of the link -/

/-- The receiver in a state, its gap timer from 0. -/
def receiving (r : Receiver) (c : Nat) : State := later c (up.onLink fun l => { l with receiver := r, gap := some 0 })
/-- So many frames held behind a standing reply. -/
def heldBehind (k : Nat) : State := up.onLink fun l =>
  { l with reply := some { kind := 0x15, result := .done, reason := .none, data := [] }, holding := List.replicate k (.bad 1) }
/-- A frame in transmission and a number of notices queued. -/
def sendingOf (x : Option Sending) (k : Nat) : State := (heldBehind 0).onLink fun l =>
  { l with sending := x, bootPending := decide (x = some .boot), notices := List.replicate k (.irFlushed 0) }

theorem test_meets_Receiver : ∀ c ∈ [327, 328], ∀ r ∈ [Receiver.hunt, .length, .kind 0, .kind 60, .payload 2 0x15 [],
      .payload 2 0x15 [7], .check 0 0x15 []], (receiving r c).hears ∧ (receiving r c).link.receiver = r ∧
    (receiving r c).link.gap = some 0 ∧ (receiving r c).takes := by decide
/-- R198: a gap of 327 cycles is within 10 ms and one of 328 is over it; 60 is a length, 61 and 0xA6 are none. -/
theorem test_meets_Receiver_values : 327 * 1000 ≤ 10 * 32768 ∧ 10 * 32768 < 328 * 1000 ∧ (60 : Byte).toNat ≤ 60 ∧
    60 < (61 : Byte).toNat ∧ 60 < (0xA6 : Byte).toNat ∧
    (0 : Byte) + 0x15 + ([] : List Byte).reverse.sum + 0xEB = 0 ∧ (0 : Byte) + 0x15 + ([] : List Byte).reverse.sum + 0xEC ≠ 0 ∧
    requestKind 0x15 = true ∧ parseRequest 0x15 ([] : List Byte).reverse = some .status ∧ requestKind 0x40 = false ∧
    parseRequest 0x0D [1] = none := by decide
theorem test_meets_HeldFrames : up.hears ∧ up.link.reply = none ∧ up.link.holding = [] ∧ requestKind 0x40 = false ∧
    (∀ k ∈ [0, 1, 2], (heldBehind k).hears ∧ (heldBehind k).link.reply.isSome = true ∧ (heldBehind k).link.holding.length = k) ∧
    (∀ x ∈ [none, some Sending.boot, some .reply, some .notice], ∀ k ∈ [0, 1, 11, 12], (sendingOf x k).hears ∧
      (sendingOf x k).link.sending = x ∧ (sendingOf x k).link.notices.length = k) := by decide
theorem test_meets_Transmitter : (∀ s ∈ [(heldBehind 0).onLink fun l =>
      { l with sending := some .reply, holding := [.bad 5, .unknown 0x40] }], s.hears ∧ s.link.sending = some .reply ∧
      s.link.holding = [.bad 5, .unknown 0x40]) ∧
    (∀ s ∈ [up.onLink fun l => { l with notices := [.irFlushed 0] }], s.hears ∧ s.link.sending = none ∧
      s.link.bootPending = false ∧ s.link.reply = none ∧ s.link.notices = .irFlushed 0 :: s.link.notices.tail) ∧
    up.link.sending = none ∧ up.link.bootPending = false ∧ up.link.notices = [] ∧
    (heldBehind 0).link.bootPending = false ∧ (up.onLink fun l => { l with bootPending := true }).hears := by decide
theorem test_meets_StatusAndSettings : up.takes ∧ (deckIn .empty).takes ∧ (deckIn .empty).mech.state = .empty := by decide
/-- R208: mask 16 names no field; mask 2 with the speed 3 is out of range and with 2 in range; T under standard A becomes S. -/
theorem test_settings : 16 ≤ (16 : Byte).toNat ∧ bitOf 2 1 = true ∧ (3 : Byte).toNat = 3 ∧
    (after (.settingsWrite { mask := 3, standard := 1, speed := 2, switches := 0, feed := 0 }) (deckIn .empty)).link.settings.recordSpeed
      = Speed.legal .b .t := by decide
/-- R209: in EMPTY a write that changes the pending standard makes it current; one that names the standard already pending does not. -/
theorem test_settings_standard : ∀ x ∈ [(Standard.a, Standard.b), (.b, .a)],
    let s := (deckIn .empty).onLink fun l => { l with settings := { l.settings with pendingStd := x.1, currentStd := .a } }
    let t := after (.settingsWrite { mask := 1, standard := 1, speed := 0, switches := 0, feed := 0 }) s
    t.link.settings.pendingStd = .b ∧ t.link.settings.currentStd = x.2 := by decide
/-- R92: a whole MECH request with an undefined code, a search running. -/
def miscoded (code : Byte) : State := searchRec .index .winding 1 0 0 none false none (receiving (.check 1 1 [code]) 5)
theorem test_meets_Receiver_miscoded : ∀ s ∈ [miscoded 99], s.takes ∧ s.hears ∧ s.mark.search.isSome = true ∧ s.roomFor 1 ∧
    byte 1 + 1 + ([99] : List Byte).reverse.sum + 0x9B = 0 ∧ requestKind 1 = true ∧ parseRequest 1 ([99] : List Byte).reverse = none := by
  decide
theorem test_miscoded_cancels : (after (.frameComplete 0x9B) (miscoded 99)).mark.search = none := by decide


/-! ## Statements of the whole part -/

theorem test_meets_RequestRoundTrip : Instr.status.wellFormed = true ∧ requestFrame .status = some (0x15, []) ∧
    (Instr.entryWrite 4 entryRecordOnce).wellFormed = true ∧ (requestFrame (.entryWrite 4 entryRecordOnce)).isSome = true ∧
    (Instr.boxProfileLoad boxExample).wellFormed = true ∧ (requestFrame (.boxProfileLoad boxExample)).isSome = true := by decide
theorem test_meets_StateInvariants : ∀ s ∈ [up, State.reset, dueDown, (boxed 8), (heldBehind 2), (held4 (slotIn .recording) .record (june 3 0 0)),
      programmed (slotIn .held) (timed up) |>.onMech fun m => { m with owner := .panel }],
    s.placesKept ∧ ∀ n < 16, 3 ≠ n → (s.slot (n + 1)).state.holds = false := by decide
theorem test_meets_HolderInvariants : (∀ s ∈ [up, State.reset, held4 (slotIn .recording) .record (june 3 0 0)], s.recorderHeldOnce) ∧
    (∀ s ∈ [up, State.reset], s.supplySound) := by decide
theorem test_meets_RestTimersSound : (∀ s ∈ [up, State.reset, (deckIn .halt).closed, (deckIn .still).closed], s.restSound) ∧
    (deckIn .still).closed.mech.still.isSome = true ∧ (deckIn .halt).closed.mech.halt.isSome = true := by decide
theorem test_meets_Invariants : up.clockSound ∧ up.ampOnlyInRecord ∧ (deckIn .record).ampOnlyInRecord ∧
    (clockAt lastTime 15).clockSound ∧ (∃ t, step { up with pending := [.secondBoundary] } = .next t) ∧
    (∃ t, step up = .next t) := by
  refine ⟨by decide, by decide, by decide, by decide, ⟨_, rfl⟩, ⟨_, rfl⟩⟩

end Sys2Proof.Machine
end

/-!
Sys2Proof/Proofs/Views: what the invariants of the whole part read of a state (its view), and for every function of the blocks that no
invariant reads, that it leaves the view as it was.
-/

namespace Sys2Proof.Machine

/-! ## The view of a state -/

/-- What PWR, SCHED and the waiting reports contribute: power state, supply phase and ON mark; for each slot its entry state and whether it
has an occurrence; the holder's slot and tag; the tags of the supply losses still to be reported to SCHED. -/
@[ext] structure Footing where
  power  : Power
  phase  : Phase
  onMark : Bool
  slots  : List (EntryState × Bool)
  holder : Option (Nat × Nat)
  lost   : List (Option Nat)

/-- What MECH and the tape contribute. -/
@[ext] structure Deck where
  owner           : Owner
  state           : MState
  recAmp          : Bool
  junction        : Option Junction
  camTarget       : Option CamCode
  camTimer        : Timer
  inFlight        : Option Cmd
  slot            : Option Cmd
  recoveryPending : Bool
  motion          : Option Motion

/-- What TUNER contributes. -/
@[ext] structure Radio where
  state     : TunerState
  scan      : Option Scan
  bus       : List Transaction
  next      : TunerNext
  initTimer : Timer
  settle    : Timer
  watch     : Timer

/-- What the invariants read of a state. -/
@[ext] structure View where
  footing : Footing
  deck    : Deck
  radio   : Radio

/-- All of a view but TUNER's part. -/
def View.ground (v : View) : Footing × Deck := (v.footing, v.deck)

/-- A slot's entry state, and whether it has an occurrence. -/
def Slot.standing (t : Slot) : EntryState × Bool := (t.state, t.occ.isSome)

/-- The slot and the tag of a holder. -/
def Holder.place (h : Holder) : Nat × Nat := (h.slot, h.tag)

/-- The tag a report of a supply loss carries. -/
def Report.lostTag : Report → Option (Option Nat)
  | .supplyLost tag => some tag
  | _ => none

/-- PWR's, SCHED's and the waiting reports' part of the view. -/
def State.footing (s : State) : Footing :=
  { power := s.pwr.power, phase := s.pwr.phase, onMark := s.pwr.onMark, slots := s.sched.slots.map Slot.standing,
    holder := s.sched.holder.map Holder.place, lost := s.reports.filterMap Report.lostTag }

/-- MECH's part of the view, with POS's motion. -/
def State.deck (s : State) : Deck :=
  { owner := s.mech.owner, state := s.mech.state, recAmp := s.mech.recAmp, junction := s.mech.junction,
    camTarget := s.mech.camTarget, camTimer := s.mech.camTimer, inFlight := s.mech.inFlight, slot := s.mech.slot,
    recoveryPending := s.mech.recoveryPending, motion := s.pos.motion }

/-- TUNER's part of the view. -/
def State.radio (s : State) : Radio :=
  { state := s.tuner.state, scan := s.tuner.scan, bus := s.tuner.bus, next := s.tuner.next, initTimer := s.tuner.initTimer,
    settle := s.tuner.settle, watch := s.tuner.watch }

/-- The view of a state. -/
def State.view (s : State) : View := { footing := s.footing, deck := s.deck, radio := s.radio }

/-! ## The updates of one block -/

@[simp] theorem State.onPins_view (f : Pins → Pins) (s : State) : (s.onPins f).view = s.view := rfl
@[simp] theorem State.onServo_view (f : Servo → Servo) (s : State) : (s.onServo f).view = s.view := rfl
@[simp] theorem State.onMark_view (f : Mark → Mark) (s : State) : (s.onMark f).view = s.view := rfl
@[simp] theorem State.onLdd_view (f : Ldd → Ldd) (s : State) : (s.onLdd f).view = s.view := rfl
@[simp] theorem State.onClock_view (f : Clock → Clock) (s : State) : (s.onClock f).view = s.view := rfl
@[simp] theorem State.onBox_view (f : Box → Box) (s : State) : (s.onBox f).view = s.view := rfl
@[simp] theorem State.onLink_view (f : Link → Link) (s : State) : (s.onLink f).view = s.view := rfl
@[simp] theorem State.onTuner_ground (f : Tuner → Tuner) (s : State) : (s.onTuner f).view.ground = s.view.ground := rfl

/-- Updating POS changes the view by the motion at most. -/
@[simp] theorem State.onPos_view (f : Pos → Pos) (s : State) (h : (f s.pos).motion = s.pos.motion) : (s.onPos f).view = s.view := by
  simp [State.view, State.footing, State.deck, State.radio, h]

/-- A report that tells of no supply loss carries no tag. -/
theorem Report.lostTag_eq_none (r : Report) (h : ∀ tag, r ≠ .supplyLost tag) : r.lostTag = none := by
  cases r with
  | supplyLost tag => exact absurd rfl (h tag)
  | _ => rfl

/-- A report that tells of no supply loss leaves the view. -/
@[simp] theorem report_view (r : Report) (s : State) (h : ∀ tag, r ≠ .supplyLost tag) : (report r s).view = s.view := by
  simp [State.view, State.footing, State.deck, State.radio, r.lostTag_eq_none h]

@[simp] theorem notify_view (n : Notice) (s : State) : (notify n s).view = s.view := rfl

/-! ## POS -/

@[simp] theorem countFrame_view (b : Bool) (s : State) : (countFrame b s).view = s.view := rfl
@[simp] theorem correctCounter_view (d : Int) (s : State) : (correctCounter d s).view = s.view := rfl
@[simp] theorem addGapSum_view (v : Int) (s : State) : (addGapSum v s).view = s.view := rfl
@[simp] theorem addAccumulator_view (v : Int) (s : State) : (addAccumulator v s).view = s.view := rfl
@[simp] theorem payFrame_view (b : Bool) (s : State) : (payFrame b s).view = s.view := rfl
@[simp] theorem toCapstan_view (s : State) : (toCapstan s).view = s.view := rfl
@[simp] theorem toNone_view (s : State) : (toNone s).view = s.view := rfl
@[simp] theorem countPulse_view (b : Bool) (s : State) : (countPulse b s).view = s.view := rfl
@[simp] theorem reelsRestart_view (s : State) : (reelsRestart s).view = s.view := rfl
@[simp] theorem runClear_view (s : State) : (runClear s).view = s.view := rfl
@[simp] theorem capstanRestarted_view (s : State) : (capstanRestarted s).view = s.view := rfl

@[simp] theorem counterNotice_view (s : State) : (counterNotice s).view = s.view := by
  unfold counterNotice; split <;> simp

@[simp] theorem coastFollow_view (b : Bool) (s : State) : (coastFollow b s).view = s.view := by
  unfold coastFollow; split <;> rfl

@[simp] theorem estimate_view (s : State) : (estimate s).view = s.view := by
  unfold estimate
  split
  · rw [report_view _ _ (by simp)]; (repeat' split) <;> rfl
  · rfl

@[simp] theorem setClass_view (c : CassetteClass) (s : State) : (setClass c s).view = s.view := by
  unfold setClass; split
  · rfl
  · simp

@[simp] theorem identified_view (c : CassetteClass) (s : State) : (identified c s).view = s.view := by
  simp only [identified]; (repeat' split) <;> simp

@[simp] theorem attempt_view (s : State) : (attempt s).view = s.view := by
  simp only [attempt]; (repeat' split) <;> simp

@[simp] theorem watchPulse_view (m : Motion) (r : Reel) (n : Nat) (s : State) : (watchPulse m r n s).view = s.view := by
  unfold watchPulse; split <;> rfl

@[simp] theorem reelPulse_view (r : Reel) (n : Nat) (s : State) : (reelPulse r n s).view = s.view := by
  simp only [reelPulse]; cases r <;> (repeat' split) <;> simp

@[simp] theorem counterTimer_view (s : State) : (counterTimer s).view = s.view := by
  unfold counterTimer; (repeat' split) <;> simp

@[simp] theorem remainingTimer_view (s : State) : (remainingTimer s).view = s.view := by
  unfold remainingTimer; (repeat' split) <;> simp

/-! ## MARK -/

@[simp] theorem readerClear_view (s : State) : (readerClear s).view = s.view := rfl

@[simp] theorem handleMark_view (r : MarkRead) (s : State) : (handleMark r s).1.view = s.view := by
  unfold handleMark; (repeat' split) <;> simp

@[simp] theorem markAbort_view (c : AbortCause) (s : State) : (markAbort c s).view = s.view := by
  unfold markAbort; split <;> simp

@[simp] theorem markLeave_view (a b : MState) (s : State) : (markLeave a b s).view = s.view := by
  unfold markLeave; (repeat' split) <;> simp

@[simp] theorem writePulse_view (t : MarkType) (v : Nat) (o : Origin) (n : Nat) (a : Option Int) (b : Bool) (p : Int) (s : State) :
    (writePulse t v o n a b p s).view = s.view := by
  unfold writePulse; split <;> simp

@[simp] theorem erasePulse_view (n : Nat) (p : Int) (s : State) : (erasePulse n p s).view = s.view := by
  unfold erasePulse; split <;> simp

@[simp] theorem markWritten_view (s : State) : (markWritten s).view = s.view := by
  simp only [markWritten]; split <;> simp

@[simp] theorem markReplayed_view (b : Bool) (d : Duty) (s : State) : (markReplayed b d s).1.view = s.view := by
  simp only [markReplayed]; (repeat' split) <;> simp

@[simp] theorem markGap_view (s : State) : (markGap s).1.view = s.view := by
  simp only [markGap]; (repeat' split) <;> simp

@[simp] theorem autoIndex_view (v : Nat) (o : Origin) (s : State) : (autoIndex v o s).view = s.view := by
  unfold autoIndex; split <;> rfl

@[simp] theorem markEmptied_view (s : State) : (markEmptied s).view = s.view := rfl

@[simp] theorem markSignal_view (b : Bool) (s : State) : (markSignal b s).view = s.view := by
  unfold markSignal; (repeat' split) <;> rfl

/-! ## SERVO -/

@[simp] theorem loopsFollow_view (s : State) : (loopsFollow s).view = s.view := by
  simp only [loopsFollow]; split <;> simp

@[simp] theorem slip_view (s : State) : (slip s).view = s.view := rfl

@[simp] theorem drumFgLost_view (s : State) : (drumFgLost s).view = s.view := by
  simp only [drumFgLost]; split <;> simp

@[simp] theorem drumFgPeriod_view (a b : Bool) (s : State) : (drumFgPeriod a b s).view = s.view := by
  simp only [drumFgPeriod]; (repeat' split) <;> simp

@[simp] theorem drumRevolution_view (a b : Bool) (s : State) : (drumRevolution a b s).view = s.view := by
  simp only [drumRevolution]; (repeat' split) <;> simp

@[simp] theorem drumFg_view (n : Nat) (s : State) : (drumFg n s).view = s.view := by simp [drumFg]
@[simp] theorem drumPg_view (n : Int) (s : State) : (drumPg n s).view = s.view := by simp [drumPg]
@[simp] theorem drumFgMissing_view (s : State) : (drumFgMissing s).view = s.view := by simp [drumFgMissing]
@[simp] theorem drumPgMissing_view (s : State) : (drumPgMissing s).view = s.view := by simp [drumPgMissing]
@[simp] theorem phaseFollow_view (s : State) : (phaseFollow s).view = s.view := rfl

@[simp] theorem capstanFg_view (n : Nat) (s : State) : (capstanFg n s).view = s.view := by
  unfold capstanFg; split <;> simp

@[simp] theorem testReference_view (s : State) : (testReference s).view = s.view := by
  simp only [testReference]; split <;> simp

@[simp] theorem syncPulse_view (x : Source) (n : Nat) (s : State) : (syncPulse x n s).1.view = s.view := by
  simp only [syncPulse]; split <;> simp

@[simp] theorem syncAbsent_view (x : Source) (s : State) : (syncAbsent x s).view = s.view := by
  unfold syncAbsent; split <;> simp

@[simp] theorem envelopeSample_view (b : Bool) (v : Nat) (s : State) : (envelopeSample b v s).view = s.view := by
  simp only [envelopeSample]; (repeat' split) <;> simp

@[simp] theorem speedBoundary_view (s : State) : (speedBoundary s).view = s.view := by
  unfold speedBoundary
  split
  · rfl
  · simp only []; rw [report_view _ _ (by simp)]; split <;> simp

@[simp] theorem frameBoundary_view (n : Nat) (s : State) : (frameBoundary n s).view = s.view := by
  simp only [frameBoundary]; split <;> simp

@[simp] theorem takePlaySpeed_view (s : State) : (takePlaySpeed s).view = s.view := by
  unfold takePlaySpeed; split <;> simp

@[simp] theorem collectInterval_view (n : Nat) (s : State) : (collectInterval n s).view = s.view := rfl
@[simp] theorem capstanPhase_view (n : Int) (s : State) : (capstanPhase n s).view = s.view := rfl

@[simp] theorem servoPulse_view (p : Int) (n : Nat) (s : State) : (servoPulse p n s).view = s.view := by
  simp only [servoPulse]; split <;> simp

@[simp] theorem phaseGap_view (s : State) : (phaseGap s).view = s.view := by
  unfold phaseGap; split <;> simp

@[simp] theorem speedGap_view (s : State) : (speedGap s).view = s.view := by
  unfold speedGap; split <;> simp

@[simp] theorem servoEnter_view (m : MState) (b : Bool) (s : State) : (servoEnter m b s).view = s.view := by
  simp [servoEnter, playFollow, sessionFollow]

@[simp] theorem servoSupplyLost_view (s : State) : (servoSupplyLost s).view = s.view := rfl
@[simp] theorem trackingInserted_view (s : State) : (trackingInserted s).view = s.view := rfl

@[simp] theorem autoSpeed_view (v : Speed) (s : State) : (autoSpeed v s).view = s.view := by
  unfold autoSpeed; (repeat' split) <;> simp

/-! ## CLOCK and LDD -/

@[simp] theorem clockStep_view (t : DateTime) (n : Nat) (c : ClockState) (e : StepCause) (s : State) :
    (clockStep t n c e s).view = s.view := by
  simp [clockStep]

@[simp] theorem clockBoundary_view (s : State) : (clockBoundary s).view = s.view := by
  simp only [clockBoundary]; (repeat' split) <;> simp

@[simp] theorem clockToBoundary_view (s : State) : (clockToBoundary s).view = s.view := rfl

@[simp] theorem clockCycle_view (s : State) : (clockCycle s).view = s.view := by
  simp only [clockCycle]; split <;> simp

@[simp] theorem clockConfirmed_view (t n : Nat) (s : State) : (clockConfirmed t n s).view = s.view := by
  simp only [clockConfirmed]; (repeat' split) <;> simp

@[simp] theorem lddActivity_view (s : State) : (lddActivity s).view = s.view := rfl

@[simp] theorem labelSideReset_view (s : State) : (labelSideReset s).view = s.view := by
  simp only [labelSideReset]; split <;> simp

@[simp] theorem lddRetune_view (n : Option Nat) (s : State) : (lddRetune n s).view = s.view := by simp [lddRetune]

@[simp] theorem learnCode_view (l : Label) (s : State) : (learnCode l s).1.view = s.view := by
  unfold learnCode; (repeat' split) <;> rfl

@[simp] theorem labelAccepted_view (k : LabelKind) (l : Label) (s : State) : (labelAccepted k l s).view = s.view := by
  unfold labelAccepted; cases k <;> simp

@[simp] theorem classifyLabel_view (l : Label) (s : State) : (classifyLabel l s).view = s.view := by
  simp only [classifyLabel]; (repeat' split) <;> simp

@[simp] theorem labelReceived_view (l : Label) (s : State) : (labelReceived l s).view = s.view := by
  simp only [labelReceived]; split <;> simp

@[simp] theorem labelTimer_view (s : State) : (labelTimer s).view = s.view := by
  unfold labelTimer; split <;> simp

@[simp] theorem timeReceived_view (f : TimeFields) (s : State) : (timeReceived f s).view = s.view := by
  simp only [timeReceived]; (repeat' split) <;> simp

@[simp] theorem linePacket_view (p : Packet) (s : State) : (linePacket p s).view = s.view := by
  unfold linePacket badPacket goodPacket; (repeat' split) <;> simp

/-! ## BOX -/

@[simp] theorem boxTransmit_view (s : State) : (boxTransmit s).view = s.view := by
  unfold boxTransmit; split <;> simp

@[simp] theorem boxEnqueue_view (p : BoxProfile) (l : List Nat) (o : Origin) (s : State) : (boxEnqueue p l o s).view = s.view := by
  simp [boxEnqueue]

@[simp] theorem boxFrameSent_view (s : State) : (boxFrameSent s).view = s.view := by
  unfold boxFrameSent; split <;> simp

@[simp] theorem panelSequence_view (c : Nat) (s : State) : (panelSequence c s).1.view = s.view := by
  simp only [panelSequence]; (repeat' split) <;> simp

@[simp] theorem dropDeferred_view (s : State) : (dropDeferred s).view = s.view := rfl

@[simp] theorem trySequence_view (d : Deferred) (s : State) : (trySequence d s).view = s.view := by
  simp only [trySequence]; (repeat' split) <;> simp

@[simp] theorem timerSequence_view (d : Deferred) (s : State) : (timerSequence d s).view = s.view := by
  unfold timerSequence; split <;> simp

@[simp] theorem boxRetry_view (s : State) : (boxRetry s).view = s.view := by
  unfold boxRetry; (repeat' split) <;> simp

@[simp] theorem boxFlush_view (s : State) : (boxFlush s).view = s.view := by
  simp only [boxFlush]; split <;> simp

@[simp] theorem outletSwitchOn_view (p : OutletPlan) (s : State) : (outletSwitchOn p s).view = s.view := by
  simp only [outletSwitchOn]; split <;> simp

@[simp] theorem outletSwitchOff_view (k : Nat) (p : Timepoint) (s : State) : (outletSwitchOff k p s).view = s.view := by
  simp only [outletSwitchOff]; split <;> simp

@[simp] theorem outletOffPoint_view (k : Nat) (p : Timepoint) (s : State) : (outletOffPoint k p s).view = s.view := by
  unfold outletOffPoint; split <;> simp

@[simp] theorem outletOnPoint_view (k : Nat) (p : Timepoint) (s : State) : (outletOnPoint k p s).view = s.view := by
  unfold outletOnPoint; (repeat' split) <;> simp

@[simp] theorem timepoint_view (k : Nat) (p : Timepoint) (s : State) : (timepoint k p s).view = s.view := by
  simp only [timepoint]; (repeat' split) <;> simp

@[simp] theorem outletMinimum_view (s : State) : (outletMinimum s).view = s.view := by
  simp only [outletMinimum]; (repeat' split) <;> simp

/-! ## Searches and the link -/

@[simp] theorem setSearch_view (q : Option Search) (s : State) : (setSearch q s).view = s.view := rfl

@[simp] theorem searchEnd_view (r : SearchResult) (w : SearchWhy) (s : State) : (searchEnd r w s).view = s.view := by
  unfold searchEnd; split <;> simp

@[simp] theorem searchCancel_view (b : Bool) (s : State) : (searchCancel b s).view = s.view := by
  unfold searchCancel; split <;> simp

@[simp] theorem searchPulse_view (s : State) : (searchPulse s).view = s.view := by
  unfold searchPulse; (repeat' split) <;> simp

@[simp] theorem searchInterrupted_view (w : SearchWhy) (s : State) : (searchInterrupted w s).view = s.view := by
  unfold searchInterrupted; (repeat' split) <;> simp

@[simp] theorem searchLeader_view (s : State) : (searchLeader s).view = s.view := by simp [searchLeader]

@[simp] theorem replyWith_view (k : Byte) (r : State × Answer) : (replyWith k r).view = r.1.view := rfl
@[simp] theorem receiverTo_view (r : Receiver) (s : State) : (receiverTo r s).view = s.view := rfl
@[simp] theorem abandon_view (r : Receiver) (s : State) : (abandon r s).view = s.view := rfl
@[simp] theorem transmit_view (s : State) : (transmit s).view = s.view := rfl
@[simp] theorem restTimers_view (s : State) : (restTimers s).view = s.view := rfl

@[simp] theorem done_view (s : State) (d : List Byte) : (done s d).1.view = s.view := rfl
@[simp] theorem accepted_view (s : State) (d : List Byte) : (accepted s d).1.view = s.view := rfl
@[simp] theorem refuse_view (s : State) (r : Reason) (d : List Byte) : (refuse s r d).1.view = s.view := rfl

end Sys2Proof.Machine

/-!
Sys2Proof/Proofs/Work: what every function of MECH, of the tape's frames and of the searches may do to the view, said once for each
function: the relation Work.
-/

namespace Sys2Proof.Machine

/-! ## The relation -/

/-- R188: supply-good, read from the view. -/
def Footing.good (f : Footing) : Bool :=
  match f.phase with
  | .up => true
  | .stopping => true
  | _ => false

/-- R3: the record amplifier is on in RECORD only. -/
def Deck.amp (d : Deck) : Prop := d.recAmp = true → d.state = .record

/-- R16, R17: a junction operation runs in REC_PAUSE only. -/
def Deck.joined (d : Deck) : Prop := d.junction.isSome = true → d.state = .recPause

/-- What the tape's blocks may do to the view: PWR, the programme and the reported losses stay, the owner stays or changes between
NONE and PANEL, the record amplifier stays off outside RECORD, and a junction operation within REC_PAUSE. -/
structure View.Work (v w : View) : Prop where
  footing : w.footing = v.footing
  owner   : w.deck.owner = v.deck.owner ∨ (v.deck.owner.isTimer = false ∧ w.deck.owner.isTimer = false)
  amp     : v.deck.amp → w.deck.amp
  joined  : v.deck.joined → w.deck.joined

/-- The tape's blocks have worked from one state to another. -/
abbrev Work (r s : State) : Prop := View.Work r.view s.view

theorem View.Work.refl (v : View) : View.Work v v := ⟨rfl, .inl rfl, id, id⟩

theorem View.Work.trans {u v w : View} (h : View.Work u v) (k : View.Work v w) : View.Work u w where
  footing := k.footing.trans h.footing
  owner := by
    rcases k.owner with hk | ⟨hk, hk'⟩
    · rw [hk]; exact h.owner
    · rcases h.owner with hh | ⟨hh, -⟩
      · exact .inr ⟨hh ▸ hk, hk'⟩
      · exact .inr ⟨hh, hk'⟩
  amp a := k.amp (h.amp a)
  joined j := k.joined (h.joined j)

/-- A state with the same view. -/
theorem Work.same {r s t : State} (h : Work r s) (e : t.view = s.view) : Work r t := by rwa [Work, e]

/-- TUNER's part may be anything. -/
theorem Work.ground {r s t : State} (h : Work r s) (e : t.view.ground = s.view.ground) : Work r t := by
  obtain ⟨ef, ed⟩ := Prod.mk.injEq .. ▸ e
  exact ⟨ef ▸ h.footing, ed ▸ h.owner, ed ▸ h.amp, ed ▸ h.joined⟩

/-- Only MECH's part changes, the owner, the state, the amplifier and the junction operation staying as they are. -/
theorem Work.deck {r s t : State} (h : Work r s) (hf : t.view.footing = s.view.footing)
    (ho : t.view.deck.owner = s.view.deck.owner) (hs : t.view.deck.state = s.view.deck.state)
    (ha : t.view.deck.recAmp = s.view.deck.recAmp) (hj : t.view.deck.junction = s.view.deck.junction) : Work r t :=
  h.trans ⟨hf, .inl ho, by simp [Deck.amp, hs, ha], by simp [Deck.joined, hs, hj]⟩

/-! ## The cam, the drives and the states -/

/-- Modifying an element of a list changes no image under which the modification is unseen. -/
theorem map_modify_unseen {α β : Type} (g : α → β) (f : α → α) (h : ∀ a, g (f a) = g a) (i : Nat) (l : List α) :
    (l.modify i f).map g = l.map g := by
  apply List.ext_getElem?
  intro j
  simp only [List.getElem?_map, List.getElem?_modify]
  cases l[j]? with
  | none => rfl
  | some a => by_cases hij : i = j <;> simp [hij, h]

@[simp] theorem recordStopped_view (s : State) : (recordStopped s).view = s.view := by
  unfold recordStopped
  split
  · rfl
  · next h hh =>
    split
    · rfl
    · have : ∀ f : Occurrence → Occurrence, (s.sched.slots.modify (h.slot - 1) fun k => { k with occ := k.occ.map f }).map
          Slot.standing = s.sched.slots.map Slot.standing :=
        fun f => map_modify_unseen _ _ (fun k => by simp [Slot.standing]) _ _
      simp [State.view, State.footing, State.deck, State.radio, this, hh, Holder.place]

@[simp] theorem motionEnd_view (s : State) :
    (motionEnd s).view = { s.view with deck := { s.view.deck with motion := none } } := by
  unfold motionEnd
  split
  · next h => simp [State.view, State.deck, h]
  · simp [State.view, State.footing, State.deck, State.radio]

@[simp] theorem motionBegin_view (b : Bool) (s : State) :
    (motionBegin b s).view = { s.view with deck := { s.view.deck with motion := some { forward := b, start := s.now } } } := rfl

/-- R3: what entering a state does to the view. -/
@[simp] theorem setState_view (m : MState) (j : Option Junction) (b : Bool) (s : State) :
    (setState m j b s).view =
      { s.view with deck := { s.view.deck with state := m, junction := j, recAmp := decide (m = .record),
                                               motion := (motionOf m j).map fun f => { forward := f, start := s.now } } } := by
  have hold (x : State) (f : Mech → Mech) (h : ∀ y : Mech, (f y).owner = y.owner ∧ (f y).camTarget = y.camTarget ∧
      (f y).camTimer = y.camTimer ∧ (f y).inFlight = y.inFlight ∧ (f y).slot = y.slot ∧
      (f y).recoveryPending = y.recoveryPending) : (x.onMech f).view =
        { x.view with deck := { x.view.deck with state := (f x.mech).state, junction := (f x.mech).junction,
                                                 recAmp := (f x.mech).recAmp } } := by
    obtain ⟨h1, h2, h3, h4, h5, h6⟩ := h x.mech
    simp [State.view, State.footing, State.deck, State.radio, h1, h2, h3, h4, h5, h6]
  have hn (x : State) : x.now = x.clock.crystal := rfl
  simp only [setState]
  split <;> split <;> simp_all

@[simp] theorem driveCam_view (c : CamCode) (s : State) :
    (driveCam c s).view = { s.view with deck := { s.view.deck with camTarget := some c, camTimer := some s.now } } := rfl
@[simp] theorem readCam_view (s : State) : (readCam s).view = s.view := rfl
@[simp] theorem aimAt_view (m : MState) (s : State) : (aimAt m s).view = s.view := rfl
@[simp] theorem because_view (c : StateCause) (s : State) : (because c s).view = s.view := rfl
@[simp] theorem readTab_view (s : State) : (readTab s).view = s.view := rfl
@[simp] theorem motorOff_view (s : State) :
    (motorOff s).view = { s.view with deck := { s.view.deck with camTarget := none } } := rfl
@[simp] theorem moveEnded_view (s : State) :
    (moveEnded s).view = { s.view with deck := { s.view.deck with camTarget := none, camTimer := none } } := rfl
@[simp] theorem takesTime_view (c : Cmd) (s : State) :
    (takesTime c s).1.view = { s.view with deck := { s.view.deck with inFlight := some c } } := rfl
@[simp] theorem standardCurrent_view (s : State) : (standardCurrent s).view = s.view := rfl
@[simp] theorem posEmptied_view (s : State) :
    (posEmptied s).view = { s.view with deck := { s.view.deck with motion := none } } := rfl
@[simp] theorem posInserted_view (s : State) :
    (posInserted s).view = { s.view with deck := { s.view.deck with motion := none } } := rfl
@[simp] theorem emptyEffects_view (s : State) :
    (emptyEffects s).view = { s.view with deck := { s.view.deck with motion := none } } := rfl
@[simp] theorem seatEffects_view (s : State) :
    (seatEffects s).view = { s.view with deck := { s.view.deck with motion := none } } := rfl

@[simp] theorem clearFault_view (s : State) : (clearFault s).view = s.view := by unfold clearFault; split <;> rfl

@[simp] theorem standbyEnds_view (b : Bool) (s : State) : (standbyEnds b s).view = s.view := by
  unfold standbyEnds; split
  · rw [report_view _ _ (by simp)]; rfl
  · rfl

@[simp] theorem recoveryEnds_view (s : State) : (recoveryEnds s).view = s.view := by
  unfold recoveryEnds; split
  · rw [report_view _ _ (by simp)]; rfl
  · rfl

@[simp] theorem closeCmd_view (c : Cmd) (r : CloseResult) (s : State) : (closeCmd c r s).view = s.view := by
  unfold closeCmd; (repeat' split) <;> simp

@[simp] theorem closeInFlight_view (r : CloseResult) (s : State) :
    (closeInFlight r s).view = { s.view with deck := { s.view.deck with inFlight := none } } := by
  unfold closeInFlight; split
  · next h => simp [State.view, State.deck, h]
  · rw [closeCmd_view]; rfl

@[simp] theorem closeSlot_view (r : CloseResult) (s : State) :
    (closeSlot r s).view = { s.view with deck := { s.view.deck with slot := none } } := by
  unfold closeSlot; split
  · next h => simp [State.view, State.deck, h]
  · rw [closeCmd_view]; rfl

@[simp] theorem discardBoth_view (c : DiscardCause) (s : State) :
    (discardBoth c s).view = { s.view with deck := { s.view.deck with inFlight := none, slot := none } } := by
  simp [discardBoth]

@[simp] theorem storeCmd_view (c : Cmd) (s : State) :
    (storeCmd c s).view = { s.view with deck := { s.view.deck with slot := some c } } := by
  have h (x : State) : (x.onMech fun m => { m with slot := some c }).view =
      { x.view with deck := { x.view.deck with slot := some c } } := rfl
  rw [storeCmd, h, closeSlot_view]


/-! ## Work: the shared operations of MECH -/

section
variable {r s : State}

/-- An update of MECH that keeps owner, state and junction operation, and keeps the record amplifier or switches it off. -/
theorem Work.onMech (h : Work r s) (f : Mech → Mech) (ha : ∀ m, (f m).recAmp = m.recAmp ∨ (f m).recAmp = false)
    (ho : ∀ m, (f m).owner = m.owner := by intro; rfl) (hs : ∀ m, (f m).state = m.state := by intro; rfl)
    (hj : ∀ m, (f m).junction = m.junction := by intro; rfl) : Work r (s.onMech f) := by
  refine h.trans ⟨rfl, .inl (ho _), ?_, by simp [Deck.joined, State.view, State.deck, hs, hj]⟩
  rcases ha s.mech with ha | ha <;> simp [Deck.amp, State.view, State.deck, ha, hs]

/-- R3: entering a state keeps the record amplifier off outside RECORD, and has a junction operation in REC_PAUSE only. -/
theorem setState_work (h : Work r s) (m : MState) (j : Option Junction) (b : Bool) (hj : j.isSome = true → m = .recPause) :
    Work r (setState m j b s) := by
  refine h.trans ⟨by simp, .inl (by simp), ?_, ?_⟩
  · simp [Deck.amp]
  · simpa [Deck.joined] using fun _ => hj

theorem driveCam_work (h : Work r s) (c : CamCode) : Work r (driveCam c s) := h.onMech _ fun _ => .inl rfl
theorem moveEnded_work (h : Work r s) : Work r (moveEnded s) := by
  refine h.deck ?_ ?_ ?_ ?_ ?_ <;> rfl

theorem takesTime_work (h : Work r s) (c : Cmd) : Work r (takesTime c s).1 := h.onMech _ fun _ => .inl rfl

theorem closeInFlight_work (h : Work r s) (x : CloseResult) : Work r (closeInFlight x s) := by
  refine h.deck ?_ ?_ ?_ ?_ ?_ <;> simp

theorem closeSlot_work (h : Work r s) (x : CloseResult) : Work r (closeSlot x s) := by
  refine h.deck ?_ ?_ ?_ ?_ ?_ <;> simp

theorem discardBoth_work (h : Work r s) (c : DiscardCause) : Work r (discardBoth c s) :=
  closeSlot_work (closeInFlight_work h _) _

theorem storeCmd_work (h : Work r s) (c : Cmd) : Work r (storeCmd c s) := (closeSlot_work h _).onMech _ fun _ => .inl rfl

theorem emptyEffects_work (h : Work r s) : Work r (emptyEffects s) := by
  refine h.deck ?_ ?_ ?_ ?_ ?_ <;> simp

theorem notify_work (h : Work r s) (n : Notice) : Work r (notify n s) := h
theorem because_work (h : Work r s) (c : StateCause) : Work r (because c s) := h
theorem aimAt_work (h : Work r s) (m : MState) : Work r (aimAt m s) := h
theorem readCam_work (h : Work r s) : Work r (readCam s) := h
theorem readTab_work (h : Work r s) : Work r (readTab s) := h
theorem onLink_work (h : Work r s) (f : Link → Link) : Work r (s.onLink f) := h
theorem onServo_work (h : Work r s) (f : Servo → Servo) : Work r (s.onServo f) := h
theorem onMark_work (h : Work r s) (f : Mark → Mark) : Work r (s.onMark f) := h
theorem setSearch_work (h : Work r s) (q : Option Search) : Work r (setSearch q s) := h
theorem motorOff_work (h : Work r s) : Work r (motorOff s) := by
  refine h.deck ?_ ?_ ?_ ?_ ?_ <;> rfl

theorem report_work (h : Work r s) (x : Report) (hx : ∀ tag, x ≠ .supplyLost tag := by simp) : Work r (report x s) :=
  h.same (report_view x s hx)

/-- R11: the owner changes between NONE and PANEL. -/
theorem setOwner_work (h : Work r s) (o : Owner) (ho : o.isTimer = false) (hs : s.mech.owner.isTimer = false) :
    Work r (setOwner o s) := by
  unfold setOwner
  split
  · exact h
  · have hm : Work r (s.onMech fun m => { m with owner := o }) := h.trans ⟨rfl, .inr ⟨hs, ho⟩, id, id⟩
    exact report_work hm .evaluate

theorem claimPanel_work (h : Work r s) (o : Origin) : Work r (claimPanel o s) := by
  unfold claimPanel
  split
  · exact h
  · split
    · next hn => exact setOwner_work h _ rfl (by rw [hn]; rfl)
    · exact h

theorem settle_work (h : Work r s) : Work r (settle s) := by
  unfold settle
  split
  · next hp => exact setOwner_work h _ rfl (by rw [hp.2.2]; rfl)
  · exact h

theorem startShift_work (h : Work r s) (m : MState) (b : Bool) : Work r (startShift m b s) := by
  unfold startShift
  exact driveCam_work (aimAt_work (setState_work h _ _ _ (by simp)) _) _

theorem startThread_work (h : Work r s) (m : MState) : Work r (startThread m s) := by
  unfold startThread
  exact driveCam_work (aimAt_work (setState_work h _ _ _ (by simp)) _) _

theorem startUnthread_work (h : Work r s) (m : MState) : Work r (startUnthread m s) := by
  unfold startUnthread
  exact driveCam_work (aimAt_work (setState_work h _ _ _ (by simp)) _) _

theorem startEject_work (h : Work r s) : Work r (startEject s) := by
  unfold startEject
  exact (driveCam_work (aimAt_work (setState_work h _ _ _ (by simp)) _) _).onMech _ fun _ => .inl rfl

theorem startInsert_work (h : Work r s) : Work r (startInsert s) := by
  unfold startInsert
  exact driveCam_work (aimAt_work (setState_work h _ _ _ (by simp)) _) _

/-! ## Work: stops (R21, R22, R25, R86) -/

theorem endLeaderStop_work (h : Work r s) : Work r (endLeaderStop s) := by
  unfold endLeaderStop
  refine because_work (startShift_work (report_work (report_work (notify_work (onLink_work (closeInFlight_work ?_ _) _) _) _) _) _ _) _
  exact h.onMech _ fun _ => .inr rfl

theorem endLeaderTest_work (h : Work r s) : Work r (endLeaderTest s) := by
  unfold endLeaderTest; split
  · exact endLeaderStop_work h
  · exact h

theorem startLeaderStop_work (h : Work r s) : Work r (startLeaderStop s) := by
  unfold startLeaderStop
  refine because_work (startShift_work (report_work ?_ _) _ _) _
  exact h.onMech _ fun _ => .inl rfl

theorem memoryStop_work (h : Work r s) : Work r (memoryStop s) := by
  unfold memoryStop; split
  · exact h
  · exact report_work (because_work (startShift_work h _ _) _) _

theorem protectStop_work (h : Work r s) : Work r (protectStop s) := by
  unfold protectStop
  exact because_work (startShift_work (closeInFlight_work h _) _ _) _

theorem recordGuard_work (h : Work r s) : Work r (recordGuard s) := by
  unfold recordGuard
  split
  · split
    · exact h
    · simp only []
      split
      · exact report_work (onMark_work h _) _
      · exact protectStop_work (notify_work (onMark_work h _) _)
  · exact h

/-! ## Work: the execution of commands (R6 to R9, R14, R15, R18) -/

theorem atOnce_work (h : Work r s) (m : MState) : Work r (atOnce m s).1 := by
  unfold atOnce; dsimp only; split
  · exact h
  · exact setState_work h _ _ _ (by simp)

theorem goTo_work (h : Work r s) (c : Cmd) (m : MState) : Work r (goTo c m s).1 := by
  unfold goTo
  apply takesTime_work
  split
  · exact startThread_work h _
  · exact startShift_work h _ _

theorem freedAtOnce_work (h : Work r s) : Work r (freedAtOnce s) := by
  unfold freedAtOnce
  exact settle_work ((emptyEffects_work (setState_work (readCam_work h) _ _ _ (by simp))).onMech _ fun _ => .inl rfl)

theorem ejectWork_work (h : Work r s) : Work r (ejectWork s) := by
  have hr : Work r (readCam s) := readCam_work h
  unfold ejectWork
  split
  · exact startEject_work h
  · simp only []
    split
    · exact (motorOff_work (startEject_work hr)).onMech _ fun _ => .inl rfl
    · split
      · exact startEject_work hr
      · exact startUnthread_work hr _
  · exact startUnthread_work h _

theorem junctionWork_work (h : Work r s) (c : Cmd) (j : Junction) : Work r (junctionWork c j s).1 :=
  takesTime_work (setState_work h _ _ _ (by simp)) _

theorem mechWork_work (h : Work r s) (c : Cmd) : Work r (mechWork c s).1 := by
  have hAt := fun m => atOnce_work h m
  have hGo := fun m => goTo_work h c m
  have hJoin := fun j => junctionWork_work h c j
  unfold mechWork
  cases c.what with
  | play => dsimp only; split <;> simp only [hAt, hGo]
  | cue => dsimp only; split <;> simp only [hAt, hGo]
  | review => dsimp only; split <;> simp only [hAt, hGo]
  | fwind => dsimp only; split <;> simp only [hAt, hGo]
  | rwind => dsimp only; split <;> simp only [hAt, hGo]
  | stop =>
    dsimp only; split
    · exact hAt _
    · split
      · exact takesTime_work (startUnthread_work h _) _
      · exact takesTime_work (startShift_work h _ _) _
  | eject =>
    dsimp only; split
    · exact freedAtOnce_work h
    · exact takesTime_work (ejectWork_work h) _
  | pause => dsimp only; split <;> simp only [hAt, hJoin]
  | record =>
    dsimp only; split
    · exact hAt _
    · split <;> simp only [hAt, hJoin]
    · exact hGo _

theorem execute_work (h : Work r s) (c : Cmd) : Work r (execute c s).1 := by
  have hc : Work r (clearFault s) := h.same (by simp)
  unfold execute
  split
  · exact h
  · dsimp only
    apply mechWork_work
    split
    · exact hc
    · exact hc
    · exact claimPanel_work hc _

theorem closeCmd_work (h : Work r s) (c : Cmd) (x : CloseResult) : Work r (closeCmd c x s) := h.same (by simp)

theorem runSlot_work (h : Work r s) : Work r (runSlot s) := by
  unfold runSlot
  split
  · exact h
  · have h1 : Work r (s.onMech fun m => { m with slot := none }) := h.onMech _ fun _ => .inl rfl
    dsimp only
    split
    · exact report_work h1 _
    · split
      · exact closeCmd_work (execute_work h1 _) _ _
      · exact closeCmd_work (execute_work h1 _) _ _
      · exact execute_work h1 _

theorem complete_work (h : Work r s) : Work r (complete s) := settle_work (runSlot_work (closeInFlight_work h _))

theorem cutShort_work (h : Work r s) : Work r (cutShort s) :=
  (closeSlot_work (closeInFlight_work h .superseded) .superseded).same (clearFault_view _)

theorem submit_work (h : Work r s) (c : Cmd) : Work r (submit c s).1 := by
  unfold submit
  split
  · exact h
  · split
    · exact execute_work h c
    · split
      · split
        · exact h
        · split
          · exact takesTime_work (startShift_work (cutShort_work h) .halt false) c
          · split
            · dsimp only
              exact setState_work (cutShort_work h) .recPause none false (by simp)
            · dsimp only
              exact storeCmd_work h c
      · exact execute_work h c

/-! ## Work: movements and their ends (R1, R4, R15 to R17, R27 to R29) -/

theorem standbyEnds_work (h : Work r s) (b : Bool) : Work r (standbyEnds b s) := h.same (by simp)
theorem recoveryEnds_work (h : Work r s) : Work r (recoveryEnds s) := h.same (by simp)

theorem becomeEmpty_work (h : Work r s) : Work r (becomeEmpty s) := by
  have h2 := closeInFlight_work ((emptyEffects_work (setState_work (moveEnded_work h) .empty none false (by simp))).onMech
    (fun m => { m with fault := .none, cause := none, ejectRead := false }) fun _ => .inl rfl) (.done .empty)
  unfold becomeEmpty
  refine standbyEnds_work (recoveryEnds_work (settle_work (runSlot_work ?_))) _
  split
  · exact notify_work h2 _
  · exact h2

theorem autoplay_work (h : Work r s) : Work r (autoplay s) := by
  unfold autoplay; split
  · exact execute_work h _
  · exact h

theorem seatEffects_work (h : Work r s) : Work r (seatEffects s) := by
  refine h.deck ?_ ?_ ?_ ?_ ?_ <;> simp

theorem seated_work (h : Work r s) : Work r (seated s) := by
  have h1 : Work r (seatEffects (readTab (setState .idle none false (moveEnded s)))) :=
    seatEffects_work (readTab_work (setState_work (moveEnded_work h) _ _ _ (by simp)))
  have h2 := h1.onMech (fun m => { m with cause := none }) fun _ => .inl rfl
  unfold seated
  refine standbyEnds_work (recoveryEnds_work (settle_work ?_)) _
  split
  · exact autoplay_work (runSlot_work (notify_work h2 _))
  · exact runSlot_work (notify_work h2 _)

theorem reachIdle_work (h : Work r s) : Work r (reachIdle s) := by
  have h1 := setState_work (moveEnded_work h) .idle none false (by simp)
  unfold reachIdle
  refine standbyEnds_work (recoveryEnds_work (settle_work (runSlot_work ?_))) _
  have h3 : Work r ((if s.mech.recoveryRun then readTab (setState .idle none false (moveEnded s))
      else setState .idle none false (moveEnded s)).onMech fun m => { m with cause := none }) := by
    refine Work.onMech ?_ _ fun _ => .inl rfl
    split
    · exact readTab_work h1
    · exact h1
  split
  · exact closeInFlight_work h3 _
  · exact h3
  · exact notify_work h3 _

theorem afterEndLeader_work (h : Work r s) : Work r (afterEndLeader s) := by
  unfold afterEndLeader
  dsimp only
  split
  · split
    · exact notify_work h _
    · exact execute_work h _
  · exact notify_work h _

theorem reachHalt_work (h : Work r s) : Work r (reachHalt s) := by
  have h1 := (setState_work (moveEnded_work h) .halt none false (by simp)).onMech (fun m => { m with cause := none }) fun _ => .inl rfl
  unfold reachHalt
  dsimp only
  split
  · exact complete_work h1
  · apply settle_work
    split
    · exact runSlot_work h1
    · split
      · exact runSlot_work h1
      · exact afterEndLeader_work h1
    · split
      · exact runSlot_work h1
      · exact notify_work h1 _
    · exact runSlot_work (notify_work h1 _)

@[simp] theorem recordIndex_view (o : Option Origin) (s : State) : (recordIndex o s).view = s.view := by
  unfold recordIndex; (repeat' split) <;> simp

theorem startRecording_work (h : Work r s) : Work r (startRecording s) := by
  have h2 : Work r (endLeaderTest (recordGuard (report .recordEntered ((setState .record none false s).onMark fun m =>
      { m with guardDone := false })))) :=
    endLeaderTest_work (recordGuard_work (report_work (onMark_work (setState_work h _ _ _ (by simp)) _) _))
  unfold startRecording
  dsimp only
  split
  · exact complete_work (h2.same (by simp))
  · exact h2

theorem junctionRest_work (h : Work r s) : Work r (junctionRest s) := complete_work (setState_work h _ _ _ (by simp))

theorem junctionTest_work (h : Work r s) : Work r (junctionTest s) := by
  unfold junctionTest
  split
  · exact h
  · split
    · exact junctionRest_work h
    · exact h
  · split
    · split
      · split
        · exact junctionRest_work h
        · exact startRecording_work h
      · exact h
    · exact h
  · split
    · exact startRecording_work h
    · exact h

theorem reachTarget_work (h : Work r s) : Work r (reachTarget s) := by
  have h1 := moveEnded_work h
  unfold reachTarget
  split
  · exact reachHalt_work h
  · exact endLeaderTest_work (setState_work h1 _ _ _ (by simp))
  · have h2 := endLeaderTest_work (setState_work h1 s.mech.target none false (by simp))
    dsimp only
    split
    · exact complete_work h2
    · exact h2

theorem recoverAtEject_work (h : Work r s) : Work r (recoverAtEject s) := by
  unfold recoverAtEject; split
  · exact startInsert_work h
  · exact becomeEmpty_work h

theorem camArrived_work (h : Work r s) : Work r (camArrived s) := by
  unfold camArrived
  split
  · exact seated_work h
  · split
    · exact reachHalt_work h
    · exact startShift_work (moveEnded_work h) _ _
  · exact reachTarget_work h
  · split
    · exact startEject_work (moveEnded_work h)
    · exact reachIdle_work h
  · have h1 : Work r ((motorOff s).onMech fun m => { m with ejectRead := true }) := by
      refine h.deck ?_ ?_ ?_ ?_ ?_ <;> rfl
    dsimp only
    split
    · exact h1
    · exact becomeEmpty_work h1
  · exact h

theorem camReports_work (h : Work r s) (c : CamCode) : Work r (camReports c s) := by
  unfold camReports
  split
  · exact h
  · have h1 : Work r (if c = 7 then s else s.onMech fun m => { m with lastCode := some c }) := by
      split
      · exact h
      · exact h.onMech _ fun _ => .inl rfl
    dsimp only
    split
    · exact camArrived_work h1
    · split
      · exact recoverAtEject_work (moveEnded_work h1)
      · exact h1

/-! ## Work: faults, switches, timers, supply (R4, R19 to R24, R27 to R31) -/

theorem jam_work (h : Work r s) : Work r (jam s) := by
  have h1 := (setState_work (moveEnded_work h) .jammed none false (by simp)).onMech
    (fun m => { m with fault := .camTimeout, cause := none }) fun _ => .inl rfl
  have h2 := notify_work (discardBoth_work h1 .camTimeout) (.mechFault .camTimeout .jammed)
  exact standbyEnds_work (recoveryEnds_work (report_work (report_work h2 _) _)) _

theorem camTimeout_work (h : Work r s) : Work r (camTimeout s) := by
  unfold camTimeout; split
  · exact jam_work h
  · exact h

theorem reelStall_work (h : Work r s) : Work r (reelStall s) := by
  unfold reelStall; split
  · have h1 := discardBoth_work (h.onMech (fun m => { m with reel := .off, recAmp := false }) fun _ => .inr rfl) .reelStall
    have h2 := h1.onMech (fun m => { m with fault := .reelStall, cause := none }) fun _ => .inl rfl
    exact startUnthread_work (report_work (report_work (notify_work h2 _) _) _) _
  · exact h

theorem faultMove_work (h : Work r s) : Work r (faultMove s) := by
  unfold faultMove
  split
  · exact aimAt_work h _
  · dsimp only
    refine Work.onMech ?_ _ fun _ => .inl rfl
    split
    · exact aimAt_work h _
    · exact driveCam_work (aimAt_work h _) _
  · exact settle_work h
  · exact startShift_work h _ _

theorem servoFault_work (h : Work r s) (f : FaultCode) : Work r (servoFault f s) := by
  unfold servoFault
  dsimp only
  split
  · have h1 := h.onMech (fun m => { m with fault := f, recAmp := false, reel := .off, cause := none }) fun _ => .inr rfl
    exact faultMove_work (discardBoth_work (report_work (report_work (notify_work h1 _) _) _) _)
  · exact notify_work (h.onMech (fun m => { m with fault := f }) fun _ => .inl rfl) _

theorem drumFault_work (h : Work r s) : Work r (drumFault s) := servoFault_work (h.same (by simp)) _
theorem capstanFault_work (h : Work r s) : Work r (capstanFault s) := servoFault_work (h.same (by simp)) _

theorem drumLockTimeout_work (h : Work r s) : Work r (drumLockTimeout s) := by
  unfold drumLockTimeout; split
  · exact drumFault_work h
  · exact h

theorem capstanLockTimeout_work (h : Work r s) : Work r (capstanLockTimeout s) := by
  unfold capstanLockTimeout; split
  · exact capstanFault_work h
  · exact h

theorem gateTimeout_work (h : Work r s) : Work r (gateTimeout s) := by
  unfold gateTimeout
  split
  · have h1 : Work r (s.onServo fun v => { v with gate := none }) := onServo_work h _
    dsimp only
    split
    · exact drumFault_work h1
    · split
      · exact capstanFault_work h1
      · exact h1
  · exact h

theorem guardTimeout_work (h : Work r s) : Work r (guardTimeout s) := by
  unfold guardTimeout; split
  · exact servoFault_work (onServo_work h _) _
  · exact h

theorem cassetteClosed_work (h : Work r s) : Work r (cassetteClosed s) := by
  unfold cassetteClosed; split
  · split
    · exact startInsert_work h
    · exact h
  · exact h

theorem cassetteOpened_work (h : Work r s) : Work r (cassetteOpened s) := by
  unfold cassetteOpened
  split
  · exact (startEject_work h).onMech _ fun _ => .inl rfl
  · split
    · exact becomeEmpty_work h
    · exact h
  · split
    · exact becomeEmpty_work (readCam_work h)
    · exact h
  · exact h

theorem startLeaderCovered_work (h : Work r s) : Work r (startLeaderCovered s) := by
  unfold startLeaderCovered
  split
  · exact startLeaderStop_work h
  · exact startLeaderStop_work h
  · split
    · exact junctionRest_work h
    · exact h
  · exact h

theorem stillTimeout_work (h : Work r s) : Work r (stillTimeout s) := by
  unfold stillTimeout; split
  · exact because_work (startShift_work h _ _) _
  · exact h

theorem haltTimeout_work (h : Work r s) : Work r (haltTimeout s) := by
  unfold haltTimeout; split
  · exact because_work (startUnthread_work h _) _
  · exact h

theorem recover_work (h : Work r s) : Work r (recover s) := by
  unfold recover
  split
  · have h1 : Work r ((readCam s).onMech fun m => { m with recoveryPending := false, recoveryRun := true }) :=
      (readCam_work h).onMech _ fun _ => .inl rfl
    dsimp only
    split
    · exact recoverAtEject_work h1
    · split
      · exact reachIdle_work h1
      · exact startUnthread_work h1 _
  · exact h

@[simp] theorem posSupplyLost_view (s : State) :
    (posSupplyLost s).view = { s.view with deck := { s.view.deck with motion := none } } := by
  unfold posSupplyLost; split
  · simp
  · next h =>
    have : s.pos.motion = none := by simpa using h
    simp [State.view, State.deck, this]

theorem mechSupplyLost_work (h : Work r s) : Work r (mechSupplyLost s) := by
  have h1 : Work r (posSupplyLost (markAbort .supply s)) := by
    refine h.deck ?_ ?_ ?_ ?_ ?_ <;> simp
  have h4 (m : MState) (f : FaultCode) := report_work (discardBoth_work
    ((setState_work (moveEnded_work h1) m none false (by simp)).onMech (fun m =>
      { m with recoveryPending := true, recoveryRun := false, standbyStop := false, cause := none, ejectRead := false,
               still := none, halt := none, fault := f }) fun _ => .inl rfl) .supply) (.interrupted (.cause .supply))
  simp only [mechSupplyLost]
  apply settle_work
  split
  · exact h4 _ _
  · exact emptyEffects_work (h4 _ _)

theorem mechStandbyStop_work (h : Work r s) : Work r (mechStandbyStop s) := by
  have h1 : Work r ((discardBoth .standby s).onMech fun m =>
      { m with standbyStop := true, cause := if s.mech.state = .unthreading then m.cause else none, recAmp := false }) :=
    (discardBoth_work h _).onMech _ fun _ => .inr rfl
  unfold mechStandbyStop
  dsimp only
  split
  · exact standbyEnds_work h1 _
  · exact standbyEnds_work h1 _
  · exact standbyEnds_work h1 _
  · exact h1
  · exact h1
  · exact aimAt_work h1 _
  · exact startUnthread_work h1 _

/-! ## Work: searches (R87 to R93) -/

theorem searchIssue_work (h : Work r s) (q : Search) (c : MechCmd) : Work r (searchIssue q c s) := by
  have h1 := submit_work (h.same (setSearch_view (some { q with waiting := some c }) s))
    { what := c, origin := .search, tag := q.tag }
  unfold searchIssue
  dsimp only
  split
  · exact h1
  · exact report_work h1 _
  · exact h1.same (by simp)

theorem searchSettled_work (h : Work r s) (q : Search) : Work r (searchSettled q s) := by
  unfold searchSettled; split
  · exact searchIssue_work h _ _
  · exact h.same (by simp)

theorem searchSettle_work (h : Work r s) (q : Search) : Work r (searchSettle q s) := searchIssue_work h _ _

theorem searchCompare_work (h : Work r s) (q : Search) (t : Int) : Work r (searchCompare q t s) := by
  unfold searchCompare; split
  · exact searchIssue_work h _ _
  · split
    · exact searchIssue_work h _ _
    · exact searchSettled_work h _

theorem searchAdvance_work (h : Work r s) (q : Search) : Work r (searchAdvance q s) := by
  have h1 : Work r (setSearch (some { q with waiting := none }) s) := setSearch_work h _
  unfold searchAdvance
  dsimp only
  split
  · exact h1
  · exact h1
  · exact h1
  · split
    · exact h1
    · exact searchCompare_work h1 _ _
  · exact searchSettled_work h1 _
  · split
    · exact setSearch_work h1 _
    · exact h1.same (by simp)

theorem searchClosed_work (h : Work r s) (tag : Nat) (c : MechCmd) (x : CloseResult) : Work r (searchClosed tag c x s) := by
  unfold searchClosed
  split
  · exact h
  · split
    · split
      · exact searchAdvance_work h _
      · exact h.same (by simp)
      · exact h
      · exact h.same (by simp)
      · exact h.same (by simp)
    · exact h

theorem searchCounter_work (h : Work r s) : Work r (searchCounter s) := by
  unfold searchCounter
  split
  · exact h
  · split
    · exact h
    · split
      · split
        · exact searchSettle_work h _
        · exact h
      · split
        · exact searchIssue_work h _ _
        · exact h
      · exact h

theorem searchMark_work (h : Work r s) (t : MarkType) (p : Int) : Work r (searchMark t p s) := by
  unfold searchMark
  split
  · exact h
  · split
    · split
      · split
        · dsimp only
          split
          · exact searchSettle_work h _
          · exact setSearch_work h _
        · exact h
      · exact searchSettle_work h _
      · exact h
    · exact h

theorem handleMarks_work (l : List MarkRead) (h : Work r s) : Work r (handleMarks l s) := by
  induction l generalizing s with
  | nil => exact h
  | cons x l ih => exact ih (searchCounter_work (searchMark_work (h.same (handleMark_view x s)) _ _))

theorem blankTimeout_work (h : Work r s) : Work r (blankTimeout s) := by
  unfold blankTimeout
  split
  · exact h
  · split
    · exact searchSettle_work h _
    · exact h

theorem scanPlayTimeout_work (h : Work r s) : Work r (scanPlayTimeout s) := by
  unfold scanPlayTimeout
  split
  · exact h
  · split
    · exact searchIssue_work h _ _
    · exact h

/-! ## Work: frames (R25, R40, R52 to R57, R75, R165) -/

theorem memoryTest_work (h : Work r s) (a b : Int) : Work r (memoryTest a b s) := by
  unfold memoryTest; split
  · exact memoryStop_work h
  · exact h

@[simp] theorem skipTest_view (s : State) : (skipTest s).view = s.view := by
  unfold skipTest; (repeat' split) <;> simp

theorem afterCount_work (h : Work r s) (a b : Int) : Work r (afterCount a b s) :=
  junctionTest_work ((searchCounter_work (memoryTest_work h a b)).same (by simp))

theorem payFrames_work (n : Nat) (h : Work r s) : Work r (payFrames n s) := by
  induction n generalizing s with
  | zero => exact h
  | succ n ih =>
    unfold payFrames
    split
    · exact h
    · exact ih (afterCount_work (h.same (by simp)) _ _)

theorem capstanCount_work (h : Work r s) : Work r (capstanCount s) := by
  unfold capstanCount
  split
  · exact h
  · split
    · dsimp only
      split
      · exact h.same rfl
      · exact payFrames_work _ (h.same rfl)
      · exact h
    · exact h

theorem capstanPulse_work (h : Work r s) (n : Nat) : Work r (capstanPulse n s) :=
  capstanCount_work (junctionTest_work (h.same (by simp)))

theorem posGap_work (h : Work r s) : Work r (posGap s) := by
  unfold posGap
  split
  · split
    · exact h.same rfl
    · split
      · exact payFrames_work _ (h.same rfl)
      · exact h
  · exact h

theorem motionPulse_work (h : Work r s) (b : Bool) (d : Nat) (p : Int) (n e : Nat) : Work r (motionPulse b d p n e s) := by
  unfold motionPulse
  dsimp only
  refine afterCount_work (handleMarks_work _ (h.same ?_)) _ _
  rw [markReplayed_view, searchPulse_view, countPulse_view, servoPulse_view]
  split <;> simp

@[simp] theorem overshootPulse_view (b : Bool) (p : Int) (n : Nat) (s : State) : (overshootPulse b p n s).view = s.view := by
  simp [overshootPulse]

theorem replayedPulse_work (h : Work r s) (d : Nat) (p : Int) (n e : Nat) : Work r (replayedPulse d p n e s) := by
  unfold replayedPulse
  split
  · exact h
  · split
    · exact motionPulse_work h _ _ _ _ _
    · exact h.same (by simp)
    · exact h

theorem writtenPulse_work (h : Work r s) : Work r (writtenPulse s) :=
  afterCount_work (recordGuard_work (h.same (by simp))) _ _

theorem referenceEdge_work (h : Work r s) (e : Nat) : Work r (referenceEdge e s) := by
  have h1 : Work r (frameBoundary e s) := h.same (by simp)
  unfold referenceEdge
  dsimp only
  apply junctionTest_work
  split
  · exact writtenPulse_work h1
  · exact h1

theorem vsync_work (h : Work r s) (x : Source) (n e : Nat) : Work r (vsync x n e s) := by
  have h1 : Work r (syncPulse x n s).1 := h.same (by simp)
  unfold vsync
  dsimp only
  split
  · exact referenceEdge_work h1 e
  · exact junctionTest_work h1

theorem internalEdge_work (h : Work r s) (e : Nat) : Work r (internalEdge e s) := by
  unfold internalEdge
  split
  · split
    · exact referenceEdge_work h e
    · exact h
  · split
    · exact h
    · exact h.same (by simp)

theorem markGapTimeout_work (h : Work r s) : Work r (markGapTimeout s) := by
  unfold markGapTimeout
  split
  · exact junctionTest_work (handleMarks_work _ (h.same (by simp)))
  · exact h

end

end Sys2Proof.Machine

/-!
Sys2Proof/Proofs/Rest: TUNER's functions leave all but TUNER's part of the view; and while the supply is down and the part at rest, no
function of the tape's blocks, of the searches and of TUNER changes the view.
-/

namespace Sys2Proof.Machine

/-! ## TUNER touches its own part of the view only -/

@[simp] theorem busAsk_ground (l : List Transaction) (s : State) : (busAsk l s).view.ground = s.view.ground := rfl
@[simp] theorem busAbandon_ground (s : State) : (busAbandon s).view.ground = s.view.ground := rfl
@[simp] theorem tunerTo_ground (x : TunerState) (s : State) : (tunerTo x s).view.ground = s.view.ground := rfl
@[simp] theorem tunerTimersOff_ground (s : State) : (tunerTimersOff s).view.ground = s.view.ground := rfl
@[simp] theorem settleAgain_ground (s : State) : (settleAgain s).view.ground = s.view.ground := rfl
@[simp] theorem countUnsettled_ground (x : ModuleStatus) (s : State) : (countUnsettled x s).view.ground = s.view.ground := rfl

@[simp] theorem writeDivider_ground (b : Bool) (s : State) : (writeDivider b s).view.ground = s.view.ground := by
  simp only [writeDivider]; (repeat' split) <;> simp

@[simp] theorem closeTune_ground (x : TuneResult) (s : State) : (closeTune x s).view.ground = s.view.ground := by
  simp only [closeTune]; (repeat' split) <;> simp

@[simp] theorem toNoSignal_ground (s : State) : (toNoSignal s).view.ground = s.view.ground := by simp [toNoSignal]

@[simp] theorem learnFine_ground (s : State) : (learnFine s).view.ground = s.view.ground := by
  unfold learnFine; (repeat' split) <;> simp

@[simp] theorem toLocked_ground (s : State) : (toLocked s).view.ground = s.view.ground := by simp [toLocked]

@[simp] theorem toNothing_ground (b : Bool) (s : State) : (toNothing b s).view.ground = s.view.ground := by
  simp only [toNothing]; split <;> simp

@[simp] theorem sendBox_ground (s : State) : (sendBox s).view.ground = s.view.ground := by
  simp only [sendBox]; (repeat' split) <;> simp

@[simp] theorem tuneStart_ground (s : State) : (tuneStart s).view.ground = s.view.ground := by
  simp only [tuneStart]; (repeat' split) <;> simp

@[simp] theorem tuneSoon_ground (s : State) : (tuneSoon s).view.ground = s.view.ground := by
  simp only [tuneSoon]; split <;> simp

@[simp] theorem tunerInit_ground (s : State) : (tunerInit s).view.ground = s.view.ground := by simp [tunerInit]

@[simp] theorem initWaited_ground (s : State) : (initWaited s).view.ground = s.view.ground := by
  unfold initWaited; split <;> simp

@[simp] theorem scanDone_ground (x : ScanEnd) (s : State) : (scanDone x s).view.ground = s.view.ground := by
  unfold scanDone; split <;> simp

@[simp] theorem scanEnd_ground (x : ScanEnd) (s : State) : (scanEnd x s).view.ground = s.view.ground := by
  simp only [scanEnd]; (repeat' split) <;> simp

@[simp] theorem requestTune_ground (x : Selection) (f : Option TuneInFlight) (b : Bool) (s : State) :
    (requestTune x f b s).view.ground = s.view.ground := by
  simp only [requestTune]; (repeat' split) <;> simp

@[simp] theorem aftStep_ground (b : Bool) (s : State) : (aftStep b s).view.ground = s.view.ground := by simp [aftStep]

@[simp] theorem restoreFine_ground (s : State) : (restoreFine s).view.ground = s.view.ground := by
  unfold restoreFine; split <;> simp

@[simp] theorem judgeTune_ground (x : ModuleStatus) (s : State) : (judgeTune x s).view.ground = s.view.ground := by
  simp only [judgeTune]; split <;> simp

@[simp] theorem driftStep_ground (b : Bool) (s : State) : (driftStep b s).view.ground = s.view.ground := by
  simp only [driftStep]; (repeat' split) <;> simp

@[simp] theorem watchLocked_ground (x : ModuleStatus) (s : State) : (watchLocked x s).view.ground = s.view.ground := by
  simp only [watchLocked]; (repeat' split) <;> simp

@[simp] theorem watchNoSignal_ground (x : ModuleStatus) (s : State) : (watchNoSignal x s).view.ground = s.view.ground := by
  unfold watchNoSignal; (repeat' split) <;> simp

@[simp] theorem scanChannel_ground (s : State) : (scanChannel s).view.ground = s.view.ground := by
  unfold scanChannel; split <;> simp

@[simp] theorem scanAdvance_ground (c : Scan) (s : State) : (scanAdvance c s).view.ground = s.view.ground := by
  simp only [scanAdvance]; (repeat' split) <;> simp

@[simp] theorem scanResult_ground (x : ScanFound) (c : Scan) (s : State) : (scanResult x c s).view.ground = s.view.ground := by
  simp [scanResult]

@[simp] theorem scanFound_ground (c : Scan) (s : State) : (scanFound c s).view.ground = s.view.ground := by
  simp only [scanFound]; (repeat' split) <;> simp

@[simp] theorem judgeScan_ground (x : ModuleStatus) (s : State) : (judgeScan x s).view.ground = s.view.ground := by
  simp only [judgeScan]; (repeat' split) <;> simp

@[simp] theorem scanConfirm_ground (s : State) : (scanConfirm s).view.ground = s.view.ground := by
  unfold scanConfirm; (repeat' split) <;> simp

@[simp] theorem initAnswered_ground (s : State) : (initAnswered s).view.ground = s.view.ground := by
  unfold initAnswered; split <;> simp

@[simp] theorem judgeStatus_ground (x : ModuleStatus) (s : State) : (judgeStatus x s).view.ground = s.view.ground := by
  simp only [judgeStatus]; split <;> simp

@[simp] theorem tunerFault_ground (s : State) : (tunerFault s).view.ground = s.view.ground := by simp [tunerFault]

/-- R95, R96: what the answer to the transaction in flight brings about. -/
theorem transactionEnd_ground (x : Option ModuleStatus) (s : State) : (transactionEnd x s).view.ground = s.view.ground := by
  have after (y : State) : (if y.tuner.bus = [] then (match y.tuner.next with
      | .none => y | .tune => tuneStart y | .scanChannel => scanChannel y) else y).view.ground = y.view.ground := by
    (repeat' split) <;> simp
  simp only [transactionEnd]
  split
  · rfl
  · refine (after _).trans ?_
    (repeat' split) <;> simp

@[simp] theorem settleExpired_ground (s : State) : (settleExpired s).view.ground = s.view.ground := by
  unfold settleExpired; split <;> simp

@[simp] theorem watchExpired_ground (s : State) : (watchExpired s).view.ground = s.view.ground := by
  unfold watchExpired; split <;> simp

@[simp] theorem sourceFollow_view (s : State) : (sourceFollow s).view = s.view := by
  unfold sourceFollow; split
  · rfl
  · simp only [testReference_view, lddActivity_view, labelSideReset_view]; rfl

@[simp] theorem tunerOff_ground (s : State) : (tunerOff s).view.ground = s.view.ground := by simp [tunerOff]

@[simp] theorem sourceRequest_view (x : Source) (s : State) : (sourceRequest x s).1.view = s.view := by
  unfold sourceRequest; split
  · rfl
  · simp only [done_view, sourceFollow_view]; rfl

@[simp] theorem hostTune_ground (x : Selection) (s : State) : (hostTune x s).1.view.ground = s.view.ground := by
  simp only [hostTune]; (repeat' split) <;> simp

@[simp] theorem tunePreset_ground (n : Nat) (s : State) : (tunePreset n s).1.view.ground = s.view.ground := by
  unfold tunePreset; (repeat' split) <;> simp

@[simp] theorem tuneChannel_ground (p c : Nat) (s : State) : (tuneChannel p c s).1.view.ground = s.view.ground := by
  unfold tuneChannel; (repeat' split) <;> simp

@[simp] theorem tuneDirect_ground (n : Nat) (s : State) : (tuneDirect n s).1.view.ground = s.view.ground := by
  unfold tuneDirect; split <;> simp

@[simp] theorem tuneStep_ground (l : List Nat) (s : State) : (tuneStep l s).1.view.ground = s.view.ground := by
  unfold tuneStep; (repeat' split) <;> simp

@[simp] theorem retuneWritten_ground (s : State) : (retuneWritten s).view.ground = s.view.ground := by
  unfold retuneWritten; split <;> simp

@[simp] theorem dropSelection_ground (s : State) : (dropSelection s).view.ground = s.view.ground := by
  simp only [dropSelection]; split <;> simp

@[simp] theorem presetWrite_ground (n : Nat) (x : PresetRecord) (s : State) : (presetWrite n x s).1.view.ground = s.view.ground := by
  simp only [presetWrite]; (repeat' split) <;> simp

@[simp] theorem presetRead_view (n : Nat) (s : State) : (presetRead n s).1.view = s.view := by
  unfold presetRead; split <;> simp

@[simp] theorem scanStart_ground (p : Nat) (s : State) : (scanStart p s).1.view.ground = s.view.ground := by
  simp only [scanStart]; (repeat' split) <;> simp

@[simp] theorem scanStop_ground (s : State) : (scanStop s).1.view.ground = s.view.ground := by
  unfold scanStop; split <;> simp

/-! ## The part at rest -/

/-- R30: without supply-good the mechanism is EMPTY or IDLE, moves nowhere, has no command, and a recovery is pending. -/
structure Deck.Rest (d : Deck) : Prop where
  state    : d.state = .empty ∨ d.state = .idle
  junction : d.junction = none
  target   : d.camTarget = none
  timer    : d.camTimer = none
  inFlight : d.inFlight = none
  slot     : d.slot = none
  recovery : d.recoveryPending = true
  motion   : d.motion = none

/-- R97: without supply-good the tuner is OFF, with no scan, transaction or timer. -/
structure Radio.Rest (x : Radio) : Prop where
  state     : x.state = .off
  scan      : x.scan = none
  bus       : x.bus = []
  next      : x.next = .none
  initTimer : x.initTimer = none
  settle    : x.settle = none
  watch     : x.watch = none

/-- The supply is down, and deck and tuner are at rest. -/
structure View.Rest (v : View) : Prop where
  supply : v.footing.good = false
  deck   : v.deck.Rest
  radio  : v.radio.Rest

/-- The part is at rest. -/
abbrev State.AtRest (s : State) : Prop := s.view.Rest

section
variable {s : State}

theorem State.AtRest.same (h : s.AtRest) {t : State} (e : t.view = s.view) : t.AtRest := by rwa [State.AtRest, e]

theorem State.AtRest.good (h : s.AtRest) : s.supplyGood = false := h.supply
theorem State.AtRest.state (h : s.AtRest) : s.mech.state = .empty ∨ s.mech.state = .idle := h.deck.state
theorem State.AtRest.recovery (h : s.AtRest) : s.mech.recoveryPending = true := h.deck.recovery
theorem State.AtRest.junction (h : s.AtRest) : s.mech.junction = none := h.deck.junction
theorem State.AtRest.camTarget (h : s.AtRest) : s.mech.camTarget = none := h.deck.target
theorem State.AtRest.camTimer (h : s.AtRest) : s.mech.camTimer = none := h.deck.timer
theorem State.AtRest.slot (h : s.AtRest) : s.mech.slot = none := h.deck.slot
theorem State.AtRest.motion (h : s.AtRest) : s.pos.motion = none := h.deck.motion
theorem State.AtRest.tuner (h : s.AtRest) : s.tuner.state = .off := h.radio.state
theorem State.AtRest.scan (h : s.AtRest) : s.tuner.scan = none := h.radio.scan
theorem State.AtRest.bus (h : s.AtRest) : s.tuner.bus = [] := h.radio.bus

/-- At rest the mechanism is in no state but EMPTY and IDLE. -/
theorem State.AtRest.ne (h : s.AtRest) (m : MState) (he : m ≠ .empty) (hi : m ≠ .idle) : s.mech.state ≠ m := by
  rcases h.state with hs | hs <;> rw [hs]
  · exact he.symm
  · exact hi.symm

/-! ## MECH at rest -/

theorem mechChecks_atRest (h : s.AtRest) (c : Cmd) : ∃ x, mechChecks c s = some x := by
  unfold mechChecks
  dsimp only
  split
  · exact ⟨_, rfl⟩
  · rw [if_pos ⟨h.recovery, h.good⟩]; exact ⟨_, rfl⟩

theorem execute_atRest (h : s.AtRest) (c : Cmd) : ∃ x, execute c s = (s, .refused x) := by
  obtain ⟨x, hx⟩ := mechChecks_atRest h c
  exact ⟨x, by simp [execute, hx]⟩

/-- R6: without supply-good MECH refuses every command. -/
theorem submit_atRest (h : s.AtRest) (c : Cmd) : ∃ x, submit c s = (s, .refused x) := by
  unfold submit
  split
  · exact ⟨_, rfl⟩
  · rw [if_pos ⟨h.recovery, h.good⟩]; exact execute_atRest h c

theorem submit_view_atRest (h : s.AtRest) (c : Cmd) : (submit c s).1.view = s.view := by
  obtain ⟨x, hx⟩ := submit_atRest h c; rw [hx]

theorem junctionTest_atRest (h : s.AtRest) : junctionTest s = s := by simp [junctionTest, h.junction]
theorem camReports_atRest (h : s.AtRest) (c : CamCode) : camReports c s = s := by simp [camReports, h.camTarget]
theorem camTimeout_atRest (h : s.AtRest) : camTimeout s = s := by simp [camTimeout, h.camTimer, Timer.due]

theorem cassetteClosed_atRest (h : s.AtRest) : cassetteClosed s = s := by
  unfold cassetteClosed; split <;> simp [h.good]

theorem cassetteOpened_atRest (h : s.AtRest) : cassetteOpened s = s := by
  rcases h.state with hs | hs <;> simp [cassetteOpened, hs]

theorem motionOf_atRest (h : s.AtRest) (j : Option Junction) : motionOf s.mech.state j = none := by
  rcases h.state with hs | hs <;> rw [hs] <;> rfl

theorem endLeaderTest_atRest (h : s.AtRest) : endLeaderTest s = s := by
  simp [endLeaderTest, inForward, motionOf_atRest h]

theorem startLeaderCovered_atRest (h : s.AtRest) : startLeaderCovered s = s := by
  rcases h.state with hs | hs <;> simp [startLeaderCovered, hs]

theorem reelStall_atRest (h : s.AtRest) : reelStall s = s := by simp [reelStall, stalled, h.motion]

/-- R24: at rest a servo fault is told and no more. -/
theorem servoFault_atRest (h : s.AtRest) (f : FaultCode) : (servoFault f s).view = s.view := by
  rcases h.state with hs | hs <;> simp [servoFault, hs, MState.threaded] <;> rfl

theorem drumFault_atRest (h : s.AtRest) : (drumFault s).view = s.view :=
  (servoFault_atRest (h.same (by simp)) _).trans (by simp)

theorem capstanFault_atRest (h : s.AtRest) : (capstanFault s).view = s.view :=
  (servoFault_atRest (h.same (by simp)) _).trans (by simp)

theorem drumLockTimeout_atRest (h : s.AtRest) : (drumLockTimeout s).view = s.view := by
  unfold drumLockTimeout; split
  · exact drumFault_atRest h
  · rfl

theorem capstanLockTimeout_atRest (h : s.AtRest) : (capstanLockTimeout s).view = s.view := by
  unfold capstanLockTimeout; split
  · exact capstanFault_atRest h
  · rfl

theorem gateTimeout_atRest (h : s.AtRest) : (gateTimeout s).view = s.view := by
  unfold gateTimeout
  split
  · have h1 : (s.onServo fun v => { v with gate := none }).AtRest := h
    dsimp only
    split
    · exact drumFault_atRest h1
    · split
      · exact capstanFault_atRest h1
      · rfl
  · rfl

theorem guardTimeout_atRest (h : s.AtRest) : (guardTimeout s).view = s.view := by
  unfold guardTimeout; split
  · exact servoFault_atRest (s := s.onServo fun v => { v with guard := none }) h _
  · rfl

/-! ## Searches at rest -/

theorem searchIssue_atRest (h : s.AtRest) (q : Search) (c : MechCmd) : (searchIssue q c s).view = s.view := by
  obtain ⟨x, hx⟩ := submit_atRest (s := setSearch (some { q with waiting := some c }) s) h
    { what := c, origin := .search, tag := q.tag }
  simp [searchIssue, hx]

theorem searchSettled_atRest (h : s.AtRest) (q : Search) : (searchSettled q s).view = s.view := by
  unfold searchSettled; split
  · exact searchIssue_atRest h _ _
  · simp

theorem searchSettle_atRest (h : s.AtRest) (q : Search) : (searchSettle q s).view = s.view := searchIssue_atRest h _ _

theorem searchCompare_atRest (h : s.AtRest) (q : Search) (t : Int) : (searchCompare q t s).view = s.view := by
  unfold searchCompare; split
  · exact searchIssue_atRest h _ _
  · split
    · exact searchIssue_atRest h _ _
    · exact searchSettled_atRest h _

theorem searchAdvance_atRest (h : s.AtRest) (q : Search) : (searchAdvance q s).view = s.view := by
  have h1 : (setSearch (some { q with waiting := none }) s).AtRest := h
  unfold searchAdvance
  dsimp only
  split
  · rfl
  · rfl
  · rfl
  · split
    · rfl
    · exact searchCompare_atRest h1 _ _
  · exact searchSettled_atRest h1 _
  · split <;> simp

theorem searchClosed_atRest (h : s.AtRest) (tag : Nat) (c : MechCmd) (x : CloseResult) :
    (searchClosed tag c x s).view = s.view := by
  unfold searchClosed
  split
  · rfl
  · split
    · split
      · exact searchAdvance_atRest h _
      · simp
      · rfl
      · simp
      · simp
    · rfl

theorem searchCounter_atRest (h : s.AtRest) : (searchCounter s).view = s.view := by
  unfold searchCounter
  split
  · rfl
  · split
    · rfl
    · split
      · split
        · exact searchSettle_atRest h _
        · rfl
      · split
        · exact searchIssue_atRest h _ _
        · rfl
      · rfl

theorem searchMark_atRest (h : s.AtRest) (t : MarkType) (p : Int) : (searchMark t p s).view = s.view := by
  unfold searchMark
  split
  · rfl
  · split
    · split
      · split
        · dsimp only
          split
          · exact searchSettle_atRest h _
          · rfl
        · rfl
      · exact searchSettle_atRest h _
      · rfl
    · rfl

theorem handleMarks_atRest (l : List MarkRead) (h : s.AtRest) : (handleMarks l s).view = s.view := by
  induction l generalizing s with
  | nil => rfl
  | cons x l ih =>
    have h1 : (handleMark x s).1.AtRest := h.same (by simp)
    have h2 := h1.same (searchMark_atRest h1 x.type (handleMark x s).2)
    have h3 := h2.same (searchCounter_atRest h2)
    rw [handleMarks]
    exact (ih h3).trans ((searchCounter_atRest h2).trans ((searchMark_atRest h1 _ _).trans (by simp)))

theorem blankTimeout_atRest (h : s.AtRest) : (blankTimeout s).view = s.view := by
  unfold blankTimeout
  split
  · rfl
  · split
    · exact searchSettle_atRest h _
    · rfl

theorem scanPlayTimeout_atRest (h : s.AtRest) : (scanPlayTimeout s).view = s.view := by
  unfold scanPlayTimeout
  split
  · rfl
  · split
    · exact searchIssue_atRest h _ _
    · rfl

/-! ## Frames at rest -/

theorem memoryTest_atRest (h : s.AtRest) (a b : Int) : memoryTest a b s = s := by
  have : crossesTarget s.mech.state s.pos.target a b = false := by
    unfold crossesTarget
    split
    · rfl
    · rcases h.state with hs | hs <;> simp [hs]
  simp [memoryTest, this]

theorem capstanCount_atRest (h : s.AtRest) : capstanCount s = s := by simp [capstanCount, h.motion]

theorem capstanPulse_atRest (h : s.AtRest) (n : Nat) : (capstanPulse n s).view = s.view := by
  have h1 : (capstanFg n s).AtRest := h.same (by simp)
  rw [capstanPulse, junctionTest_atRest h1, capstanCount_atRest h1, capstanFg_view]

theorem posGap_atRest (h : s.AtRest) : posGap s = s := by simp [posGap, h.motion]

theorem replayedPulse_atRest (h : s.AtRest) (d : Nat) (p : Int) (n e : Nat) : (replayedPulse d p n e s).view = s.view := by
  unfold replayedPulse
  rw [h.motion]
  split
  · rfl
  · split
    · contradiction
    · exact overshootPulse_view _ _ _ _
    · rfl

theorem referenceEdge_atRest (h : s.AtRest) (e : Nat) : (referenceEdge e s).view = s.view := by
  have h1 : (frameBoundary e s).AtRest := h.same (by simp)
  rw [referenceEdge, if_neg (h1.ne .record (by simp) (by simp)), junctionTest_atRest h1, frameBoundary_view]

theorem vsync_atRest (h : s.AtRest) (x : Source) (n e : Nat) : (vsync x n e s).view = s.view := by
  have h1 : (syncPulse x n s).1.AtRest := h.same (by simp)
  unfold vsync
  dsimp only
  split
  · rw [referenceEdge_atRest h1, syncPulse_view]
  · rw [junctionTest_atRest h1, syncPulse_view]

theorem internalEdge_atRest (h : s.AtRest) (e : Nat) : (internalEdge e s).view = s.view := by
  unfold internalEdge
  (repeat' split) <;> simp [referenceEdge_atRest h]

theorem markGapTimeout_atRest (h : s.AtRest) : (markGapTimeout s).view = s.view := by
  have h1 : (markGap s).1.AtRest := h.same (by simp)
  have h2 := handleMarks_atRest (markGap s).2 h1
  unfold markGapTimeout
  split
  · rw [junctionTest_atRest (h1.same h2), h2, markGap_view]
  · rfl

/-! ## TUNER at rest -/

@[simp] theorem closeTune_view (x : TuneResult) (s : State) : (closeTune x s).view = s.view := by
  simp only [closeTune]; (repeat' split) <;> rfl

theorem scanEnd_atRest (h : s.AtRest) (x : ScanEnd) : scanEnd x s = s := by simp [scanEnd, h.scan]
theorem transactionEnd_atRest (h : s.AtRest) (x : Option ModuleStatus) : transactionEnd x s = s := by
  simp [transactionEnd, h.bus]
theorem initWaited_atRest (h : s.AtRest) : initWaited s = s := by simp [initWaited, h.tuner]
theorem settleExpired_atRest (h : s.AtRest) : settleExpired s = s := by
  have : s.tuner.settle = none := h.radio.settle
  simp [settleExpired, this, Timer.due]
theorem watchExpired_atRest (h : s.AtRest) : watchExpired s = s := by
  have : s.tuner.watch = none := h.radio.watch
  simp [watchExpired, this, Timer.due]
theorem scanConfirm_atRest (h : s.AtRest) : scanConfirm s = s := by simp [scanConfirm, h.scan]

/-- R105: in OFF a tune request only stands for the next INIT. -/
theorem requestTune_atRest (h : s.AtRest) (x : Selection) (f : Option TuneInFlight) (b : Bool) :
    (requestTune x f b s).view = s.view := by
  simp only [requestTune, h.tuner]
  exact (show ((closeTune .superseded s).onTuner _).view = (closeTune .superseded s).view from rfl).trans (by simp)

theorem hostTune_atRest (h : s.AtRest) (x : Selection) : (hostTune x s).1.view = s.view := by
  simp only [hostTune, h.tuner]
  exact requestTune_atRest h _ _ _

theorem tunePreset_atRest (h : s.AtRest) (n : Nat) : (tunePreset n s).1.view = s.view := by
  unfold tunePreset; (repeat' split) <;> simp [hostTune_atRest h]

theorem tuneChannel_atRest (h : s.AtRest) (p c : Nat) : (tuneChannel p c s).1.view = s.view := by
  unfold tuneChannel; (repeat' split) <;> simp [hostTune_atRest h]

theorem tuneDirect_atRest (h : s.AtRest) (n : Nat) : (tuneDirect n s).1.view = s.view := by
  unfold tuneDirect; split <;> simp [hostTune_atRest h]

theorem tuneStep_atRest (h : s.AtRest) (l : List Nat) : (tuneStep l s).1.view = s.view := by
  unfold tuneStep; (repeat' split) <;> simp [hostTune_atRest h]

theorem retuneWritten_atRest (h : s.AtRest) : retuneWritten s = s := by
  unfold retuneWritten; rw [h.tuner]; split <;> simp_all

theorem dropSelection_atRest (h : s.AtRest) : (dropSelection s).view = s.view := by
  have hs : s.tuner.scan = none := h.scan
  have hc : (closeTune .superseded s).tuner.scan = none := by
    have := congrArg (fun v => v.radio.scan) (closeTune_view .superseded s)
    exact this.trans hs
  simp only [dropSelection, h.tuner]
  refine Eq.trans ?_ (closeTune_view .superseded s)
  simp [State.view, State.footing, State.deck, State.radio, hc]

theorem presetWrite_atRest (h : s.AtRest) (n : Nat) (x : PresetRecord) : (presetWrite n x s).1.view = s.view := by
  simp only [presetWrite]
  generalize (if x.used then presetOfRecord x else none) = stored
  have h1 : (s.onTuner fun t => { t with presets := t.presets.set (n - 1) stored }).AtRest := h
  split
  · rfl
  · split
    · rfl
    · split
      · rfl
      · split
        · rfl
        · rw [done_view]
          split
          · split
            · rw [dropSelection_atRest h1]; rfl
            · rw [retuneWritten_atRest h1]; rfl
          · rfl

theorem scanStart_atRest (h : s.AtRest) (p : Nat) : (scanStart p s).1.view = s.view := by
  unfold scanStart
  (repeat' split) <;> first | rfl | simp_all [h.tuner]

theorem scanStop_atRest (h : s.AtRest) : (scanStop s).1.view = s.view := by
  simp [scanStop, h.tuner]

end

end Sys2Proof.Machine

/-!
Sys2Proof/Proofs/Turn: the relation Turn between two views, by which a step keeps the amplifier to RECORD, the one holder under its
owner, and the part without supply at rest; and the moves it is made of.
-/

namespace Sys2Proof.Machine

/-! ## The invariants on a view -/

/-- The standing of a slot by its number; EMPTY beyond the table. -/
def Footing.standing (f : Footing) (k : Nat) : EntryState × Bool := f.slots.getD (k - 1) (.empty, false)

/-- A slot given a standing. -/
def Footing.stand (f : Footing) (k : Nat) (p : EntryState × Bool) : Footing := { f with slots := f.slots.set (k - 1) p }

/-- R146: the one holder, read from the view. -/
structure View.Held (v : View) : Prop where
  places : v.footing.slots.length = 16
  holder : ∀ p ∈ v.footing.holder, 1 ≤ p.1 ∧ p.1 ≤ 16 ∧ (v.footing.standing p.1).1.holds = true ∧
    (v.footing.standing p.1).2 = true ∧ v.deck.owner = .timer p.1
  only   : ∀ n < 16, (v.footing.standing (n + 1)).1.holds = true → v.footing.holder.map Prod.fst = some (n + 1)
  owner  : v.deck.owner.isTimer = true → v.footing.holder.isSome = true

/-- R29, R30, R97, R188: what supplySound says but for the holder in STANDBY, with the junction operation in REC_PAUSE. -/
structure View.Calm (v : View) : Prop where
  joined  : v.deck.joined
  standby : v.footing.power = .standby → v.footing.good = false ∧ (v.footing.phase = .raising → v.footing.onMark = true)
  rest    : v.footing.good = false → v.Rest

/-- R174: in STANDBY the loss of the supply of a holder is still to be reported. -/
def View.Reported (v : View) : Prop := v.footing.power = .standby → ∀ p ∈ v.footing.holder, some p.2 ∈ v.footing.lost

theorem slot_standing (s : State) (k : Nat) : (s.slot k).standing = s.view.footing.standing k := by
  simp only [State.slot, Footing.standing, State.view, State.footing, List.getD_eq_getElem?_getD, List.getElem?_map]
  cases s.sched.slots[k - 1]? <;> rfl

theorem slot_state (s : State) (k : Nat) : (s.slot k).state = (s.view.footing.standing k).1 := by rw [← slot_standing]; rfl
theorem slot_occ (s : State) (k : Nat) : (s.slot k).occ.isSome = (s.view.footing.standing k).2 := by rw [← slot_standing]; rfl

theorem recorderHeldOnce_iff (s : State) : s.recorderHeldOnce ↔ s.view.Held := by
  have hl : s.view.footing.slots.length = s.sched.slots.length := by simp [State.view, State.footing]
  have hm : s.view.footing.holder.map Prod.fst = s.sched.holder.map Holder.slot := by
    simp only [State.view, State.footing]; cases s.sched.holder <;> rfl
  have hs : s.view.footing.holder.isSome = s.sched.holder.isSome := by simp [State.view, State.footing]
  constructor
  · rintro ⟨h1, h2, h3, h4⟩
    refine ⟨hl.trans h1, ?_, fun n hn => ?_, fun h => hs ▸ h4 h⟩
    · intro p hp
      obtain ⟨h, hh, rfl⟩ := Option.map_eq_some_iff.1 (show s.sched.holder.map Holder.place = some p from hp)
      have := h2 h hh
      rwa [slot_state, slot_occ] at this
    · rw [← slot_state, hm]; exact h3 n hn
  · rintro ⟨h1, h2, h3, h4⟩
    refine ⟨hl ▸ h1, ?_, fun n hn => ?_, fun h => hs ▸ h4 h⟩
    · intro h hh
      have := h2 h.place (by simp [State.view, State.footing, Option.mem_def.1 hh])
      rwa [slot_state, slot_occ]
    · rw [slot_state, ← hm]; exact h3 n hn

theorem supplySound_iff (s : State) (hj : s.view.deck.joined) : s.supplySound ↔ s.view.Calm ∧ s.view.Reported := by
  have hm (t : Nat) : Report.supplyLost (some t) ∈ s.reports ↔ some t ∈ s.view.footing.lost := by
    simp only [State.view, State.footing, List.mem_filterMap]
    constructor
    · exact fun h => ⟨_, h, rfl⟩
    · rintro ⟨r, hr, hx⟩
      cases r with
      | supplyLost tag => rw [Report.lostTag, Option.some.injEq] at hx; rwa [← hx]
      | _ => exact absurd hx (by simp [Report.lostTag])
  constructor
  · rintro ⟨hs, hr⟩
    refine ⟨⟨hj, fun hp => ⟨(hs hp).1, (hs hp).2.1⟩, fun hg => ?_⟩, fun hp p hpm => ?_⟩
    · obtain ⟨h1, h2, h3, h4, h5, h6, h7, h8, h9, h10, h11, h12, h13, h14⟩ := hr hg
      refine ⟨hg, ⟨h1, ?_, h2, h3, h4, h5, h7, h6⟩, ⟨h8, h9, h10, h11, h12, h13, h14⟩⟩
      cases hjj : s.view.deck.junction with
      | none => rfl
      | some j =>
        have := hj (by rw [hjj]; rfl)
        rcases h1 with h1 | h1 <;> exact absurd (h1.symm.trans this) (by simp)
    · obtain ⟨h, hh, rfl⟩ := Option.map_eq_some_iff.1 (show s.sched.holder.map Holder.place = some p from hpm)
      exact (hm _).1 ((hs hp).2.2 h hh)
  · rintro ⟨⟨-, hs, hr⟩, hk⟩
    refine ⟨fun hp => ⟨(hs hp).1, (hs hp).2, fun h hh => (hm _).2 (hk hp h.place ?_)⟩, fun hg => ?_⟩
    · simp [State.view, State.footing, Option.mem_def.1 hh]
    · obtain ⟨-, ⟨h1, -, h2, h3, h4, h5, h7, h6⟩, ⟨h8, h9, h10, h11, h12, h13, h14⟩⟩ := hr hg
      exact ⟨h1, h2, h3, h4, h5, h6, h7, h8, h9, h10, h11, h12, h13, h14⟩

/-! ## Standings -/

theorem Footing.stand_length (f : Footing) (k : Nat) (p : EntryState × Bool) : (f.stand k p).slots.length = f.slots.length := by
  simp [Footing.stand]

/-- A slot that is given a standing has it, and the other slots keep theirs. -/
theorem Footing.standing_stand (f : Footing) (k : Nat) (p : EntryState × Bool) (j : Nat) :
    (f.stand k p).standing j = if k - 1 = j - 1 ∧ k - 1 < f.slots.length then p else f.standing j := by
  simp only [Footing.standing, Footing.stand, List.getD_eq_getElem?_getD, List.getElem?_set]
  by_cases hk : k - 1 = j - 1
  · by_cases hl : k - 1 < f.slots.length
    · simp [hk, hk ▸ hl]
    · have hn : f.slots[j - 1]? = none := List.getElem?_eq_none (by omega)
      rw [if_pos hk, if_neg hl, if_neg (fun h => hl h.2), hn]
  · simp [hk]

/-- A slot that holds the recorder is in the table. -/
theorem Footing.in_table (f : Footing) (k : Nat) (h : (f.standing k).1.holds = true) : k - 1 < f.slots.length := by
  by_contra hl
  have : f.slots[k - 1]? = none := List.getElem?_eq_none (by omega)
  simp [Footing.standing, List.getD_eq_getElem?_getD, this, EntryState.holds] at h

/-- Under the one holder, a slot that holds is the holder's. -/
theorem View.Held.holds_slot {v : View} (hv : v.Held) (k : Nat) (h : (v.footing.standing k).1.holds = true) :
    v.footing.holder.map Prod.fst = some (k - 1 + 1) :=
  hv.only (k - 1) (hv.places ▸ v.footing.in_table k h) h

/-- Where the owner is no TIMER there is no holder. -/
theorem View.Held.no_holder {v : View} (hv : v.Held) (h : v.deck.owner.isTimer = false) : v.footing.holder = none := by
  cases hh : v.footing.holder with
  | none => rfl
  | some p => rw [(hv.holder p hh).2.2.2.2] at h; exact absurd h (by simp [Owner.isTimer])

/-! ## Turn -/

/-- What a step may do: it keeps the amplifier to RECORD, and the one holder; and where there is the one holder, the part without
supply at rest. -/
structure View.Turn (v w : View) : Prop where
  amp      : v.deck.amp → w.deck.amp
  held     : v.Held → w.Held
  calm     : v.Held → v.Calm → w.Calm
  reported : v.Held → v.Calm → v.Reported → w.Reported

/-- A turn from one state to another. -/
abbrev Turn (r s : State) : Prop := View.Turn r.view s.view

theorem View.Turn.refl (v : View) : View.Turn v v := ⟨id, id, fun _ => id, fun _ _ => id⟩

theorem View.Turn.trans {u v w : View} (h : View.Turn u v) (k : View.Turn v w) : View.Turn u w where
  amp a := k.amp (h.amp a)
  held a := k.held (h.held a)
  calm a c := k.calm (h.held a) (h.calm a c)
  reported a c x := k.reported (h.held a) (h.calm a c) (h.reported a c x)

theorem Turn.refl (s : State) : Turn s s := View.Turn.refl _

theorem Turn.trans {r s t : State} (h : Turn r s) (k : Turn s t) : Turn r t := View.Turn.trans h k

/-- The tape's blocks keep the one holder. -/
theorem View.Work.held {v w : View} (k : View.Work v w) (hv : v.Held) : w.Held := by
  have hf := k.footing
  have ho : w.deck.owner = v.deck.owner ∨ (v.footing.holder = none ∧ w.deck.owner.isTimer = false) := by
    rcases k.owner with ho | ⟨ho, ho'⟩
    · exact .inl ho
    · exact .inr ⟨hv.no_holder ho, ho'⟩
  refine ⟨hf ▸ hv.places, ?_, hf ▸ hv.only, ?_⟩
  · rw [hf]
    intro p hp
    rcases ho with ho | ⟨hn, -⟩
    · rw [ho]; exact hv.holder p hp
    · rw [hn] at hp; exact absurd hp (by simp)
  · rw [hf]
    rcases ho with ho | ⟨-, hn⟩
    · rw [ho]; exact hv.owner
    · rw [hn]; exact fun h => absurd h (by simp)

/-- Work of the tape's blocks that leaves the part at rest alone. -/
theorem View.Turn.work {u v w : View} (h : View.Turn u v) (k : View.Work v w) (hr : v.Rest → w = v) : View.Turn u w := by
  have hf := k.footing
  refine h.trans ⟨k.amp, k.held, fun _ hc => ⟨k.joined hc.joined, hf ▸ hc.standby, fun hg => ?_⟩, fun _ _ hk => by
    rwa [View.Reported, hf]⟩
  have hs := hc.rest (hf ▸ hg)
  rw [hr hs]; exact hs

/-- R150: the recorder is released by a slot that then holds it no more. -/
theorem View.Turn.free {u v w : View} (h : View.Turn u v) (k : Nat) (p : EntryState × Bool) (o : Owner)
    (e : w = { v with footing := { v.footing.stand k p with holder := none }, deck := { v.deck with owner := o } })
    (hp : p.1.holds = false) (ho : o.isTimer = false) (hk : v.Held → (v.footing.standing k).1.holds = true) : View.Turn u w := by
  refine h.trans ⟨?_, fun hv => ?_, fun hv hc => ?_, fun hv hc hx => ?_⟩
  · rw [e]; exact id
  · have hki := hv.holds_slot k (hk hv)
    rw [e]
    refine ⟨(Footing.stand_length _ _ _).trans hv.places, fun q hq => absurd hq (by simp), fun n hn hx => ?_, fun hx => ?_⟩
    · rw [show (Footing.standing { v.footing.stand k p with holder := none } (n + 1)) =
        (v.footing.stand k p).standing (n + 1) from rfl, Footing.standing_stand] at hx
      split at hx
      · rw [hp] at hx; exact absurd hx (by simp)
      · next hi =>
        have hn' := hv.only n hn hx
        rw [hki, Option.some.injEq] at hn'
        exact absurd ⟨by omega, v.footing.in_table k (hk hv)⟩ hi
    · rw [show (View.deck _).owner = o from rfl, ho] at hx; exact absurd hx (by simp)
  · rw [e]; refine ⟨hc.joined, hc.standby, fun hg => ⟨hg, ?_, (hc.rest hg).radio⟩⟩
    obtain ⟨h1, h2, h3, h4, h5, h6, h7, h8⟩ := (hc.rest hg).deck
    exact ⟨h1, h2, h3, h4, h5, h6, h7, h8⟩
  · rw [View.Reported, e]; exact fun _ q hq => absurd hq (by simp)

section
variable {r s t : State}

/-- A state with the same view. -/
theorem Turn.same (h : Turn r s) (e : t.view = s.view) : Turn r t := by rwa [Turn, e]

theorem Turn.work (h : Turn r s) (w : Work s t) (hr : s.AtRest → t.view = s.view) : Turn r t := View.Turn.work h w hr

/-- TUNER's work that leaves the part at rest alone. -/
theorem Turn.ground (h : Turn r s) (e : t.view.ground = s.view.ground) (hr : s.AtRest → t.view = s.view) : Turn r t :=
  h.work (Work.ground (View.Work.refl _) e) hr

/-- PWR and the waiting reports change, the slots and the holder staying. -/
theorem Turn.power (h : Turn r s) (p : Power) (ph : Phase) (m : Bool) (l : List (Option Nat))
    (e : t.view = { s.view with footing := { s.view.footing with power := p, phase := ph, onMark := m, lost := l } })
    (hs : s.view.Held → s.view.Calm → p = .standby →
      Footing.good { s.view.footing with phase := ph } = false ∧ (ph = .raising → m = true))
    (hg : s.view.Held → s.view.Calm → Footing.good { s.view.footing with phase := ph } = false → s.view.footing.good = false)
    (hk : s.view.Held → s.view.Calm → s.view.Reported → p = .standby → ∀ q ∈ s.view.footing.holder, some q.2 ∈ l) : Turn r t := by
  refine h.trans ⟨?_, fun hv => ?_, fun hv hc => ⟨?_, ?_, fun hgt => ⟨hgt, ?_, ?_⟩⟩, fun hv hc hx => ?_⟩
  · rw [e]; exact id
  · rw [e]; exact ⟨hv.places, hv.holder, hv.only, hv.owner⟩
  · rw [e]; exact hc.joined
  · rw [e]; exact hs hv hc
  · rw [e] at hgt ⊢; exact (hc.rest (hg hv hc hgt)).deck
  · rw [e] at hgt ⊢; exact (hc.rest (hg hv hc hgt)).radio
  · rw [View.Reported, e]; exact hk hv hc hx

/-- A slot is given a standing in which it holds just where it held before. -/
theorem Turn.stand (h : Turn r s) (k : Nat) (p : EntryState × Bool)
    (e : t.view = { s.view with footing := s.view.footing.stand k p })
    (hk : s.view.Held → p.1.holds = (s.view.footing.standing k).1.holds ∧
      ((s.view.footing.standing k).1.holds = true → p.2 = true)) : Turn r t := by
  refine h.trans ⟨?_, fun hv => ?_, fun hv hc => ?_, fun hv hc hx => ?_⟩
  · rw [e]; exact id
  · obtain ⟨hh, ho⟩ := hk hv
    rw [e]
    refine ⟨(Footing.stand_length _ _ _).trans hv.places, fun q hq => ?_, fun n hn => ?_, hv.owner⟩
    · obtain ⟨h1, h2, h3, h4, h5⟩ := hv.holder q hq
      refine ⟨h1, h2, ?_, ?_, h5⟩
      · rw [Footing.standing_stand]; split
        · next hi => rw [hh]; simpa only [Footing.standing, hi.1] using h3
        · exact h3
      · rw [Footing.standing_stand]; split
        · next hi => exact ho (by simpa only [Footing.standing, hi.1] using h3)
        · exact h4
    · rw [Footing.standing_stand]; split
      · next hi => rw [hh]; intro hx; exact hv.only n hn (by simpa only [Footing.standing, hi.1] using hx)
      · exact hv.only n hn
  · rw [e]; exact ⟨hc.joined, hc.standby, fun hg => ⟨hg, (hc.rest hg).deck, (hc.rest hg).radio⟩⟩
  · rw [View.Reported, e]; exact hx

theorem Turn.free (h : Turn r s) (k : Nat) (p : EntryState × Bool) (o : Owner)
    (e : t.view = { s.view with footing := { s.view.footing.stand k p with holder := none }, deck := { s.view.deck with owner := o } })
    (hp : p.1.holds = false) (ho : o.isTimer = false) (hk : s.view.Held → (s.view.footing.standing k).1.holds = true) :
    Turn r t := View.Turn.free h k p o e hp ho hk

end

end Sys2Proof.Machine

/-!
Sys2Proof/Proofs/Supply: the turns of the Power Controller: raises, losses, wakes, standby requests and claims.
-/

namespace Sys2Proof.Machine

section
variable {r s t : State}

/-! ## Turns shared by all blocks -/

theorem Turn.notify (h : Turn r s) (n : Notice) : Turn r (notify n s) := h
theorem Turn.report (h : Turn r s) (x : Report) (hx : ∀ tag, x ≠ .supplyLost tag := by simp) : Turn r (Machine.report x s) :=
  h.same (report_view x s hx)

/-- R6: submitting a command. -/
theorem submit_turn (h : Turn r s) (c : Cmd) : Turn r (submit c s).1 :=
  h.work (submit_work (View.Work.refl _) c) (submit_view_atRest · c)

theorem submit_footing (c : Cmd) (s : State) : (submit c s).1.view.footing = s.view.footing :=
  (submit_work (View.Work.refl _) c).footing

/-! ## The view of PWR's small functions -/

@[simp] theorem powerTo_view (p : Power) (c : PowerCause) (s : State) :
    (powerTo p c s).view = { s.view with footing := { s.view.footing with power := p } } := rfl
@[simp] theorem clearResetMark_view (s : State) : (clearResetMark s).view = s.view := rfl
@[simp] theorem raiseBegin_view (s : State) :
    (raiseBegin s).view = { s.view with footing := { s.view.footing with phase := .raising } } := rfl
@[simp] theorem markOn_view (c : PowerCause) (s : State) :
    (markOn c s).view = { s.view with footing := { s.view.footing with onMark := true } } := rfl
@[simp] theorem enterStandby_view (s : State) :
    (enterStandby s).view = { s.view with footing := { s.view.footing with power := .standby, onMark := false } } := by
  rw [enterStandby, boxFlush_view]; rfl

@[simp] theorem closeOn_view (b : Bool) (c : PowerCause) (s : State) : (closeOn b c s).view = s.view := by
  unfold closeOn
  split
  · dsimp only; split <;> rfl
  · rfl

@[simp] theorem supplySeen_view (b : Bool) (s : State) : (supplySeen b s).view = s.view := by
  unfold supplySeen; split
  · exact report_view _ _ (by simp)
  · rfl

/-! ## Raises (R188, R191) -/

theorem raiseBegin_turn (h : Turn r s) (hp : s.pwr.phase = .off) (hm : s.pwr.power = .standby → s.pwr.onMark = true) :
    Turn r (raiseBegin s) :=
  h.power s.pwr.power .raising s.pwr.onMark s.view.footing.lost rfl (fun _ _ hs => ⟨rfl, fun _ => hm hs⟩)
    (fun _ _ _ => by simp [Footing.good, State.view, State.footing, hp]) (fun _ _ hx => hx)

/-- R188: what a raised supply leaves of the ON mark. -/
theorem supplyUp_turn (h : Turn r s) (hm : s.view.Held → s.view.Calm → s.pwr.power = .standby → s.pwr.onMark = true) :
    Turn r (supplyUp s) := by
  have step (s2 : State) (p : Power) (hp : s.pwr.onMark = true → p = .on) (hq : s.pwr.onMark = false → p = s.pwr.power)
      (e : s2.view = { s.view with footing := { s.view.footing with power := p, phase := .up, onMark := false } }) :
      Turn r (Machine.report .supplyUp (tunerInit (recover s2))) := by
    have no (hv : s.view.Held) (hc : s.view.Calm) (hs : p = .standby) : False := by
      cases ho : s.pwr.onMark with
      | true => exact absurd (hs.symm.trans (hp ho)) (by simp)
      | false => exact absurd (hm hv hc (hq ho ▸ hs)) (by simp [ho])
    have hg : s2.view.footing.good = true := by rw [e]; rfl
    have h2 : Turn r s2 := h.power p .up false s.view.footing.lost e (fun hv hc hs => (no hv hc hs).elim)
      (fun _ _ hf => absurd hf (by simp [Footing.good])) (fun hv hc _ hs => (no hv hc hs).elim)
    have hr : ¬ s2.AtRest := fun hr => absurd (hg.symm.trans hr.supply) (by simp)
    have w := recover_work (View.Work.refl s2.view)
    exact (h2.work (w.ground (tunerInit_ground (recover s2))) (fun h => absurd h hr)).report _
  unfold supplyUp
  dsimp only
  split
  · next ho =>
    have ho : s.pwr.onMark = true := ho
    exact step _ .on (fun _ => rfl) (fun h => absurd (ho.symm.trans h) (by simp)) rfl
  · next ho =>
    have ho : s.pwr.onMark = false := Bool.not_eq_true _ ▸ ho
    refine step _ s.pwr.power (fun h => absurd (ho.symm.trans h) (by simp)) (fun _ => rfl) ?_
    rw [← ho]; rfl

theorem supplyRises_turn (h : Turn r s) : Turn r (supplyRises s) := by
  unfold supplyRises; split
  · next hp => exact supplyUp_turn h fun _ hc hs => (hc.standby hs).2 hp
  · exact h

theorem supplyRaise_turn (h : Turn r s) (hp : s.pwr.phase = .off) (hm : s.pwr.power = .standby → s.pwr.onMark = true) :
    Turn r (supplyRaise s) := by
  have h1 := raiseBegin_turn h hp hm
  unfold supplyRaise; split
  · exact supplyUp_turn h1 fun _ _ => hm
  · exact h1

/-- R191: the ON mark of a wake. -/
theorem markOn_turn (h : Turn r s) (c : PowerCause) : Turn r (markOn c s) :=
  h.power s.pwr.power s.pwr.phase true s.view.footing.lost rfl
    (fun _ hc hs => ⟨(hc.standby hs).1, fun _ => rfl⟩) (fun _ _ hg => hg) (fun _ _ hx => hx)

theorem wake_turn (h : Turn r s) (c : PowerCause) : Turn r (wake c s) := by
  unfold wake; split
  · next ha =>
    have hp : s.pwr.phase = .off := by simp [State.asleep] at ha; exact ha.2
    exact supplyRaise_turn (markOn_turn h c) hp fun _ => rfl
  · exact h

theorem wakeByFrame_turn (h : Turn r s) : Turn r (wakeByFrame s) := by
  unfold wakeByFrame; split
  · next ha =>
    have hp : s.pwr.phase = .off := by simp [State.asleep] at ha; exact ha.2
    exact raiseBegin_turn (markOn_turn h _) hp fun _ => rfl
  · exact h

/-- R192: in TIMER_ON the ON mark is set, or the state becomes ON. -/
theorem wakeTimerOn_turn (h : Turn r s) (c : PowerCause) (ht : s.pwr.power = .timerOn) : Turn r (wakeTimerOn c s) := by
  unfold wakeTimerOn
  dsimp only
  split
  · exact h.power .on s.pwr.phase s.pwr.onMark s.view.footing.lost rfl (fun _ _ hs => absurd hs (by simp))
      (fun _ _ hg => hg) (fun _ _ _ hs => absurd hs (by simp))
  · exact h.power s.pwr.power s.pwr.phase true s.view.footing.lost rfl (fun _ _ hs => by simp [ht] at hs)
      (fun _ _ hg => hg) (fun _ _ _ hs => by simp [ht] at hs)

/-! ## Losses (R30, R97, R190, R193) -/

/-- R30: MECH without supply-good is at rest. -/
theorem mechSupplyLost_rest (s : State) : (mechSupplyLost s).view.deck.Rest := by
  have set (x : State) (o : Owner) (hx : x.view.deck.Rest) : (setOwner o x).view.deck.Rest := by
    unfold setOwner; split
    · exact hx
    · rw [report_view _ _ (by simp)]
      obtain ⟨h1, h2, h3, h4, h5, h6, h7, h8⟩ := hx
      exact ⟨h1, h2, h3, h4, h5, h6, h7, h8⟩
  have settled (x : State) (hx : x.view.deck.Rest) : (settle x).view.deck.Rest := by
    unfold settle; split
    · exact set _ _ hx
    · exact hx
  have down (new : MState) (fault : FaultCode) (hn : new = .empty ∨ new = .idle) :
      (report (.interrupted (.cause .supply)) (discardBoth .supply ((setState new none false
        (moveEnded (posSupplyLost (markAbort .supply s)))).onMech fun m =>
          { m with recoveryPending := true, recoveryRun := false, standbyStop := false, cause := none, ejectRead := false,
                   still := none, halt := none, fault := fault }))).view.deck.Rest := by
    have hr (y : State) : (y.onMech fun m =>
        { m with recoveryPending := true, recoveryRun := false, standbyStop := false, cause := none, ejectRead := false,
                 still := none, halt := none, fault := fault }).view =
          { y.view with deck := { y.view.deck with recoveryPending := true } } := rfl
    rw [report_view _ _ (by simp), discardBoth_view, hr, setState_view, moveEnded_view]
    exact ⟨hn, rfl, rfl, rfl, rfl, rfl, rfl, by rcases hn with rfl | rfl <;> rfl⟩
  simp only [mechSupplyLost]
  apply settled
  split
  · exact down _ _ (.inr rfl)
  · rw [emptyEffects_view]
    obtain ⟨h1, h2, h3, h4, h5, h6, h7, -⟩ := down .empty _ (.inl rfl)
    exact ⟨h1, h2, h3, h4, h5, h6, h7, rfl⟩

@[simp] theorem scanDone_view (x : ScanEnd) (s : State) :
    (scanDone x s).view = { s.view with radio := { s.view.radio with scan := none } } := by
  unfold scanDone; split
  · next hs => simp [State.view, State.radio, hs]
  · rfl

/-- R97: the tuner without supply-good is at rest. -/
theorem tunerOff_rest (s : State) : (tunerOff s).view.radio.Rest := by
  have last (y : State) : (y.onTuner fun t => { t with divider := none, band := none, standby := none, target := none }).view =
      y.view := rfl
  rw [tunerOff, last, scanDone_view, closeTune_view]
  exact ⟨rfl, rfl, rfl, rfl, rfl, rfl, rfl⟩

/-- R30, R97: what the blocks do when supply-good has deasserted. -/
theorem supplyGone_footing (s : State) : (supplyGone s).view.footing =
    { s.view.footing with lost := s.view.footing.lost ++ [s.view.footing.holder.map Prod.snd] } := by
  have hr (tag : Option Nat) (x : State) : (report (.supplyLost tag) x).view.footing =
      { x.view.footing with lost := x.view.footing.lost ++ [tag] } := by
    simp [State.view, State.footing, report, Report.lostTag]
  have ht : s.holderTag = s.view.footing.holder.map Prod.snd := by
    simp only [State.holderTag, State.view, State.footing]; cases s.sched.holder <;> rfl
  have hg := congrArg Prod.fst (tunerOff_ground (mechSupplyLost (servoSupplyLost s)))
  rw [supplyGone, hr, ht]
  exact (congrArg (fun f : Footing => { f with lost := f.lost ++ [s.view.footing.holder.map Prod.snd] })
    (hg.trans (mechSupplyLost_work (View.Work.refl _)).footing))

theorem supplyGone_deck (s : State) : (supplyGone s).view.deck = (mechSupplyLost (servoSupplyLost s)).view.deck :=
  congrArg Prod.snd (tunerOff_ground (mechSupplyLost (servoSupplyLost s)))

theorem supplyGone_radio (s : State) : (supplyGone s).view.radio.Rest := tunerOff_rest _

/-- R190, R193: the supply goes down and the part is in STANDBY. -/
theorem Turn.fallen (h : Turn r s) (u : State) (hu : u.view = { s.view with footing := { s.view.footing with
      power := u.view.footing.power, phase := .off, onMark := u.view.footing.onMark } })
    (hf : t.view.footing = { (supplyGone u).view.footing with power := .standby, onMark := false })
    (hd : t.view.deck = (supplyGone u).view.deck) (hr : t.view.radio = (supplyGone u).view.radio) : Turn r t := by
  have w := mechSupplyLost_work (View.Work.refl (servoSupplyLost u).view)
  have hrest := mechSupplyLost_rest (servoSupplyLost u)
  rw [supplyGone_deck] at hd
  rw [supplyGone_footing] at hf
  have hud : (servoSupplyLost u).view.deck = s.view.deck := by rw [servoSupplyLost_view, hu]
  have huh : u.view.footing.holder = s.view.footing.holder := by rw [hu]
  have hus : u.view.footing.slots = s.view.footing.slots := by rw [hu]
  have hul : u.view.footing.phase = .off := by rw [hu]
  have hgood : t.view.footing.good = false := by rw [hf]; simp [Footing.good, hul]
  have hst (k : Nat) : t.view.footing.standing k = s.view.footing.standing k := by
    rw [hf]; simp only [Footing.standing, hus]
  have hth : t.view.footing.holder = s.view.footing.holder := by rw [hf]; exact huh
  refine h.trans ⟨?_, fun hv => ?_, fun hv hc => ⟨?_, fun _ => ⟨hgood, ?_⟩, fun _ => ⟨hgood, ?_, ?_⟩⟩, fun hv hc hx => ?_⟩
  · rw [hd, ← hud]; exact w.amp
  · have ho := w.owner
    rw [hud, ← hd] at ho
    refine ⟨?_, ?_, ?_, ?_⟩
    · rw [hf]; exact (congrArg List.length hus).trans hv.places
    · intro p hp
      rw [hth] at hp
      obtain ⟨h1, h2, h3, h4, h5⟩ := hv.holder p hp
      rw [hst]
      refine ⟨h1, h2, h3, h4, ?_⟩
      rcases ho with ho | ⟨ho, -⟩
      · rw [ho, h5]
      · rw [h5] at ho; exact absurd ho (by simp [Owner.isTimer])
    · intro n hn; rw [hst, hth]; exact hv.only n hn
    · intro hx
      rw [hth]
      rcases ho with ho | ⟨-, ho⟩
      · exact hv.owner (ho ▸ hx)
      · exact absurd hx (by simp [ho])
  · rw [hd]; intro hj; exact absurd hj (by simp [hrest.junction])
  · rw [hf]; intro hp; rw [show (Footing.phase _) = u.view.footing.phase from rfl, hul] at hp; exact absurd hp (by simp)
  · rw [hd]; exact hrest
  · rw [hr]; exact supplyGone_radio u
  · intro _ p hp
    rw [hth] at hp
    rw [hf]
    refine List.mem_append_right _ ?_
    rw [huh, Option.mem_def.1 hp]
    exact List.mem_singleton.2 rfl

/-- R188: a raise that fails. -/
theorem supplyTimeout_turn (h : Turn r s) : Turn r (supplyTimeout s) := by
  unfold supplyTimeout
  split
  · next hp =>
    have ht : s.holderTag = s.view.footing.holder.map Prod.snd := by
      simp only [State.holderTag, State.view, State.footing]; cases s.sched.holder <;> rfl
    refine h.power .standby .off false (s.view.footing.lost ++ [s.view.footing.holder.map Prod.snd]) ?_
      (fun _ _ _ => ?_) (fun _ _ _ => ?_) (fun _ _ _ _ q hq => ?_)
    · dsimp only
      have hr (x : State) : (report (.supplyLost s.holderTag) x).view = { x.view with footing := { x.view.footing with
          lost := x.view.footing.lost ++ [s.view.footing.holder.map Prod.snd] } } := by
        simp [State.view, State.footing, State.deck, State.radio, report, Report.lostTag, ht]
      rw [hr, notify_view, enterStandby_view]; rfl
    · exact ⟨rfl, by simp⟩
    · simp [Footing.good, State.view, State.footing, hp.1]
    · rw [Option.mem_def.1 hq]; simp
  · exact h

/-- R190: a supply that fails. -/
theorem supplyFailed_turn (h : Turn r s) : Turn r (supplyFailed s) := by
  unfold supplyFailed
  split
  · dsimp only
    have hu : (notify (.supplyFail s.pwr.power s.mech.owner (decide (s.pwr.phase = .stopping)))
        (enterStandby (s.onPwr fun x => { x with phase := .off }))).view =
          { s.view with footing := { s.view.footing with power := .standby, phase := .off, onMark := false } } := by
      rw [notify_view, enterStandby_view]; rfl
    refine h.fallen _ ?_ ?_ rfl rfl
    · rw [hu]
    · rw [supplyGone_footing, hu]
  · exact h

/-- R193: the release at the end of a standby stop. -/
theorem stopRelease_turn (h : Turn r s) (b : Bool) : Turn r (stopRelease b s) := by
  unfold stopRelease
  split
  · refine h.fallen (s.onPwr fun x => { x with phase := .off }) rfl ?_ ?_ ?_ <;> rw [notify_view, enterStandby_view]
  · exact h

/-! ## Standby (R193) -/

/-- R193, R31: a standby stop of a part that is not in STANDBY. -/
theorem standbyStop_turn (h : Turn r s) (c : PowerCause) (hp : s.pwr.power ≠ .standby) : Turn r (standbyStop c s) := by
  have h0 : Turn r (s.onPwr fun x => { x with phase := .stopping, stopCause := c }) :=
    h.power s.pwr.power .stopping s.pwr.onMark s.view.footing.lost rfl (fun _ _ hs => absurd hs hp)
      (fun _ _ hg => absurd hg (by simp [Footing.good])) (fun _ _ _ hs => absurd hs hp)
  have h1 := h0.work (mechStandbyStop_work (View.Work.refl _)) fun hr => absurd hr.supply (by
    simp [Footing.good, State.view, State.footing, State.onPwr])
  unfold standbyStop
  dsimp only
  split
  · exact h1
  · exact stopRelease_turn h1 _

/-- R193: a standby request. -/
theorem standbyRequest_turn (h : Turn r s) (c : PowerCause) : Turn r (standbyRequest c s) := by
  unfold standbyRequest
  dsimp only
  split
  · next hp hph =>
    refine Turn.same ?_ (closeOn_view _ _ _)
    exact h.power s.pwr.power .off false s.view.footing.lost rfl (fun _ _ _ => ⟨rfl, by simp⟩)
      (fun _ _ _ => by simp [Footing.good, State.view, State.footing, hph]) (fun _ _ hx => hx)
  · exact h
  · exact h
  · next awake _ _ =>
    split
    · refine Turn.same ?_ (closeOn_view _ _ _)
      have h2 : Turn r ((clearResetMark s).onPwr fun x => { x with onMark := false }) :=
        h.power s.pwr.power s.pwr.phase false s.view.footing.lost rfl (fun _ _ hs => (awake hs).elim)
          (fun _ _ hg => hg) (fun _ _ _ hs => (awake hs).elim)
      split
      · exact h2
      · exact h2.power .timerOn s.pwr.phase false s.view.footing.lost rfl (fun _ _ hs => absurd hs (by simp))
          (fun _ _ hg => hg) (fun _ _ _ hs => absurd hs (by simp))
    · next ho =>
      split
      · next hr =>
        refine h.power .standby .off false s.view.footing.lost ?_ (fun _ _ _ => ⟨rfl, by simp⟩)
          (fun _ _ _ => by simp [Footing.good, State.view, State.footing, hr]) (fun hv _ _ _ q hq => ?_)
        · rw [notify_view, enterStandby_view]; rfl
        · rw [hv.no_holder (Bool.not_eq_true _ ▸ ho)] at hq; exact absurd hq (by simp)
      · exact standbyStop_turn (h.same (clearResetMark_view s)) c (fun hs => awake hs)

/-- R191, R193: the power key. -/
theorem powerKey_turn (h : Turn r s) : Turn r (powerKey s) := by
  unfold powerKey
  split
  · split
    · exact wake_turn h _
    · exact h
  · next hp =>
    split
    · exact h
    · split
      · exact wakeTimerOn_turn h _ hp
      · exact h
  · split
    · exact h
    · exact standbyRequest_turn h _

/-- R195: POWER ON. -/
theorem powerOn_turn (h : Turn r s) : Turn r (powerOn s).1 := by
  unfold powerOn
  split
  · exact h
  · exact h
  · exact wakeTimerOn_turn h _ ‹_›
  · exact (wakeTimerOn_turn h .request ‹_›).same rfl
  · refine Turn.same (wakeByFrame_turn (s := s.onPwr fun x => { x with onOpen := true }) h) ?_
    dsimp only
    rw [accepted_view, supplySeen_view]

/-- R195: POWER STANDBY. -/
theorem powerStandby_turn (h : Turn r s) : Turn r (powerStandby s).1 := by
  have h1 := standbyRequest_turn h .request
  unfold powerStandby
  dsimp only
  split
  · exact h1.same rfl
  · exact h1

/-- R197: the end of a recovery run. -/
theorem powerRecovered_turn (h : Turn r s) : Turn r (powerRecovered s) := by
  unfold powerRecovered
  split
  · split
    · exact standbyRequest_turn h _
    · exact h
    · exact h
  · exact h

/-! ## Claims (R194) -/

theorem powerTo_timerOn_turn (h : Turn r s) (c : PowerCause) : Turn r (powerTo .timerOn c s) :=
  h.power .timerOn s.pwr.phase s.pwr.onMark s.view.footing.lost rfl (fun _ _ hs => absurd hs (by simp))
    (fun _ _ hg => hg) (fun _ _ _ hs => absurd hs (by simp))

/-- R194: the claim of a grant. -/
theorem powerClaim_turn (h : Turn r s) : Turn r (powerClaim s) := by
  unfold powerClaim
  dsimp only
  split
  · next hph =>
    exact supplyRaise_turn (powerTo_timerOn_turn (h.same (clearResetMark_view s)) .claim) hph fun hs => absurd hs (by simp [powerTo])
  · exact powerTo_timerOn_turn (h.same (clearResetMark_view s)) _
  · have h2 (t : State) (e : t.view = { s.view with footing := { s.view.footing with power := .timerOn, phase := .up } }) :
        Turn r t :=
      h.power .timerOn .up s.pwr.onMark s.view.footing.lost e (fun _ _ hs => absurd hs (by simp))
        (fun _ _ hg => absurd hg (by simp [Footing.good])) (fun _ _ _ hs => absurd hs (by simp))
    split
    · exact h2 _ rfl
    · exact h2 _ rfl
  · exact h.same (clearResetMark_view s)

/-- R188: what a raised supply does to PWR. -/
theorem supplyUp_footing (s : State) : (supplyUp s).view.footing = { s.view.footing with
    power := if s.pwr.onMark then .on else s.pwr.power, phase := .up, onMark := false } := by
  have kept (y : State) : (report .supplyUp (tunerInit (recover y))).view.footing = y.view.footing := by
    rw [report_view _ _ (by simp)]
    exact (congrArg Prod.fst (tunerInit_ground (recover y))).trans (recover_work (View.Work.refl y.view)).footing
  unfold supplyUp
  dsimp only
  rw [kept]
  split
  · next ho =>
    have ho : s.pwr.onMark = true := ho
    rw [if_pos ho]; rfl
  · next ho =>
    have ho : s.pwr.onMark = false := (Bool.not_eq_true _).mp ho
    rw [if_neg (by simp [ho]), ← ho]; rfl

/-- R194: a claim leaves the programme, and the part out of STANDBY. -/
theorem powerClaim_footing (s : State) : ∃ p ph m, p ≠ .standby ∧
    (powerClaim s).view.footing = { s.view.footing with power := p, phase := ph, onMark := m } := by
  unfold powerClaim
  dsimp only
  split
  · unfold supplyRaise
    split
    · refine ⟨_, _, _, ?_, supplyUp_footing _⟩
      split
      · simp
      · exact fun hs => absurd (show Power.timerOn = .standby from hs) (by simp)
    · exact ⟨.timerOn, .raising, s.pwr.onMark, by simp, rfl⟩
  · exact ⟨.timerOn, s.pwr.phase, s.pwr.onMark, by simp, rfl⟩
  · split <;> exact ⟨.timerOn, .up, s.pwr.onMark, by simp, rfl⟩
  · next awake _ _ => exact ⟨s.pwr.power, s.pwr.phase, s.pwr.onMark, fun hs => awake hs, rfl⟩

end

end Sys2Proof.Machine

/-!
Sys2Proof/Proofs/Holder: the functions of the Programme Scheduler that act on the holder's own slot, and the end of an occurrence: that
each is a turn, and touches no other slot's standing.
-/

namespace Sys2Proof.Machine

/-! ## The programme's updates on the view -/

theorem Footing.stand_self (f : Footing) (k : Nat) : f.stand k (f.standing k) = f := by
  have : f.slots.set (k - 1) (f.standing k) = f.slots := by
    apply List.ext_getElem?
    intro j
    rw [List.getElem?_set]
    split
    · next hj =>
      subst hj
      split
      · next hl => simp [Footing.standing, List.getD_eq_getElem?_getD, List.getElem?_eq_getElem hl]
      · next hl => exact (List.getElem?_eq_none (by omega)).symm
    · rfl
  rw [Footing.stand, this]

theorem Footing.stand_stand (f : Footing) (k : Nat) (p q : EntryState × Bool) : (f.stand k p).stand k q = f.stand k q := by
  simp [Footing.stand]

theorem Footing.stand_beyond (f : Footing) (k : Nat) (p : EntryState × Bool) (h : ¬ k - 1 < f.slots.length) : f.stand k p = f := by
  simp only [Footing.stand, List.set_eq_of_length_le (Nat.le_of_not_lt h)]

theorem onSlot_view (k : Nat) (f : Slot → Slot) (s : State) :
    (onSlot k f s).view = { s.view with footing := s.view.footing.stand k (f (s.slot k)).standing } := by
  have : (s.sched.slots.modify (k - 1) f).map Slot.standing =
      (s.sched.slots.map Slot.standing).set (k - 1) (f (s.slot k)).standing := by
    apply List.ext_getElem?
    intro j
    simp only [List.getElem?_map, List.getElem?_modify, List.getElem?_set, List.length_map]
    by_cases hj : k - 1 = j
    · subst hj
      by_cases hl : k - 1 < s.sched.slots.length
      · simp [hl, State.slot, List.getD_eq_getElem?_getD]
      · simp [hl]
    · simp [hj]
  simp [onSlot, State.onSched, State.view, State.footing, State.deck, State.radio, Footing.stand, this]

/-- An update of a slot that its standing does not show. -/
theorem onSlot_view_unseen (k : Nat) (f : Slot → Slot) (s : State) (hf : ∀ t, (f t).standing = t.standing := by intro; rfl) :
    (onSlot k f s).view = s.view := by
  rw [onSlot_view, hf, slot_standing, Footing.stand_self]

@[simp] theorem onOcc_view (k : Nat) (f : Occurrence → Occurrence) (s : State) : (onOcc k f s).view = s.view :=
  onSlot_view_unseen k _ s (by simp [Slot.standing])

theorem onHolder_view (f : Holder → Holder) (s : State) (hf : ∀ h, (f h).place = h.place := by intro; rfl) : (onHolder f s).view = s.view := by
  have : (s.sched.holder.map f).map Holder.place = s.sched.holder.map Holder.place := by
    rw [Option.map_map]; exact congrArg (fun g => s.sched.holder.map g) (funext hf)
  simp [onHolder, State.onSched, State.view, State.footing, State.deck, State.radio, this]

theorem slotTo_view (k : Nat) (new : EntryState) (s : State) :
    (slotTo k new s).view = { s.view with footing := s.view.footing.stand k (new, (s.view.footing.standing k).2) } := by
  unfold slotTo
  dsimp only
  split
  · next h =>
    rw [← h, slot_state, Prod.mk.eta, Footing.stand_self]
  · rw [notify_view, onSlot_view, ← slot_occ]; rfl

/-- R143: the standing of a slot with a next occurrence, or without one. -/
def armedStanding (o : Option Occurrence) : EntryState × Bool := if o.isSome then (.armed, true) else (.done, false)

theorem armedStanding_holds (o : Option Occurrence) : (armedStanding o).1.holds = false := by
  unfold armedStanding; split <;> rfl

theorem arm_view (k : Nat) (s : State) :
    (arm k s).view = { s.view with footing := s.view.footing.stand k (armedStanding (s.nextOf k)) } := by
  have ht (new : EntryState) : (slotTo k new (onSlot k (fun t => { t with occ := s.nextOf k }) s)).view =
      { s.view with footing := s.view.footing.stand k (new, (s.nextOf k).isSome) } := by
    rw [slotTo_view, onSlot_view]
    dsimp only
    rw [Footing.stand_stand, Footing.standing_stand]
    by_cases hl : k - 1 < s.view.footing.slots.length
    · rw [if_pos ⟨rfl, hl⟩]; rfl
    · rw [Footing.stand_beyond _ _ _ hl, Footing.stand_beyond _ _ _ hl]
  unfold arm armedStanding
  dsimp only
  split
  · next h => rw [ht, h]
  · next h => rw [ht, (Bool.not_eq_true _).mp h]

/-- A timepoint that may be handed to BOX. -/
theorem timepoint_if_view (b : Bool) (k : Nat) (p : Timepoint) (s : State) :
    (if b = true then timepoint k p s else s).view = s.view := by
  cases b
  · rfl
  · exact timepoint_view k p s

theorem release_view (b : Bool) (k : Nat) (s : State) : (release b k s).view =
    { s.view with footing := { s.view.footing with holder := none },
                  deck := { s.view.deck with owner := releasedOwner s.mech } } := by
  simp only [release]
  rw [report_view _ _ (by simp), timepoint_view, sourceFollow_view]; rfl

theorem releasedOwner_isTimer (m : Mech) : (releasedOwner m).isTimer = false := by
  unfold releasedOwner; dsimp only; split <;> rfl

theorem holder_view {s : State} {h : Holder} (hh : s.sched.holder = some h) : s.view.footing.holder = some (h.slot, h.tag) := by
  simp [State.view, State.footing, hh, Holder.place]

/-! ## Serving the holder -/

/-- A turn that touches the standing of the holder's slot alone, and keeps the holder or lets it go. -/
structure View.Serves (v w : View) : Prop extends View.Turn v w where
  others : ∀ j, (∀ p ∈ v.footing.holder, p.1 - 1 ≠ j - 1) → w.footing.standing j = v.footing.standing j
  keeps  : w.footing.holder = v.footing.holder ∨ w.footing.holder = none

/-- The holder has been served from one state to another. -/
abbrev Serves (r s : State) : Prop := View.Serves r.view s.view

theorem Serves.turn {r s : State} (h : Serves r s) : Turn r s := h.toTurn

theorem Serves.refl (s : State) : Serves s s := { Turn.refl s with others := fun _ _ => rfl, keeps := .inl rfl }

section
variable {r s t : State}

theorem Serves.trans (h : Serves r s) (k : Serves s t) : Serves r t where
  toTurn := Turn.trans h.turn k.turn
  others j hj := by
    refine (k.others j fun p hp => ?_).trans (h.others j hj)
    rcases h.keeps with hk | hk
    · exact hj p (hk ▸ hp)
    · rw [hk] at hp; exact absurd hp (by simp)
  keeps := by
    rcases k.keeps with hk | hk
    · rw [hk]; exact h.keeps
    · exact .inr hk

theorem Serves.same (h : Serves r s) (e : t.view = s.view) : Serves r t := by rwa [Serves, e]

/-- A turn that leaves the slots and the holder. -/
theorem Serves.still (h : Serves r s) (k : Turn s t) (hs : t.view.footing.slots = s.view.footing.slots)
    (hh : t.view.footing.holder = s.view.footing.holder) : Serves r t :=
  h.trans { k with others := fun j _ => by simp only [Footing.standing, hs], keeps := .inl hh }

/-- R6: submitting a command for the holder. -/
theorem submit_serves (h : Serves r s) (c : Cmd) : Serves r (submit c s).1 :=
  h.still (submit_turn (Turn.refl s) c) (by rw [submit_footing]) (by rw [submit_footing])

theorem Serves.onHolder (h : Serves r s) (f : Holder → Holder) (hf : ∀ x, (f x).place = x.place := by intro; rfl) :
    Serves r (onHolder f s) := h.same (onHolder_view f s hf)

theorem Serves.onOcc (h : Serves r s) (k : Nat) (f : Occurrence → Occurrence) : Serves r (onOcc k f s) := h.same (onOcc_view k f s)

theorem Serves.report (h : Serves r s) (x : Report) (hx : ∀ tag, x ≠ .supplyLost tag := by simp) :
    Serves r (Machine.report x s) := h.same (report_view x s hx)

/-- The holder's entry changes to another state in which it holds. -/
theorem slotTo_serves (h : Serves r s) {k tag : Nat} (hh : s.view.footing.holder = some (k, tag)) (new : EntryState)
    (hn : new.holds = true := by rfl) : Serves r (slotTo k new s) := by
  have hk (hv : s.view.Held) := hv.holder (k, tag) hh
  refine h.trans { (Turn.refl s).stand k _ (slotTo_view k new s) (fun hv => ?_) with others := fun j hj => ?_, keeps := .inl ?_ }
  · obtain ⟨-, -, h3, h4, -⟩ := hk hv
    exact ⟨hn.trans h3.symm, fun _ => h4⟩
  · rw [slotTo_view]
    dsimp only
    rw [Footing.standing_stand, if_neg fun hi => hj (k, tag) hh hi.1]
  · rw [slotTo_view]; rfl

/-! ## The end of an occurrence (R167) -/

/-- R167, step 1: the state once the STOP of the end has been issued where one is called for. -/
def stopIssued (k : Nat) (out : EndCode) (noStop : Bool) (s : State) : State :=
  if (!noStop && (decide ((s.slot k).state = .preparing) || decide ((s.slot k).state = .recording) ||
      decide ((s.slot k).state = .held)) && needsStop out s) = true then
    (submit (timerCmd k s.sched.nextTag { what := .stop }) (s.onSched fun c => { c with nextTag := c.nextTag + 1 })).1
  else s

/-- R167: the state once the kept results of the occurrence stand in the slot. -/
def resultsKept (k : Nat) (out : EndCode) (noStop : Bool) (s : State) : State :=
  onSlot k (fun x => { x with lastDate := (s.slot k).date, outcome := out, recSeconds := s.recordedSeconds k })
    (if (match (s.slot k).occ with | none => false | some o => o.started) = true then
      timepoint k .recordEnd (stopIssued k out noStop s) else stopIssued k out noStop s)

/-- R143, R167: the entry state after the end. -/
def stateAfterEnd (k : Nat) (out : EndCode) (noStop : Bool) (s : State) : EntryState :=
  if ((match (s.slot k).entry with | some e => decide (e.repeats = .once) | none => true) ||
      ((resultsKept k out noStop s).nextOf k).isNone) = true then .done else .armed

/-- R143, R167: the occurrence of the slot after the end. -/
def occAfterEnd (k : Nat) (out : EndCode) (noStop : Bool) (s : State) : Option Occurrence :=
  if stateAfterEnd k out noStop s = .done then none else (resultsKept k out noStop s).nextOf k

/-- R167: the state once the slot has its new entry state, its notice queued. -/
def slotEnded (k : Nat) (out : EndCode) (noStop : Bool) (s : State) : State :=
  notify (.entryState k (s.slot k).state (stateAfterEnd k out noStop s) (s.slot k).date (some (out, s.recordedSeconds k)))
    (onSlot k (fun x => { x with state := stateAfterEnd k out noStop s, occ := occAfterEnd k out noStop s })
      (resultsKept k out noStop s))

theorem endOccurrence_eq (k : Nat) (out : EndCode) (noStop : Bool) (s : State) : endOccurrence k out noStop s =
    if (s.slot k).state.holds = true then release true k (slotEnded k out noStop s) else slotEnded k out noStop s := rfl

theorem stopIssued_turn (k : Nat) (out : EndCode) (noStop : Bool) (s : State) : Turn s (stopIssued k out noStop s) := by
  unfold stopIssued; split
  · exact submit_turn (s := s.onSched _) (Turn.refl s) _
  · exact Turn.refl s

theorem stopIssued_footing (k : Nat) (out : EndCode) (noStop : Bool) (s : State) :
    (stopIssued k out noStop s).view.footing = s.view.footing := by
  unfold stopIssued; split
  · exact submit_footing _ _
  · rfl

theorem resultsKept_view (k : Nat) (out : EndCode) (noStop : Bool) (s : State) :
    (resultsKept k out noStop s).view = (stopIssued k out noStop s).view := by
  unfold resultsKept
  refine (onSlot_view_unseen k _ _ ?_).trans (timepoint_if_view _ _ _ _)
  intro; rfl

theorem stateAfterEnd_holds (k : Nat) (out : EndCode) (noStop : Bool) (s : State) : (stateAfterEnd k out noStop s).holds = false := by
  have h (b : Bool) : (if b = true then EntryState.done else EntryState.armed).holds = false := by cases b <;> rfl
  exact h _

theorem slotEnded_view (k : Nat) (out : EndCode) (noStop : Bool) (s : State) : ∃ b, (slotEnded k out noStop s).view =
    { (stopIssued k out noStop s).view with footing := s.view.footing.stand k (stateAfterEnd k out noStop s, b) } := by
  refine ⟨(occAfterEnd k out noStop s).isSome, ?_⟩
  rw [slotEnded, notify_view, onSlot_view, resultsKept_view, stopIssued_footing]; rfl

theorem endOccurrence_turn (h : Turn r s) (k : Nat) (out : EndCode) (noStop : Bool) : Turn r (endOccurrence k out noStop s) := by
  obtain ⟨b, hb⟩ := slotEnded_view k out noStop s
  have hx := h.trans (stopIssued_turn k out noStop s)
  have hf := stopIssued_footing k out noStop s
  rw [endOccurrence_eq]
  split
  · next hh =>
    rw [slot_state, ← hf] at hh
    refine hx.free k (stateAfterEnd k out noStop s, b) (releasedOwner (slotEnded k out noStop s).mech) ?_
      (stateAfterEnd_holds k out noStop s) (releasedOwner_isTimer _) fun _ => hh
    rw [release_view, hb, hf]
  · next hh =>
    rw [slot_state, ← hf] at hh
    refine hx.stand k (stateAfterEnd k out noStop s, b) (by rw [hb, hf]) fun _ => ?_
    exact ⟨(stateAfterEnd_holds k out noStop s).trans (Bool.not_eq_true _ ▸ hh).symm, fun hc => absurd hc hh⟩

/-- R167: the end of an occurrence touches the standing of its slot alone, and lets the holder go at most. -/
theorem endOccurrence_others (k : Nat) (out : EndCode) (noStop : Bool) (s : State) (j : Nat) (hj : k - 1 ≠ j - 1) :
    (endOccurrence k out noStop s).view.footing.standing j = s.view.footing.standing j := by
  obtain ⟨b, hb⟩ := slotEnded_view k out noStop s
  have hst : (s.view.footing.stand k (stateAfterEnd k out noStop s, b)).standing j = s.view.footing.standing j := by
    rw [Footing.standing_stand, if_neg fun hi => hj hi.1]
  rw [endOccurrence_eq]
  split
  · rw [release_view, hb]; exact hst
  · rw [hb]; exact hst

theorem endOccurrence_keeps (k : Nat) (out : EndCode) (noStop : Bool) (s : State) :
    (endOccurrence k out noStop s).view.footing.holder = s.view.footing.holder ∨
      (endOccurrence k out noStop s).view.footing.holder = none := by
  obtain ⟨b, hb⟩ := slotEnded_view k out noStop s
  rw [endOccurrence_eq]
  split
  · rw [release_view]; exact .inr rfl
  · rw [hb]; exact .inl rfl

/-- R167: the end of the holder's occurrence. -/
theorem endOccurrence_serves (h : Serves r s) {k tag : Nat} (hh : s.view.footing.holder = some (k, tag)) (out : EndCode)
    (noStop : Bool) : Serves r (endOccurrence k out noStop s) :=
  h.trans { endOccurrence_turn (Turn.refl s) k out noStop with
            others := fun j hj => endOccurrence_others k out noStop s j (hj (k, tag) hh)
            keeps := endOccurrence_keeps k out noStop s }

theorem endHolder_serves (h : Serves r s) (out : EndCode) : Serves r (endHolder out s) := by
  unfold endHolder; split
  · exact h
  · next hh => exact endOccurrence_serves h (holder_view hh) _ _

theorem holderRefused_serves (h : Serves r s) (x : Reason) : Serves r (holderRefused x s) := by
  unfold holderRefused; split
  · exact endHolder_serves h _
  · exact h

/-! ## Commands for the holder (R153) -/

theorem pump_serves (h : Serves r s) : Serves r (pump s) := by
  unfold pump
  split
  · exact h
  · split
    · exact h
    · split
      · exact h
      · dsimp only
        split
        · exact (submit_serves (h.onHolder _) _).onHolder _
        · exact ((submit_serves (h.onHolder _) _).onHolder _).report _
        · exact holderRefused_serves (submit_serves (h.onHolder _) _) _

theorem wantMore_serves (h : Serves r s) (ws : List Wanted) : Serves r (wantMore ws s) := pump_serves (h.onHolder _)
theorem wantOnly_serves (h : Serves r s) (ws : List Wanted) : Serves r (wantOnly ws s) := pump_serves (h.onHolder _)
theorem startSkip_serves (h : Serves r s) (n : Int) (ws : List Wanted) : Serves r (startSkip n ws s) :=
  wantMore_serves (h.onHolder _) _

/-- The holder has been served from one state to another, and it is the one of this slot and tag still. -/
structure Serving (k tag : Nat) (r s : State) : Prop where
  serves : Serves r s
  holder : s.view.footing.holder = some (k, tag)

section
variable {k tag : Nat}

theorem Serves.serving (h : Serves r s) {x : Holder} (hx : s.sched.holder = some x) : Serving x.slot x.tag r s :=
  ⟨h, holder_view hx⟩

theorem Serving.same (h : Serving k tag r s) (e : t.view = s.view) : Serving k tag r t := ⟨h.serves.same e, by rw [e]; exact h.holder⟩

theorem Serving.onHolder (h : Serving k tag r s) (f : Holder → Holder) (hf : ∀ x, (f x).place = x.place := by intro; rfl) :
    Serving k tag r (onHolder f s) := h.same (onHolder_view f s hf)

theorem Serving.onOcc (h : Serving k tag r s) (j : Nat) (f : Occurrence → Occurrence) : Serving k tag r (onOcc j f s) :=
  h.same (onOcc_view j f s)

theorem Serving.onSched (h : Serving k tag r s) (f : Sched → Sched) (hs : (f s.sched).slots = s.sched.slots := by rfl)
    (hh : (f s.sched).holder = s.sched.holder := by rfl) : Serving k tag r (s.onSched f) :=
  h.same (by simp [State.onSched, State.view, State.footing, State.deck, State.radio, hs, hh])

theorem Serving.slotTo (h : Serving k tag r s) (new : EntryState) (hn : new.holds = true := by rfl) :
    Serving k tag r (slotTo k new s) :=
  ⟨slotTo_serves h.serves h.holder new hn, by rw [slotTo_view]; exact h.holder⟩

theorem Serving.ends (h : Serving k tag r s) (out : EndCode) (noStop : Bool) : Serves r (endOccurrence k out noStop s) :=
  endOccurrence_serves h.serves h.holder out noStop

end

/-! ## Preparation and recording (R151 to R165) -/

theorem enterRecording_serves (h : Serves r s) : Serves r (enterRecording s) := by
  unfold enterRecording
  split
  · exact h
  · next hd hh =>
    split
    · exact h
    · next o _ =>
      refine ((((h.serving hh).onOcc _ _).onSched _ ?_ ?_).onHolder _).slotTo _ |>.serves <;> cases o.mode <;> rfl

theorem issueRecord_serves (h : Serves r s) : Serves r (issueRecord s) := wantMore_serves (h.onHolder _) _
theorem beginRecording_serves (h : Serves r s) : Serves r (beginRecording s) := issueRecord_serves (enterRecording_serves h)

theorem deckReady_serves (h : Serves r s) : Serves r (deckReady s) := by
  unfold deckReady
  split
  · exact h
  · next hd hh =>
    have h0 := (h.serving hh).onHolder fun x => { x with retest := false }
    dsimp only
    split
    · exact h0.ends _ _
    · exact startSkip_serves h0.serves _ _
    · split
      · exact h0.serves
      · split
        · split
          · exact beginRecording_serves h0.serves
          · exact h0.serves
        · exact beginRecording_serves h0.serves
        · exact issueRecord_serves h0.serves
        · exact h0.serves

theorem readyTest_serves (h : Serves r s) : Serves r (readyTest s) := by
  unfold readyTest; split
  · exact deckReady_serves h
  · exact h

/-- R152: the TIMER tune of an entry. -/
theorem timerTuneEntry_serves (h : Serves r s) (k : Nat) (ht : timerTuneEntry k s = some t) : Serves r t := by
  have hr (n : Nat) (x : State) (hx : timerTune n s = some x) : Serves r x := by
    unfold timerTune at hx
    split at hx
    · exact absurd hx (by simp)
    · have hg := requestTune_ground (.preset n) (some { timer := true, box := .none }) false s
      rw [← Option.some.inj hx]
      exact h.still ((Turn.refl s).ground hg fun ha => requestTune_atRest ha _ _ _)
        (congrArg (fun g => g.1.slots) hg) (congrArg (fun g => g.1.holder) hg)
  unfold timerTuneEntry at ht
  split at ht
  · exact absurd ht (by simp)
  · split at ht
    · next s1 _ h1 _ =>
      split at ht
      · rw [← Option.some.inj ht]; exact (hr _ _ h1).same (timerSequence_view _ _)
      · rw [← Option.some.inj ht]; exact hr _ _ h1
    · exact absurd ht (by simp)

theorem prepare_serves (h : Serves r s) : Serves r (prepare s) := by
  unfold prepare
  split
  · exact h
  · next hd hh =>
    split
    · split
      · exact (h.serving hh).ends _ _
      · have h1 := (h.serving hh).onHolder fun x => { x with awaitDeck := false, moved := true }
        dsimp only
        split
        · exact h1.ends _ _
        · next s2 hs2 =>
          have h2 : Serves r s2 := by
            split at hs2
            · exact (Option.some.inj hs2) ▸ h1.serves
            · exact timerTuneEntry_serves h1.serves _ hs2
          split
          · exact startSkip_serves h2 _ _
          · exact wantMore_serves h2 _
    · exact h

theorem beginPreparing_serves (h : Serves r s) (m : Mode) : Serves r (beginPreparing m s) := by
  unfold beginPreparing
  split
  · exact h
  · next hd hh => exact prepare_serves ((((h.serving hh).onOcc _ _).slotTo _).onHolder _).serves

/-! ## Watching, labels and the holder's timers (R155 to R162) -/

theorem backToWatching_serves (h : Serves r s) : Serves r (backToWatching s) := by
  unfold backToWatching
  split
  · exact h
  · next hd hh => exact ((((h.serving hh).onOcc _ _).slotTo _).onSched _).onHolder _ |>.serves

theorem windowClosed_serves (h : Serves r s) : Serves r (windowClosed s) := by
  unfold windowClosed
  split
  · exact h
  · next hd hh => split <;> exact (h.serving hh).ends _ _

theorem fallbackTest_serves (h : Serves r s) : Serves r (fallbackTest s) := by
  unfold fallbackTest
  split
  · exact h
  · split
    · exact h
    · split
      · split
        · exact h.onOcc _ _
        · exact beginPreparing_serves (h.onOcc _ _) _
      · exact h

theorem holderInstants_serves (h : Serves r s) : Serves r (holderInstants s) := by
  unfold holderInstants
  split
  · exact h
  · split
    · exact h
    · split
      · split
        · exact windowClosed_serves h
        · exact fallbackTest_serves h
      · split
        · exact windowClosed_serves h
        · exact readyTest_serves h
      · exact h

theorem labelSeen_serves (h : Serves r s) : Serves r (labelSeen s) := by
  unfold labelSeen
  split
  · exact h
  · split
    · exact h
    · split
      · dsimp only
        split
        · exact wantOnly_serves (backToWatching_serves ((h.onOcc _ _).onOcc _ _)) _
        · exact h.onOcc _ _
      · exact h

theorem onSched_serves (h : Serves r s) (f : Sched → Sched) (hs : (f s.sched).slots = s.sched.slots := by rfl)
    (hh : (f s.sched).holder = s.sched.holder := by rfl) : Serves r (s.onSched f) :=
  h.same (by simp [State.onSched, State.view, State.footing, State.deck, State.radio, hs, hh])

theorem labelReport_serves (h : Serves r s) (x : LabelState) : Serves r (labelReport x s) := by
  unfold labelReport
  split
  · exact labelSeen_serves (onSched_serves h _)
  · unfold labelGone; split
    · exact onSched_serves h _
    · exact h

theorem resumeHeld_serves (h : Serves r s) : Serves r (resumeHeld s) := by
  unfold resumeHeld
  split
  · exact h
  · next hd hh =>
    have h1 := (h.serving hh).onSched fun c => { c with held := none }
    dsimp only
    split
    · exact readyTest_serves (enterRecording_serves h1.serves)
    · split
      · exact (h1.slotTo _).serves
      · exact wantMore_serves (h1.slotTo _).serves _

theorem pauseHeld_serves (h : Serves r s) : Serves r (pauseHeld s) := by
  unfold pauseHeld
  split
  · exact h
  · next hd hh =>
    have h1 := ((h.serving hh).slotTo .held).onSched fun c => { c with held := some s.now }
    dsimp only
    split
    · split
      · exact h1.serves
      · exact wantMore_serves h1.serves _
    · exact h1.serves

theorem followLabel_serves (h : Serves r s) (l : Label) (prior : Option Nat) : Serves r (followLabel l prior s) := by
  unfold followLabel
  split
  · exact h
  · next hd hh =>
    have ends := (h.serving hh).ends
    dsimp only
    split
    · exact h
    · split
      · split
        · split
          · exact beginPreparing_serves h _
          · split
            · exact ends _ _
            · exact h
        · split
          · exact ends _ _
          · split
            · exact pauseHeld_serves h
            · exact h
        · split
          · exact ends _ _
          · split
            · exact pauseHeld_serves h
            · exact h
        · split
          · exact ends _ _
          · split
            · exact resumeHeld_serves h
            · exact h
        · exact h
      · exact h

theorem labelNew_serves (h : Serves r s) (l : Label) (prior : Option Nat) : Serves r (labelNew l prior s) :=
  followLabel_serves (labelReport_serves h _) _ _

theorem stopTimeout_serves (h : Serves r s) : Serves r (stopTimeout s) := by
  unfold stopTimeout
  split
  · split
    · exact h
    · next hd hh => exact (h.serving hh).ends _ _
  · exact h

theorem scheduledStopTimeout_serves (h : Serves r s) : Serves r (scheduledStopTimeout s) := by
  unfold scheduledStopTimeout; split
  · exact (onSched_serves h _).onHolder _
  · exact h

theorem windowTimeout_serves (h : Serves r s) : Serves r (windowTimeout s) := by
  unfold windowTimeout; split
  · exact windowClosed_serves (onSched_serves h _)
  · exact h

theorem heldTimeout_serves (h : Serves r s) : Serves r (heldTimeout s) := by
  unfold heldTimeout; split
  · split
    · exact h
    · exact wantMore_serves (backToWatching_serves (h.onOcc _ _)) _
  · exact h

theorem labelLossTimeout_serves (h : Serves r s) : Serves r (labelLossTimeout s) := by
  unfold labelLossTimeout; split
  · split
    · exact h
    · next hd hh =>
      have h2 := ((h.serving hh).onOcc hd.slot fun o => { o with mode := .fallback }).onSched
        fun c => { c with loss := none, windowAt := none, schedAt := none, stopAt := c.schedAt, held := none }
      dsimp only
      split
      · exact h2.ends _ _
      · split
        · exact resumeHeld_serves h2.serves
        · exact h2.serves
  · exact h

/-! ## Reports to the holder (R153, R154, R162, R164, R165, R174) -/

theorem skipReached_serves (h : Serves r s) : Serves r (skipReached s) := by
  unfold skipReached
  split
  · exact h
  · split
    · exact h
    · split
      · exact wantMore_serves (h.onHolder _) _
      · exact h

theorem timerClosed_serves (h : Serves r s) (tag : Nat) (x : CloseResult) : Serves r (timerClosed tag x s) := by
  unfold timerClosed
  split
  · exact h
  · split
    · have h1 := h.onHolder fun x => { x with waiting := false }
      dsimp only
      split
      · split
        · exact holderRefused_serves h1 _
        · exact pump_serves h1
      · split
        · exact endHolder_serves h1 _
        · exact pump_serves h1
      · exact readyTest_serves (skipReached_serves (pump_serves h1))
    · exact h

theorem schedReport_serves (h : Serves r s) (out : EndCode) : Serves r (schedReport out s) := by
  unfold schedReport; split
  · exact endHolder_serves h _
  · exact h

theorem schedSpan_serves (h : Serves r s) (x : Option Int) : Serves r (schedSpan x s) := by
  unfold schedSpan
  split
  · exact h
  · next hd hh =>
    split
    · split
      · exact startSkip_serves h _ _
      · exact (h.serving hh).ends _ _
    · exact h

@[simp] theorem speedCheck_view (s : State) : (speedCheck s).view = s.view := by
  unfold speedCheck
  split
  · rfl
  · split
    · split
      · split
        · rfl
        · exact autoSpeed_view _ _
      · rfl
    · rfl

theorem schedRecording_serves (h : Serves r s) : Serves r (schedRecording s) := by
  unfold schedRecording
  split
  · exact h
  · split
    · dsimp only
      exact Serves.same ((h.onHolder _).onOcc _ _) ((speedCheck_view _).trans (timepoint_if_view _ _ _ _))
    · exact h

theorem schedEstimate_serves (h : Serves r s) : Serves r (schedEstimate s) := by
  unfold schedEstimate
  split
  · exact h
  · split
    · exact (h.onHolder _).same (speedCheck_view _)
    · exact h

theorem recordedCheck_serves (h : Serves r s) : Serves r (recordedCheck s) := by
  unfold recordedCheck
  split
  · exact h
  · split
    · exact h
    · split
      · exact (h.onOcc _ _).same (speedCheck_view _)
      · exact h

theorem schedSpeed_serves (h : Serves r s) (v : Speed) : Serves r (schedSpeed v s) := by
  unfold schedSpeed
  split
  · exact h
  · split
    · exact h
    · split
      · exact h
      · exact (h.onOcc _ _).same (notify_view _ _)

theorem schedPower_serves (h : Serves r s) (tag : Option Nat) : Serves r (schedPower tag s) := by
  unfold schedPower
  split
  · exact h
  · next hd hh =>
    split
    · exact (h.serving hh).ends _ _
    · exact h

theorem cancelOwner_turn (h : Turn r s) : Turn r (cancelOwner s) := by
  unfold cancelOwner; split
  · exact endOccurrence_turn h _ _ _
  · exact h

end

end Sys2Proof.Machine

/-!
Sys2Proof/Proofs/Arbiter: the turns of the Programme Scheduler that concern more than the holder's slot: missed occurrences, grants,
the wait order, clock steps and the requests on entries.
-/

namespace Sys2Proof.Machine

section
variable {r s t : State}

/-- What serves the holder is a turn. -/
theorem Turn.served (h : Turn r s) (k : Serves s t) : Turn r t := h.trans k.turn

/-- What is a turn wherever there was the one holder, and keeps the amplifier to RECORD in any case. -/
theorem Turn.when (h : Turn r s) (ha : s.view.deck.amp → t.view.deck.amp) (k : r.view.Held → Turn s t) : Turn r t where
  amp a := ha (h.amp a)
  held hr := (k hr).held (h.held hr)
  calm hr hc := (k hr).calm (h.held hr) (h.calm hr hc)
  reported hr hc hx := (k hr).reported (h.held hr) (h.calm hr hc) (h.reported hr hc hx)

theorem Turn.onOcc (h : Turn r s) (k : Nat) (f : Occurrence → Occurrence) : Turn r (onOcc k f s) := h.same (onOcc_view k f s)

theorem Turn.onSched (h : Turn r s) (f : Sched → Sched) (hs : (f s.sched).slots = s.sched.slots := by rfl)
    (hh : (f s.sched).holder = s.sched.holder := by rfl) : Turn r (s.onSched f) :=
  h.same (by simp [State.onSched, State.view, State.footing, State.deck, State.radio, hs, hh])

/-- An entry that does not hold the recorder changes to a state in which it does not. -/
theorem slotTo_turn (h : Turn r s) (k : Nat) (new : EntryState)
    (hk : s.view.Held → (s.view.footing.standing k).1.holds = false) (hn : new.holds = false := by rfl) :
    Turn r (slotTo k new s) :=
  h.stand k _ (slotTo_view k new s) fun hv => ⟨hn.trans (hk hv).symm, fun hc => absurd hc (by simp [hk hv])⟩

theorem arm_turn (h : Turn r s) (k : Nat) (hk : s.view.Held → (s.view.footing.standing k).1.holds = false) : Turn r (arm k s) :=
  h.stand k _ (arm_view k s) fun hv => ⟨(armedStanding_holds _).trans (hk hv).symm, fun hc => absurd hc (by simp [hk hv])⟩

/-- A slot that is given a standing in which it does not hold, or that was not in the table, does not hold. -/
theorem Footing.stand_holds (f : Footing) (k : Nat) (p : EntryState × Bool) (hp : p.1.holds = false) :
    ((f.stand k p).standing k).1.holds = false := by
  rw [Footing.standing_stand]
  split
  · exact hp
  · next hl =>
    by_contra hc
    exact hl ⟨rfl, f.in_table k (by simpa using hc)⟩

/-! ## Grants (R146, R150) -/

/-- The recorder is open to a slot: no entry holds it, and the slot has an occurrence. -/
structure View.Open (v : View) (k : Nat) : Prop where
  places : v.footing.slots.length = 16
  holder : v.footing.holder = none
  none   : ∀ n < 16, (v.footing.standing (n + 1)).1.holds = false
  low    : 1 ≤ k
  high   : k ≤ 16
  occ    : (v.footing.standing k).2 = true

/-- What a grant does: an open recorder is held under its owner afterwards, and no other slot is touched. -/
structure View.Granted (k : Nat) (v w : View) : Prop where
  amp      : v.deck.amp → w.deck.amp
  held     : v.Open k → w.Held
  calm     : v.Open k → v.Calm → w.Calm
  reported : v.Open k → v.Calm → w.Reported
  others   : ∀ j, j - 1 ≠ k - 1 → w.footing.standing j = v.footing.standing j

theorem setOwner_view (o : Owner) (s : State) :
    (setOwner o s).view = { s.view with deck := { s.view.deck with owner := o } } := by
  unfold setOwner; split
  · next h => rw [← h]; rfl
  · rw [report_view _ _ (by simp)]; rfl

/-- The slot is made a holding one with a new holder, and the recorder has its owner. -/
def View.taken (v : View) (k tag : Nat) (new : EntryState) : View :=
  { v with footing := { v.footing.stand k (new, (v.footing.standing k).2) with holder := some (k, tag) },
           deck := { v.deck with owner := .timer k } }

theorem View.taken_standing (v : View) (k tag : Nat) (new : EntryState) (j : Nat) : (v.taken k tag new).footing.standing j =
    if k - 1 = j - 1 ∧ k - 1 < v.footing.slots.length then (new, (v.footing.standing k).2) else v.footing.standing j :=
  Footing.standing_stand _ _ _ _

theorem View.Open.taken_held {v : View} {k : Nat} (h : v.Open k) (tag : Nat) (new : EntryState) (hn : new.holds = true) :
    (v.taken k tag new).Held where
  places := (Footing.stand_length _ _ _).trans h.places
  holder := by
    rintro p ⟨⟩
    refine ⟨h.low, h.high, ?_, ?_, rfl⟩ <;>
      rw [View.taken_standing, if_pos ⟨rfl, by have := h.low; have := h.high; have := h.places; omega⟩]
    · exact hn
    · exact h.occ
  only := by
    intro n hn' hx
    rw [View.taken_standing] at hx
    split at hx
    · next hi =>
      have := h.low
      exact congrArg some (show k = n + 1 by omega)
    · rw [h.none n hn'] at hx; exact absurd hx (by simp)
  owner := fun _ => rfl

theorem View.Calm.taken {v : View} (h : v.Calm) (k tag : Nat) (new : EntryState) : (v.taken k tag new).Calm where
  joined := h.joined
  standby := h.standby
  rest hg := by
    obtain ⟨hd1, hd2, hd3, hd4, hd5, hd6, hd7, hd8⟩ := (h.rest hg).deck
    exact ⟨hg, ⟨hd1, hd2, hd3, hd4, hd5, hd6, hd7, hd8⟩, (h.rest hg).radio⟩

/-- R150: what a grant does, once the slot is the holder's, is a turn that puts the part out of STANDBY. -/
theorem grantEffects_view (k : Nat) (s : State) : ∃ x : State, x.view = { s.view with deck := { s.view.deck with owner := .timer k } } ∧
    Serves x (grantEffects k s) ∧ (grantEffects k s).view.footing.power ≠ .standby := by
  have hx : ((sourceFollow (searchCancel true (setOwner (.timer k) s)))).view =
      { s.view with deck := { s.view.deck with owner := .timer k } } := by
    rw [sourceFollow_view, searchCancel_view, setOwner_view]
  refine ⟨_, hx, ?_, ?_⟩
  · have hg := scanEnd_ground .preempted (sourceFollow (searchCancel true (setOwner (.timer k) s)))
    have h1 : Serves _ (scanEnd .preempted (sourceFollow (searchCancel true (setOwner (.timer k) s)))) :=
      (Serves.refl _).still ((Turn.refl _).ground hg fun ha => by rw [scanEnd_atRest ha])
        (congrArg (fun g => g.1.slots) hg) (congrArg (fun g => g.1.holder) hg)
    have h2 := onSched_serves h1 fun c => { c with post := none }
    obtain ⟨p, ph, m, -, hf⟩ := powerClaim_footing
      ((scanEnd .preempted (sourceFollow (searchCancel true (setOwner (.timer k) s)))).onSched fun c => { c with post := none })
    exact (h2.still (powerClaim_turn (Turn.refl _)) (by rw [hf]) (by rw [hf])).same (timepoint_view _ _ _)
  · obtain ⟨p, ph, m, hp, hf⟩ := powerClaim_footing
      ((scanEnd .preempted (sourceFollow (searchCancel true (setOwner (.timer k) s)))).onSched fun c => { c with post := none })
    unfold grantEffects
    dsimp only
    rw [timepoint_view, hf]; exact hp

/-- A slot taken, and then served. -/
theorem Granted.of_taken {k tag : Nat} {new : EntryState} (hn : new.holds = true) {x y : State}
    (hx : x.view = s.view.taken k tag new) (hy : Serves x y) (hp : y.view.footing.power ≠ .standby) (h : Serves y t) :
    View.Granted k s.view t.view where
  amp a := (hy.trans h).amp (by rw [hx]; exact a)
  held ho := (hy.trans h).held (by rw [hx]; exact ho.taken_held tag new hn)
  calm ho hc := (hy.trans h).calm (by rw [hx]; exact ho.taken_held tag new hn) (by rw [hx]; exact hc.taken k tag new)
  reported ho hc := by
    have hxh : x.view.Held := by rw [hx]; exact ho.taken_held tag new hn
    have hxc : x.view.Calm := by rw [hx]; exact hc.taken k tag new
    exact h.reported (hy.held hxh) (hy.calm hxh hxc) fun hs => absurd hs hp
  others j hj := by
    refine ((hy.trans h).others j fun p hq => ?_).trans ?_
    · rw [hx, Option.mem_def] at hq
      exact Option.some.inj hq ▸ Ne.symm hj
    · rw [hx, View.taken_standing, if_neg fun hi => hj hi.1.symm]

theorem grant_granted (k : Nat) (s : State) : View.Granted k s.view (grant k s).view := by
  unfold grant
  dsimp only
  split
  · obtain ⟨x, hx, hs, hp⟩ := grantEffects_view k (slotTo k .watching (s.onSched fun c =>
      { c with holder := some (newHolder k c.nextTag s.now), nextTag := c.nextTag + 1, stopAt := none, schedAt := none,
               windowAt := none, held := none, loss := none }))
    rw [slotTo_view] at hx
    split
    · exact Granted.of_taken (tag := s.sched.nextTag) rfl hx hs hp (Serves.refl _)
    · next s3 h3 => exact Granted.of_taken (tag := s.sched.nextTag) rfl hx hs hp (timerTuneEntry_serves (Serves.refl _) k h3)
  · obtain ⟨x, hx, hs, hp⟩ := grantEffects_view k (slotTo k .preparing (onOcc k (fun o =>
      { o with late := o.late || decide (o.start * 1024 < (s.clock.reading : Int)) }) (s.onSched fun c =>
      { c with holder := some (newHolder k c.nextTag s.now), nextTag := c.nextTag + 1, stopAt := none, schedAt := none,
               windowAt := none, held := none, loss := none })))
    rw [slotTo_view, onOcc_view] at hx
    exact Granted.of_taken (tag := s.sched.nextTag) rfl hx hs hp (beginPreparing_serves (Serves.refl _) _)

/-- Without a holder the recorder is open to a slot with an occurrence. -/
theorem View.Held.isOpen {v : View} (hv : v.Held) (hn : v.footing.holder = none) {k : Nat} (h1 : 1 ≤ k) (h2 : k ≤ 16)
    (ho : (v.footing.standing k).2 = true) : v.Open k where
  places := hv.places
  holder := hn
  none n hn' := by
    by_contra hc
    have := hv.only n hn' (by simpa using hc)
    simp [hn] at this
  low := h1
  high := h2
  occ := ho

/-- What a slot must be for its claim to be answered: in the table, with an occurrence, and not holding. -/
structure Footing.Waits (f : Footing) (k : Nat) : Prop where
  low   : 1 ≤ k
  high  : k ≤ 16
  holds : (f.standing k).1.holds = false
  occ   : (f.standing k).2 = true

theorem grant_turn (h : Turn r s) {k : Nat} (hk : r.view.Held → s.view.footing.Waits k)
    (hn : r.view.Held → s.view.footing.holder = none) : Turn r (grant k s) := by
  have hg := grant_granted k s
  refine h.when hg.amp fun hr => ?_
  have ho : s.view.Open k := (h.held hr).isOpen (hn hr) (hk hr).low (hk hr).high (hk hr).occ
  exact ⟨hg.amp, fun _ => hg.held ho, fun _ => hg.calm ho, fun _ hc _ => hg.reported ho hc⟩

/-! ## The wait order (R146 to R148) -/

/-- The end of the holder's occurrence leaves no holder. -/
theorem endHolder_frees (out : EndCode) (hv : s.view.Held) : (endHolder out s).view.footing.holder = none := by
  unfold endHolder
  split
  · next hn => simp [State.view, State.footing, hn]
  · next hd hh =>
    have hs := (hv.holder _ (holder_view hh)).2.2.1
    rw [← slot_state] at hs
    rw [endOccurrence_eq, if_pos hs, release_view]

theorem endHolder_others (out : EndCode) (hv : s.view.Held) (j : Nat) (hj : (s.view.footing.standing j).1.holds = false) :
    (endHolder out s).view.footing.standing j = s.view.footing.standing j := by
  refine (endHolder_serves (Serves.refl s) out).others j fun p hp hi => ?_
  have := (hv.holder p hp).2.2.1
  rw [show s.view.footing.standing p.1 = s.view.footing.standing j by simp only [Footing.standing, hi], hj] at this
  exact absurd this (by simp)

theorem Footing.Waits.of_eq {f g : Footing} {k : Nat} (h : f.Waits k) (e : g.standing k = f.standing k) : g.Waits k :=
  ⟨h.low, h.high, e ▸ h.holds, e ▸ h.occ⟩

/-- R147: what the preemption of a WATCHING holder does to the view. -/
theorem preemptWatching_view {hd : Holder} (hh : s.sched.holder = some hd) : (preemptWatching s).view =
    { s.view with footing := { s.view.footing.stand hd.slot (.armed, (s.view.footing.standing hd.slot).2) with holder := none } } := by
  have hn (x : State) : (x.onSched fun c => { c with holder := none }).view =
      { x.view with footing := { x.view.footing with holder := none } } := rfl
  unfold preemptWatching
  rw [hh]
  dsimp only
  rw [timepoint_view, hn, slotTo_view]

/-- A slot that does not hold is not the holder's. -/
theorem View.Held.slot_ne {v : View} (hv : v.Held) {p : Nat × Nat} (hp : v.footing.holder = some p) {j : Nat}
    (hj : (v.footing.standing j).1.holds = false) : p.1 - 1 ≠ j - 1 := by
  intro hi
  have := (hv.holder p hp).2.2.1
  rw [show v.footing.standing p.1 = v.footing.standing j by simp only [Footing.standing, hi], hj] at this
  exact absurd this (by simp)

theorem preemptWatching_others {hd : Holder} (hh : s.sched.holder = some hd) (j : Nat) (hj : hd.slot - 1 ≠ j - 1) :
    (preemptWatching s).view.footing.standing j = s.view.footing.standing j := by
  rw [preemptWatching_view hh]
  exact (Footing.standing_stand _ _ _ _).trans (if_neg fun hi => hj hi.1)

theorem preemptWatching_open {hd : Holder} (hh : s.sched.holder = some hd) (hv : s.view.Held) {k : Nat}
    (hk : s.view.footing.Waits k) : (preemptWatching s).view.Open k where
  places := by rw [preemptWatching_view hh]; exact (Footing.stand_length _ _ _).trans hv.places
  holder := by rw [preemptWatching_view hh]
  none n hn := by
    by_cases hi : hd.slot - 1 = (n + 1) - 1
    · rw [preemptWatching_view hh]
      have := Footing.stand_holds s.view.footing hd.slot (.armed, (s.view.footing.standing hd.slot).2) rfl
      simp only [Footing.standing, hi] at this ⊢
      exact this
    · rw [preemptWatching_others hh _ hi]
      by_contra hc
      have := hv.only n hn (by simpa using hc)
      rw [holder_view hh] at this
      exact hi (congrArg (· - 1) (Option.some.inj this))
  low := hk.low
  high := hk.high
  occ := by rw [preemptWatching_others hh _ (hv.slot_ne (holder_view hh) hk.holds)]; exact hk.occ

/-- R147: a fixed entry that takes the recorder from a WATCHING holder. -/
theorem takeFromWatching_turn (h : Turn r s) {k : Nat} (hk : r.view.Held → s.view.footing.Waits k) :
    Turn r (takeFromWatching k s) := by
  unfold takeFromWatching
  split
  · next hn => exact grant_turn h hk fun _ => by simp [State.view, State.footing, hn]
  · next hd hh =>
    have hg := grant_granted k (preemptWatching s)
    have hpv := preemptWatching_view hh
    refine h.when (fun ha => ?_) fun hr => ?_
    · rw [slotTo_view]
      exact hg.amp (by rw [hpv]; exact ha)
    have hv := h.held hr
    have ready := preemptWatching_open hh hv (hk hr)
    have armed : ((grant k (preemptWatching s)).view.footing.standing hd.slot).1.holds = false := by
      rw [hg.others _ (hv.slot_ne (holder_view hh) (hk hr).holds), hpv]
      exact Footing.stand_holds _ _ _ rfl
    have blocked := slotTo_turn (Turn.refl (grant k (preemptWatching s))) hd.slot .blocked fun _ => armed
    have calm (hc : s.view.Calm) : (preemptWatching s).view.Calm := by
      rw [hpv]; exact ⟨hc.joined, hc.standby, fun hf => ⟨hf, (hc.rest hf).deck, (hc.rest hf).radio⟩⟩
    refine ⟨fun ha => ?_, fun _ => blocked.held (hg.held ready), fun _ hc => blocked.calm (hg.held ready) (hg.calm ready (calm hc)),
      fun _ hc _ => blocked.reported (hg.held ready) (hg.calm ready (calm hc)) (hg.reported ready (calm hc))⟩
    rw [slotTo_view]
    exact hg.amp (by rw [hpv]; exact ha)

theorem takeFromWatching_others (k : Nat) (hv : s.view.Held) (j : Nat) (hj : (s.view.footing.standing j).1.holds = false)
    (hjk : j - 1 ≠ k - 1) : (takeFromWatching k s).view.footing.standing j = s.view.footing.standing j := by
  unfold takeFromWatching
  split
  · exact (grant_granted k s).others j hjk
  · next hd hh =>
    have hne := hv.slot_ne (holder_view hh) hj
    rw [slotTo_view]
    exact (Footing.standing_stand _ _ _ _).trans ((if_neg fun hi => hne hi.1).trans
      (((grant_granted k _).others j hjk).trans (preemptWatching_others hh j hne)))

/-- A slot that waits is BLOCKED. -/
theorem blocked_turn (h : Turn r s) {k : Nat} (hk : r.view.Held → s.view.footing.Waits k) : Turn r (slotTo k .blocked s) :=
  h.when (by rw [slotTo_view]; exact id) fun hr => slotTo_turn (Turn.refl s) k .blocked fun _ => (hk hr).holds

theorem blocked_others (k j : Nat) (s : State) (hj : j - 1 ≠ k - 1) :
    (slotTo k .blocked s).view.footing.standing j = s.view.footing.standing j := by
  rw [slotTo_view]; exact (Footing.standing_stand _ _ _ _).trans (if_neg fun hi => hj hi.1.symm)

/-- R146: a claim is granted at once only where no entry holds the recorder. -/
theorem decideClaim_granted {k : Nat} (h : decideClaim s k = .granted) : s.sched.holder = none := by
  unfold decideClaim at h
  split at h
  · assumption
  · split at h
    · exact absurd h (by simp)
    · split at h
      · exact absurd h (by simp)
      · split at h <;> exact absurd h (by simp)
      · split at h <;> exact absurd h (by simp)
      · exact absurd h (by simp)

theorem answerClaims_turn (ks : List Nat) (granted : Bool) (h : Turn r s)
    (hk : r.view.Held → ∀ k ∈ ks, s.view.footing.Waits k) (hn : ks.Nodup) : Turn r (answerClaims ks granted s) := by
  induction ks generalizing s granted with
  | nil => exact h
  | cons k ks ih =>
    obtain ⟨hnot, hnd⟩ := List.nodup_cons.1 hn
    have first (hr : r.view.Held) := hk hr k List.mem_cons_self
    have rest (hr : r.view.Held) : ∀ j ∈ ks, s.view.footing.Waits j ∧ j - 1 ≠ k - 1 := by
      intro j hj
      have hwj := hk hr j (List.mem_cons_of_mem _ hj)
      have := hwj.low
      have := (first hr).low
      exact ⟨hwj, fun hi => hnot ((show j = k by omega) ▸ hj)⟩
    have go (b : Bool) {t : State} (ht : Turn r t)
        (he : r.view.Held → ∀ j ∈ ks, t.view.footing.standing j = s.view.footing.standing j) : Turn r (answerClaims ks b t) :=
      ih b ht (fun hr j hj => (rest hr j hj).1.of_eq (he hr j hj)) hnd
    have wait (b : Bool) := go b (blocked_turn h first) fun hr j hj => blocked_others k j s (rest hr j hj).2
    unfold answerClaims
    split
    · exact wait true
    · split
      · next hd =>
        refine go true (grant_turn h first fun _ => ?_) fun hr j hj => (grant_granted k s).others j (rest hr j hj).2
        simp [State.view, State.footing, decideClaim_granted hd]
      · exact go true (takeFromWatching_turn h first) fun hr j hj =>
          takeFromWatching_others k (h.held hr) j (rest hr j hj).1.holds (rest hr j hj).2
      · have he := h.served (endHolder_serves (Serves.refl s) .short)
        have kept (hr : r.view.Held) (j : Nat) (hj : s.view.footing.Waits j) := endHolder_others .short (h.held hr) j hj.holds
        refine go true (grant_turn he (fun hr => (first hr).of_eq (kept hr k (first hr))) fun hr => endHolder_frees _ (h.held hr))
          fun hr j hj => ?_
        exact ((grant_granted k _).others j (rest hr j hj).2).trans (kept hr j (rest hr j hj).1)
      · exact wait false

/-- R148: the wait order holds each claiming slot once. -/
theorem insertClaim_perm (s : State) (k : Nat) (l : List Nat) : (insertClaim s k l).Perm (k :: l) := by
  induction l with
  | nil => exact .refl _
  | cons j js ih =>
    unfold insertClaim
    split
    · exact (ih.cons j).trans (.swap k j js)
    · exact .refl _

theorem waitOrder_perm (s : State) : (waitOrder s).Perm (slotNumbers.filter (claims s)) := by
  have h (l acc : List Nat) : (l.foldl (fun l k => insertClaim s k l) acc).Perm (l ++ acc) := by
    induction l generalizing acc with
    | nil => exact .refl _
    | cons k l ih => exact (ih _).trans (((insertClaim_perm s k acc).append_left l).trans List.perm_middle)
  have := h (slotNumbers.filter (claims s)) []
  rwa [List.append_nil] at this

theorem waitOrder_nodup (s : State) : (waitOrder s).Nodup :=
  (waitOrder_perm s).nodup_iff.2 ((by decide : slotNumbers.Nodup).filter _)

theorem waits_of_mem_waitOrder {k : Nat} (hk : k ∈ waitOrder s) : s.view.footing.Waits k := by
  obtain ⟨hm, hc⟩ := List.mem_filter.1 ((waitOrder_perm s).mem_iff.1 hk)
  have hr := (by decide : ∀ k ∈ slotNumbers, 1 ≤ k ∧ k ≤ 16) k hm
  unfold claims at hc
  split at hc
  · exact absurd hc (by simp)
  · next o ho =>
    refine ⟨hr.1, hr.2, ?_, ?_⟩
    · rw [← slot_state]
      split at hc
      · next hs => rw [hs]; rfl
      · next hs => rw [hs]; rfl
      · exact absurd hc (by simp)
    · rw [← slot_occ, ho]; rfl

/-! ## Evaluations (R145, R149) -/

theorem missOccurrence_turn (h : Turn r s) (k : Nat) : Turn r (missOccurrence k s) := endOccurrence_turn (h.onOcc _ _) _ _ _

theorem missTest_turn (h : Turn r s) (k : Nat) : Turn r (missTest k s) := by
  unfold missTest
  split
  · exact h
  · split
    · exact missOccurrence_turn h k
    · exact h

theorem windowOpening_turn (h : Turn r s) (k : Nat) : Turn r (windowOpening k s) := by
  unfold windowOpening
  split
  · exact h
  · split
    · exact h.onOcc _ _
    · exact h

/-- A fold of turns is a turn. -/
theorem foldl_turn (f : State → Nat → State) (hf : ∀ {s : State} (k : Nat), Turn r s → Turn r (f s k)) (l : List Nat)
    (h : Turn r s) : Turn r (l.foldl f s) := by
  induction l generalizing s with
  | nil => exact h
  | cons k l ih => exact ih (hf k h)

theorem setDue_turn (h : Turn r s) : Turn r (setDue s) := h.onSched _

theorem evaluate_turn (h : Turn r s) : Turn r (evaluate s) := by
  unfold evaluate
  split
  · have h1 := foldl_turn (fun x k => missTest k x) (fun k h => missTest_turn h k) slotNumbers h
    have h2 := foldl_turn (fun x k => windowOpening k x) (fun k h => windowOpening_turn h k) slotNumbers h1
    have h3 := h2.served (holderInstants_serves (Serves.refl _))
    exact setDue_turn (answerClaims_turn _ _ h3 (fun _ k hk => waits_of_mem_waitOrder hk) (waitOrder_nodup _))
  · exact setDue_turn h

theorem dueTimeout_turn (h : Turn r s) : Turn r (dueTimeout s) := by
  unfold dueTimeout; split
  · exact evaluate_turn (h.onSched _)
  · exact h

theorem postHoldTimeout_turn (h : Turn r s) : Turn r (postHoldTimeout s) := by
  have h1 : Turn r (s.onSched fun c => { c with post := none }) := h.onSched _
  unfold postHoldTimeout
  split
  · exact h
  · split
    · dsimp only
      split
      · split
        · exact standbyRequest_turn h1 _
        · split
          · exact submit_turn (h1.onSched _) _
          · exact h1
      · exact h1
    · exact h

/-! ## Clock steps (R173) -/

theorem stepOpening_turn (h : Turn r s) (k : Nat) : Turn r (stepOpening k s) := h.onOcc _ _

theorem stepSlot_turn (h : Turn r s) (k : Nat) : Turn r (stepSlot k s) := by
  have free {x : EntryState} (hx : (s.slot k).state = x) (hn : x.holds = false) (_ : s.view.Held) :
      (s.view.footing.standing k).1.holds = false := by rw [← slot_state, hx]; exact hn
  unfold stepSlot
  split
  · next hs _ =>
    split
    · exact missOccurrence_turn h k
    · exact arm_turn h k (free hs rfl)
  · next hs _ => exact arm_turn h k (free hs rfl)
  · next hs => exact arm_turn h k (free hs rfl)
  · next hs _ =>
    split
    · exact missOccurrence_turn h k
    · split
      · exact h
      · refine arm_turn (slotTo_turn h k .armed (free hs rfl)) k fun _ => ?_
        rw [slotTo_view]; exact Footing.stand_holds _ _ _ rfl
  · exact h

/-- R173: a holder that returns to ARMED releases the recorder, after the STOP it may need. -/
theorem releaseArmed_turn (h : Turn r s) {hd : Holder} (hh : s.sched.holder = some hd) {x : State}
    (w : View.Work (slotTo hd.slot .armed s).view x.view) (hr : (slotTo hd.slot .armed s).AtRest → x.view = (slotTo hd.slot .armed s).view) :
    Turn r (release false hd.slot x) := by
  have hv1 := slotTo_view hd.slot .armed s
  have hf : x.view.footing = s.view.footing.stand hd.slot (.armed, (s.view.footing.standing hd.slot).2) := by
    rw [w.footing, hv1]
  have hw : View.Work s.view { x.view with footing := s.view.footing } := by
    refine ⟨rfl, ?_, ?_, ?_⟩
    · have := w.owner; rw [hv1] at this; exact this
    · have := w.amp; rw [hv1] at this; exact this
    · have := w.joined; rw [hv1] at this; exact this
  refine (View.Turn.work h hw fun hs => ?_).free hd.slot (.armed, (s.view.footing.standing hd.slot).2) (releasedOwner x.mech) ?_ rfl
    (releasedOwner_isTimer _) fun hv => (hv.holder _ (holder_view hh)).2.2.1
  · rw [hr (by rw [State.AtRest, hv1]; exact ⟨hs.supply, hs.deck, hs.radio⟩), hv1]
  · rw [release_view, hf]

theorem stepHolder_turn (h : Turn r s) (e : StepEvent) : Turn r (stepHolder e s) := by
  unfold stepHolder
  split
  · exact h
  · next hd hh =>
    split
    · exact h
    · split
      · split
        · dsimp only
          split
          · refine releaseArmed_turn h hh (submit_work ?_ _) fun hr => submit_view_atRest ?_ _
            · exact View.Work.refl _
            · exact hr
          · exact releaseArmed_turn h hh (View.Work.refl _) fun _ => rfl
        · split
          · split
            · exact h.served (windowClosed_serves (Serves.refl s))
            · exact endOccurrence_turn h _ _ _
          · split
            · exact h.onOcc _ _
            · exact h
      · exact h

theorem schedStepped_turn (h : Turn r s) (e : StepEvent) : Turn r (schedStepped e s) := by
  unfold schedStepped
  refine evaluate_turn (foldl_turn _ (fun k h => stepSlot_turn h k) slotNumbers (stepHolder_turn
    (foldl_turn _ (fun k h => stepOpening_turn h k) slotNumbers (h.same ?_)) e))
  simp only [State.onSched, State.view, State.footing, State.deck, State.radio]
  split
  · rw [List.map_map]; rfl
  · rfl

/-! ## Requests on entries (R140, R170 to R172) -/

theorem storeEntry_turn (h : Turn r s) (k : Nat) (e : Entry) (hk : (s.slot k).state.holds = false) : Turn r (storeEntry k e s) := by
  have hs : (s.view.footing.standing k).1.holds = false := by rw [← slot_state]; exact hk
  have hv := onSlot_view k (fun t => { t with entry := some e, lastDate := none, outcome := .none, recSeconds := 0, occ := none }) s
  have h1 : Turn r (onSlot k (fun t => { t with entry := some e, lastDate := none, outcome := .none, recSeconds := 0, occ := none }) s) :=
    h.stand k _ hv fun _ => ⟨hk.trans hs.symm, fun hc => absurd hc (by simp [hs])⟩
  have free : ((onSlot k (fun t => { t with entry := some e, lastDate := none, outcome := .none, recSeconds := 0, occ := none })
      s).view.footing.standing k).1.holds = false := by
    rw [hv]; exact Footing.stand_holds _ _ _ hk
  unfold storeEntry
  dsimp only
  split
  · exact (arm_turn h1 k fun _ => free).report _
  · exact (slotTo_turn h1 k .disabled fun _ => free).report _

theorem entryWrite_turn (h : Turn r s) (n : Nat) (x : EntryRecord) : Turn r (entryWrite n x s).1 := by
  unfold entryWrite
  split
  · exact h
  · split
    · exact h
    · split
      · exact h
      · split
        · exact h
        · next hk =>
          split
          · exact h
          · split
            · exact h
            · exact storeEntry_turn h _ _ ((Bool.not_eq_true _).mp hk)

theorem entryRead_turn (h : Turn r s) (k : Nat) : Turn r (entryRead k s).1 := by
  unfold entryRead; split <;> exact h

theorem entryCancel_turn (h : Turn r s) (k : Nat) : Turn r (entryCancel k s).1 := by
  unfold entryCancel
  split
  · exact h
  · split
    · exact (endOccurrence_turn h k _ _).report .evaluate
    · exact h

/-- R167: after the end of its occurrence a slot does not hold. -/
theorem endOccurrence_holds (k : Nat) (out : EndCode) (noStop : Bool) (s : State) :
    ((endOccurrence k out noStop s).view.footing.standing k).1.holds = false := by
  obtain ⟨b, hb⟩ := slotEnded_view k out noStop s
  have hs := Footing.stand_holds s.view.footing k (stateAfterEnd k out noStop s, b) (stateAfterEnd_holds k out noStop s)
  rw [endOccurrence_eq]
  split
  · rw [release_view, hb]; exact hs
  · rw [hb]; exact hs

theorem clearSlot_turn (h : Turn r s) (k : Nat) (hk : (s.view.footing.standing k).1.holds = false) : Turn r (clearSlot k s) := by
  have h1 := slotTo_turn h k .empty fun _ => hk
  have hf : ((slotTo k .empty s).view.footing.standing k).1.holds = false := by
    rw [slotTo_view]; exact Footing.stand_holds _ _ _ rfl
  exact h1.stand k _ (onSlot_view k _ _) fun _ => ⟨hf.symm, fun hc => absurd hc (by simp [hf])⟩

theorem entryDelete_turn (h : Turn r s) (k : Nat) : Turn r (entryDelete k s).1 := by
  unfold entryDelete
  split
  · exact h
  · dsimp only
    split
    · exact (clearSlot_turn (endOccurrence_turn h k _ _) k (endOccurrence_holds k _ _ s)).report .evaluate
    · next hc =>
      refine (clearSlot_turn h k ?_).report .evaluate
      rw [← slot_state]
      simp only [EntryState.cancels, Bool.or_eq_true, not_or] at hc
      exact (Bool.not_eq_true _).mp hc.1

theorem entryDisable_turn (h : Turn r s) (k : Nat) : Turn r (entryDisable k s).1 := by
  unfold entryDisable
  split
  · exact h
  · split
    · exact h
    · next hk =>
      have hs : (s.view.footing.standing k).1.holds = false := by rw [← slot_state]; exact (Bool.not_eq_true _).mp hk
      have h1 := slotTo_turn h k .disabled fun _ => hs
      have hf : ((slotTo k .disabled s).view.footing.standing k).1.holds = false := by
        rw [slotTo_view]; exact Footing.stand_holds _ _ _ rfl
      split
      · exact h
      · exact h.report .evaluate
      · refine Turn.report (h1.stand k _ (onSlot_view k (fun t => { t with occ := none }) _) fun _ => ?_) .evaluate
        rw [← slot_state] at hf ⊢
        exact ⟨rfl, fun hc => absurd hc (by simp [hf])⟩

theorem entryEnable_turn (h : Turn r s) (k : Nat) : Turn r (entryEnable k s).1 := by
  unfold entryEnable
  split
  · exact h
  · split
    · exact h
    · split
      · exact h
      · next hs =>
        refine Turn.report (arm_turn h k fun _ => ?_) .evaluate
        rw [← slot_state, hs]; rfl
      · exact h.report .evaluate

theorem entryExtend_turn (h : Turn r s) (k : Nat) (t : DateTime) : Turn r (entryExtend k t s).1 := by
  unfold entryExtend
  split
  · exact h
  · split
    · dsimp only
      split
      · refine Turn.report (Turn.same ?_ (onHolder_view _ _)) .evaluate
        refine (h.onOcc _ _).onSched _ ?_ ?_ <;> (repeat' split) <;> rfl
      · exact h
    · exact h

end

end Sys2Proof.Machine

/-!
Sys2Proof/Proofs/Steps: the turns of the link, of the reports and of the resets; that every step keeps the amplifier to RECORD, the one
holder under its owner, and the part without supply at rest.
-/

namespace Sys2Proof.Machine

section
variable {r s t : State}

/-! ## Requests of the host -/

theorem mechRequest_turn (h : Turn r s) (c : MechCmd) (p x : Bool) : Turn r (mechRequest c p x s).1 := by
  have h1 : Turn r (searchCancel false s) := h.same (searchCancel_view _ _)
  have h2 : Turn r (if cancelsTimer c x (searchCancel false s) = true then cancelOwner (searchCancel false s) else
      searchCancel false s) := by
    split
    · exact cancelOwner_turn h1
    · exact h1
  have h3 := submit_turn h2 { what := c, paused := p, cancel := x, origin := .panel }
  unfold mechRequest
  dsimp only
  split <;> exact h3

theorem searchStart_turn (h : Turn r s) (q : Search) (c : MechCmd) (d : List Byte) : Turn r (searchStart q c d s).1 := by
  unfold searchStart
  dsimp only
  split
  · exact h
  · exact submit_turn (s := setSearch _ (s.onMark _)) h _
  · exact submit_turn (s := setSearch _ (s.onMark _)) h _

theorem indexSearch_turn (h : Turn r s) (n : Int) (b : Bool) : Turn r (indexSearch n b s).1 := by
  unfold indexSearch
  split
  · exact h
  · split
    · exact h
    · exact searchStart_turn h _ _ _

theorem counterSearch_turn (h : Turn r s) (n : Int) (b : Bool) : Turn r (counterSearch n b s).1 := by
  unfold counterSearch
  split
  · exact h
  · dsimp only
    split
    · exact h
    · exact searchStart_turn h _ _ _

theorem blankSearch_turn (h : Turn r s) : Turn r (blankSearch s).1 := by
  unfold blankSearch; split
  · exact h
  · exact searchStart_turn h _ _ _

theorem indexScan_turn (h : Turn r s) : Turn r (indexScan s).1 := by
  unfold indexScan; split
  · exact h
  · exact searchStart_turn h _ _ _

@[simp] theorem markWrite_view (a b : Nat) (s : State) : (markWrite a b s).1.view = s.view := by
  unfold markWrite; (repeat' split) <;> rfl

@[simp] theorem markErase_view (s : State) : (markErase s).1.view = s.view := by
  unfold markErase; (repeat' split) <;> rfl

@[simp] theorem zeroCounter_view (s : State) : (zeroCounter s).1.view = s.view := by
  unfold zeroCounter
  split
  · rfl
  · exact onHolder_view (fun h => { h with skip := h.skip.map _ }) _

@[simp] theorem setMemory_view (n : Int) (s : State) : (setMemory n s).1.view = s.view := by
  unfold setMemory; split <;> rfl

@[simp] theorem clearMemory_view (s : State) : (clearMemory s).1.view = s.view := by
  unfold clearMemory; split <;> rfl

@[simp] theorem clockSet_view (a : Option DateTime) (b : Option Int) (s : State) : (clockSet a b s).1.view = s.view := by
  unfold clockSet
  split
  · rfl
  · dsimp only
    (repeat' split) <;> simp

@[simp] theorem boxProfileLoad_view (p : BoxProfile) (s : State) : (boxProfileLoad p s).1.view = s.view := by
  unfold boxProfileLoad; (repeat' split) <;> rfl

@[simp] theorem boxProfileClear_view (s : State) : (boxProfileClear s).1.view = s.view := by
  unfold boxProfileClear; (repeat' split) <;> rfl

@[simp] theorem boxProfileRead_view (n : Nat) (s : State) : (boxProfileRead n s).1.view = s.view := by
  unfold boxProfileRead; (repeat' split) <;> rfl

@[simp] theorem boxKey_view (n : Nat) (s : State) : (boxKey n s).1.view = s.view := by
  unfold boxKey; (repeat' split) <;> simp

@[simp] theorem outletConfig_view (a b : Nat) (s : State) : (outletConfig a b s).1.view = s.view := by
  unfold outletConfig; split <;> rfl

@[simp] theorem outletSwitch_view (b : Bool) (s : State) : (outletSwitch b s).1.view = s.view := by
  unfold outletSwitch; split <;> rfl

@[simp] theorem settingsWrite_view (x : SettingsBytes) (s : State) : (settingsWrite x s).1.view = s.view := by
  unfold settingsWrite; split <;> rfl

/-- A request of TUNER that leaves the part at rest alone. -/
theorem Turn.tuner (h : Turn r s) {x : State × Answer} (e : x.1.view.ground = s.view.ground) (ha : s.AtRest → x.1.view = s.view) :
    Turn r x.1 := h.ground e ha

/-- A request is served in one way. -/
theorem serve_one {i : Instr} {x y : State × Answer} (hx : serve i s = some x) (k : Turn r y.1) (hy : serve i s = some y := by rfl) :
    Turn r x.1 := Option.some.inj (hy.symm.trans hx) ▸ k

/-- R201: a request served is a turn. -/
theorem serve_turn (h : Turn r s) (i : Instr) (x : State × Answer) (hx : serve i s = some x) : Turn r x.1 := by
  cases i with
  | play | pause | cue | review | fwind | rwind | eject | record _ | stop _ => exact serve_one hx (mechRequest_turn h _ _ _)
  | indexSearch n b => exact serve_one hx (indexSearch_turn h _ _)
  | counterSearch v b => exact serve_one hx (counterSearch_turn h _ _)
  | blankSearch => exact serve_one hx (blankSearch_turn h)
  | indexScan => exact serve_one hx (indexScan_turn h)
  | markList n => exact serve_one hx (y := markList n s) h
  | markWrite a v => exact serve_one hx (h.same (markWrite_view _ _ _))
  | markErase => exact serve_one hx (h.same (markErase_view _))
  | tracking a v => exact serve_one hx (y := trackingRequest a v s) h
  | zero => exact serve_one hx (h.same (zeroCounter_view _))
  | setMemory v => exact serve_one hx (h.same (setMemory_view _ _))
  | clearMemory => exact serve_one hx (h.same (clearMemory_view _))
  | position => exact serve_one hx (y := positionRequest s) h
  | tunePreset n => exact serve_one hx (h.tuner (tunePreset_ground _ _) (tunePreset_atRest · _))
  | tuneChannel p c => exact serve_one hx (h.tuner (tuneChannel_ground _ _ _) (tuneChannel_atRest · _ _))
  | tuneDirect f => exact serve_one hx (h.tuner (tuneDirect_ground _ _) (tuneDirect_atRest · _))
  | tuneUp | tuneDown => exact serve_one hx (h.tuner (tuneStep_ground _ _) (tuneStep_atRest · _))
  | source v => exact serve_one hx (h.same (sourceRequest_view _ _))
  | presetWrite n e => exact serve_one hx (h.tuner (presetWrite_ground _ _ _) (presetWrite_atRest · _ _))
  | presetRead n => exact serve_one hx (h.same (presetRead_view _ _))
  | scanStart p => exact serve_one hx (h.tuner (scanStart_ground _ _) (scanStart_atRest · _))
  | scanStop => exact serve_one hx (h.tuner (scanStop_ground _) (scanStop_atRest ·))
  | clockSet a v => exact serve_one hx (h.same (clockSet_view _ _ _))
  | clockRead => exact serve_one hx (y := clockRead s) h
  | entryWrite n e => exact serve_one hx (entryWrite_turn h _ _)
  | entryRead n => exact serve_one hx (entryRead_turn h _)
  | cancel n => exact serve_one hx (entryCancel_turn h _)
  | delete n => exact serve_one hx (entryDelete_turn h _)
  | disable n => exact serve_one hx (entryDisable_turn h _)
  | enable n => exact serve_one hx (entryEnable_turn h _)
  | extend n e => exact serve_one hx (entryExtend_turn h _ _)
  | boxProfileLoad p => exact serve_one hx (h.same (boxProfileLoad_view _ _))
  | boxProfileClear => exact serve_one hx (h.same (boxProfileClear_view _))
  | boxProfileRead n => exact serve_one hx (h.same (boxProfileRead_view _ _))
  | boxKey n => exact serve_one hx (h.same (boxKey_view _ _))
  | outletConfig a b => exact serve_one hx (h.same (outletConfig_view _ _ _))
  | outletOn | outletOff => exact serve_one hx (h.same (outletSwitch_view _ _))
  | outletRead => exact serve_one hx (y := outletRead s) h
  | powerRequestOn => exact serve_one hx (powerOn_turn h)
  | powerRequestStandby => exact serve_one hx (powerStandby_turn h)
  | powerRequestRead => exact serve_one hx (y := powerRead s) h
  | status => exact serve_one hx (y := statusRequest s) h
  | settingsWrite e => exact serve_one hx (h.same (settingsWrite_view _ _))
  | settingsRead => exact serve_one hx (y := settingsRead s) h
  | _ => exact absurd hx (by simp [serve])

/-! ## Resets (R196, R197) -/

/-- R32: MECH right after a reset is at rest. -/
theorem mechReset_rest (b : Bool) (x : State) (hm : x.mech = Mech.reset b) (hp : x.pos.motion = none) : x.view.deck.Rest := by
  refine ⟨?_, ?_, ?_, ?_, ?_, ?_, ?_, hp⟩ <;> simp only [State.view, State.deck, hm, Mech.reset]
  cases b
  · exact .inl rfl
  · exact .inr rfl

/-- A state in which no slot holds and no holder stands, MECH just reset. -/
theorem Turn.blank (h : Turn r s) {b : Bool} (hm : t.mech = Mech.reset b) (hp : t.pos.motion = none) (hh : t.sched.holder = none)
    (hl : s.view.Held → t.sched.slots.length = 16) (hs : ∀ x ∈ t.sched.slots, x.state.holds = false) (hr : t.view.radio.Rest)
    (hc : s.view.Calm → t.view.footing.power = .standby → t.view.footing.good = false ∧
      (t.view.footing.phase = .raising → t.view.footing.onMark = true)) : Turn r t := by
  have hd := mechReset_rest b t hm hp
  have ho : t.view.deck.owner = .none := by simp only [State.view, State.deck, hm, Mech.reset]
  have hn : t.view.footing.holder = none := by simp [State.view, State.footing, hh]
  refine h.trans ⟨fun _ ha => ?_, fun hv => ⟨?_, ?_, ?_, ?_⟩, fun _ hcs => ⟨?_, hc hcs, fun hg => ⟨hg, hd, hr⟩⟩, fun _ _ _ _ p hq => ?_⟩
  · rw [show t.view.deck.recAmp = false by simp only [State.view, State.deck, hm, Mech.reset]] at ha; exact absurd ha (by simp)
  · simpa [State.view, State.footing] using hl hv
  · rw [hn]; exact fun p hq => absurd hq (by simp)
  · intro n _ hx
    exfalso
    rw [← slot_state] at hx
    unfold State.slot at hx
    rw [List.getD_eq_getElem?_getD] at hx
    cases hq : t.sched.slots[n + 1 - 1]? with
    | none => rw [hq] at hx; exact absurd hx (by simp [Slot.reset, EntryState.holds])
    | some x =>
      rw [hq] at hx
      have := hs x (List.mem_of_getElem? hq)
      simp [this] at hx
  · rw [ho]; exact fun hx => absurd hx (by simp [Owner.isTimer])
  · intro hj; exact absurd hj (by simp [hd.junction])
  · rw [hn] at hq; exact absurd hq (by simp)

theorem powerOnReset_turn (h : Turn r s) : Turn r (powerOnReset s) := by
  refine Turn.report (h.blank (t := powerOnState s) (b := s.pins.cassetteIn) rfl rfl rfl (fun _ => rfl) ?_
    ⟨rfl, rfl, rfl, rfl, rfl, rfl, rfl⟩ fun _ _ => ⟨rfl, fun hx => absurd hx (by simp [powerOnState, State.view, State.footing, State.reset, Pwr.reset])⟩) .evaluate
  intro x hx
  rw [List.eq_of_mem_replicate (show x ∈ List.replicate 16 Slot.reset from hx)]; rfl

/-- R174: after a reset no slot holds. -/
theorem slotAfterReset_holds (a b : Nat) (x : Slot) : (slotAfterReset a b x).state.holds = false := by
  unfold slotAfterReset
  dsimp only
  split
  · next ha _ =>
    split
    · exact congrArg EntryState.holds ha
    · rfl
  · split
    · dsimp only
      (repeat' split) <;> rfl
    · next hn =>
      split
      · rfl
      · exact (Bool.not_eq_true _).mp hn

theorem keptState_turn (h : Turn r s) (k : ResetKind) (b : Bool) : Turn r (keptState k b s) := by
  refine h.blank (t := keptState k b s) (b := s.pins.cassetteIn) rfl rfl rfl (fun _ => rfl) ?_
    ⟨rfl, rfl, rfl, rfl, rfl, rfl, rfl⟩ fun hc hp => ?_
  · intro x hx
    obtain ⟨j, -, hj⟩ := List.mem_map.1 (show x ∈ slotNumbers.map fun k =>
      slotAfterReset (s.recordedSeconds k) s.clock.reading (s.slot k) from hx)
    exact hj ▸ slotAfterReset_holds _ _ _
  · have hs := hc.standby hp
    have hg : (keptState k b s).view.footing.good = s.view.footing.good := by
      simp only [keptState, pwrKept, Footing.good, State.view, State.footing]
      cases s.pwr.phase <;> rfl
    refine ⟨hg.trans hs.1, fun hr => hs.2 ?_⟩
    have hr : (match s.pwr.phase with | .stopping => Phase.up | x => x) = .raising := hr
    show s.pwr.phase = .raising
    cases hq : s.pwr.phase <;> rw [hq] at hr <;> simp_all

/-- R188, R197: PIN or RESTART. -/
theorem keptReset_turn (h : Turn r s) (k : ResetKind) (b : Bool) : Turn r (keptReset k b s) := by
  have h1 := Turn.report (keptState_turn h k b) .evaluate
  unfold keptReset supplyAfterReset
  split
  · next hp =>
    have w := (recover_work (View.Work.refl (report .evaluate (keptState k b s)).view)).ground (tunerInit_ground _)
    refine h1.work w fun hr => absurd hr.supply ?_
    have hg (x : State) (hx : x.pwr.phase = .up) : x.view.footing.good = true := by
      simp [Footing.good, State.view, State.footing, hx]
    rw [hg _ hp]; simp
  · next hp =>
    split
    · exact supplyUp_turn h1 fun _ hc hs => (hc.standby hs).2 hp
    · exact h1
  · exact h1

/-- R196: what RESET_N low does to the view. -/
theorem resetLow_view (s : State) (h : s.pins.resetLow = false) :
    (resetLow s).view = { s.view with deck := { s.view.deck with recAmp := false } } := by
  have hr := recordStopped_view s
  have hm (x : State) : (x.onMech fun m => { m with motor := .off, reel := .off, recAmp := false }).view =
      { x.view with deck := { x.view.deck with recAmp := false } } := rfl
  unfold resetLow
  rw [if_neg (by simp [h])]
  exact (hm (recordStopped s)).trans (by rw [hr])

theorem resetLow_turn (h : Turn r s) : Turn r (resetLow s) := by
  cases hl : s.pins.resetLow with
  | true => rwa [resetLow, if_pos hl]
  | false =>
    have e := resetLow_view s hl
    refine h.trans ⟨fun _ ha => ?_, fun hv => ?_, fun _ hc => ?_, fun _ _ hx => ?_⟩
    · rw [e] at ha; exact absurd ha (by simp)
    · rw [e]; exact ⟨hv.places, hv.holder, hv.only, hv.owner⟩
    · rw [e]
      refine ⟨hc.joined, hc.standby, fun hg => ⟨hg, ?_, (hc.rest hg).radio⟩⟩
      obtain ⟨h1, h2, h3, h4, h5, h6, h7, h8⟩ := (hc.rest hg).deck
      exact ⟨h1, h2, h3, h4, h5, h6, h7, h8⟩
    · rw [e]; exact hx

theorem pinReset_turn (h : Turn r s) : Turn r (pinReset s) := keptReset_turn (resetLow_turn h) _ _

/-! ## Frames and replies (R199 to R203) -/

theorem answerFrame_turn (h : Turn r s) (f : HeldFrame) : Turn r (answerFrame f s) := by
  unfold answerFrame
  split
  · exact h
  · exact h
  · rw [Turn, replyWith_view, refuse_view]
    split
    · exact h.same (searchCancel_view _ _)
    · exact h
  · exact keptReset_turn h _ _
  · split
    · next hx => exact (serve_turn h _ _ hx).same (replyWith_view _ _)
    · exact h

theorem takeNext_turn (h : Turn r s) : Turn r (takeNext s) := by
  unfold takeNext; split
  · exact answerFrame_turn (s := s.onLink _) h _
  · exact h

theorem arrive_turn (h : Turn r s) (f : HeldFrame) : Turn r (arrive f s) := by
  have hw : Turn r (linkWake f s) := by
    unfold linkWake; split
    · exact wakeByFrame_turn h
    · exact h
  unfold arrive
  split
  · exact h
  · exact (takeNext_turn (s := (linkWake f s).onLink _) hw).same (supplySeen_view _ _)

theorem receiveByte_turn (h : Turn r s) (b : Byte) : Turn r (receiveByte b s) := by
  unfold receiveByte
  split
  · split <;> exact h
  · split
    · exact h
    · exact h
  · exact h
  · exact h
  · exact arrive_turn (s := receiverTo .hunt s) h _

theorem frameCompleted_turn (h : Turn r s) (b : Byte) : Turn r (frameCompleted b s) := by
  unfold frameCompleted; split
  · exact arrive_turn (s := receiverTo .hunt s) h _
  · exact h

theorem frameAbandoned_turn (h : Turn r s) (x : FrameFault) : Turn r (frameAbandoned x s) := by
  unfold frameAbandoned; split
  · exact receiveByte_turn h _
  · exact h
  · exact h
  · exact h

theorem receiveGap_turn (h : Turn r s) : Turn r (receiveGap s) := by
  unfold receiveGap; split <;> exact h

theorem frameSent_turn (h : Turn r s) : Turn r (frameSent s) := by
  unfold frameSent; split
  · exact h
  · exact h
  · exact h
  · exact takeNext_turn (s := s.onLink _) h

/-! ## Reports -/

theorem cancelStop_turn (h : Turn r s) (c : Cmd) : Turn r (cancelStop c s) := by
  have h1 := cancelOwner_turn h
  have w := submit_work (View.Work.refl (cancelOwner s).view) c
  unfold cancelStop
  dsimp only
  split
  · exact (submit_turn h1 c).same (closeCmd_view _ _ _)
  · next hd =>
    refine h1.work (settle_work (closeCmd_work w _ _)) fun hr => ?_
    obtain ⟨x, hx⟩ := submit_atRest hr c
    rw [hx] at hd
    exact absurd hd (by simp)
  · exact submit_turn h1 c

theorem handleReport_turn (h : Turn r s) (x : Report) : Turn r (handleReport x s) := by
  unfold handleReport
  cases x with
  | closedSearch tag c y => exact h.work (searchClosed_work (View.Work.refl _) _ _ _) (searchClosed_atRest · _ _ _)
  | closedTimer tag c y => exact h.served (timerClosed_serves (Serves.refl s) _ _)
  | cancelStop c => exact cancelStop_turn h c
  | evaluate => exact evaluate_turn h
  | leaderSearch => exact h.same (searchLeader_view _)
  | interrupted w => exact h.same (searchInterrupted_view _ _)
  | leaderSched => exact h.served (schedReport_serves (Serves.refl s) _)
  | faultSched => exact h.served (schedReport_serves (Serves.refl s) _)
  | spanReached e => exact h.served (schedSpan_serves (Serves.refl s) _)
  | recordEntered => exact h.served (schedRecording_serves (Serves.refl s))
  | liveEstimate => exact h.served (schedEstimate_serves (Serves.refl s))
  | speedInForce v => exact h.served (schedSpeed_serves (Serves.refl s) _)
  | recoveryEnded => exact (powerRecovered_turn h).served (prepare_serves (Serves.refl _))
  | stopEnded b => exact stopRelease_turn h b
  | supplyUp => exact h.served (prepare_serves (Serves.refl s))
  | supplyHigh => exact supplyRises_turn h
  | supplyLost tag => exact h.served (schedPower_serves (Serves.refl s) _)
  | labelState st => exact evaluate_turn (h.served (labelReport_serves (Serves.refl s) _))
  | newLabel l p => exact evaluate_turn (h.served (labelNew_serves (Serves.refl s) _ _))
  | minute => exact evaluate_turn h
  | stepped e => exact schedStepped_turn h e
  | skipReached => exact h.served (skipReached_serves (Serves.refl s))

/-- A report leaves the queue and reaches its block. -/
theorem nextReport_turn (s : State) (x : Report) (rest : List Report) (hx : s.reports = x :: rest) :
    Turn s (handleReport x (s.nextReport rest)) := by
  have hv : (s.nextReport rest).view = { s.view with footing := { s.view.footing with lost := rest.filterMap Report.lostTag } } := rfl
  have hl : s.view.footing.lost = (x :: rest).filterMap Report.lostTag := by simp only [State.view, State.footing, hx]
  have ht := handleReport_turn (Turn.refl (s.nextReport rest)) x
  have held (h : s.view.Held) : (s.nextReport rest).view.Held := by rw [hv]; exact ⟨h.places, h.holder, h.only, h.owner⟩
  have calm (h : s.view.Calm) : (s.nextReport rest).view.Calm := by
    rw [hv]; exact ⟨h.joined, h.standby, fun hg => ⟨hg, (h.rest hg).deck, (h.rest hg).radio⟩⟩
  refine ⟨ht.amp, fun h => ht.held (held h), fun h hc => ht.calm (held h) (calm hc), fun h hc hr => ?_⟩
  by_cases hn : x.lostTag = none
  · refine ht.reported (held h) (calm hc) fun hp p hq => ?_
    have := hr hp p hq
    rwa [hl, List.filterMap_cons_none hn] at this
  · obtain ⟨tag, rfl⟩ : ∃ tag, x = .supplyLost tag := by
      by_contra hc'
      exact hn (x.lostTag_eq_none fun tag ht => hc' ⟨tag, ht⟩)
    unfold handleReport at ht ⊢
    dsimp only at ht ⊢
    cases hh : s.sched.holder with
    | none =>
      have : schedPower tag (s.nextReport rest) = s.nextReport rest := by
        unfold schedPower; rw [show (s.nextReport rest).sched.holder = none from hh]
      rw [this]
      intro _ p hq
      rw [hv, show Footing.holder _ = s.view.footing.holder from rfl] at hq
      simp [State.view, State.footing, hh] at hq
    | some hd =>
      by_cases hd' : tag = some hd.tag
      · have : schedPower tag (s.nextReport rest) = endOccurrence hd.slot .power true (s.nextReport rest) := by
          unfold schedPower; rw [show (s.nextReport rest).sched.holder = some hd from hh]; exact if_pos hd'
        have hs := (h.holder _ (holder_view hh)).2.2.1
        rw [this, endOccurrence_eq, if_pos (by rw [slot_state]; exact hs)]
        intro _ p hq
        rw [release_view] at hq
        exact absurd hq (by simp)
      · refine ht.reported (held h) (calm hc) fun hp p hq => ?_
        have := hr hp p hq
        rw [hl, List.filterMap_cons_some (show Report.lostTag (.supplyLost tag) = some tag from rfl), List.mem_cons] at this
        rcases this with this | this
        · have hpd : p = (hd.slot, hd.tag) := Option.some.inj (hq.symm.trans (holder_view hh))
          rw [hpd] at this
          exact absurd this.symm hd'
        · exact this

theorem drain_turn (n : Nat) (h : Turn r s) : Turn r (drain n s) := by
  induction n generalizing s with
  | zero => exact h
  | succ n ih =>
    unfold drain
    split
    · exact h
    · next x rest hx => exact ih (h.trans (nextReport_turn s x rest hx))

end

/-! ## What every step keeps -/

/-- The three invariants are kept from one state to another. -/
structure Keeps (s t : State) : Prop where
  amp  : s.ampOnlyInRecord → t.ampOnlyInRecord
  held : s.recorderHeldOnce → t.recorderHeldOnce
  rest : s.recorderHeldOnce → s.restSound → s.supplySound → t.restSound ∧ t.supplySound

section
variable {s t : State}

theorem Keeps.of_parts (ha : s.view.deck.amp → t.view.deck.amp) (hh : s.view.Held → t.view.Held)
    (k : s.restSound → Turn s t) (hr : s.restSound → t.view.deck.joined → t.restSound) : Keeps s t where
  amp := ha
  held h := (recorderHeldOnce_iff t).2 (hh ((recorderHeldOnce_iff s).1 h))
  rest h hs hp := by
    have hv := (recorderHeldOnce_iff s).1 h
    obtain ⟨hc, hx⟩ := (supplySound_iff s hs.1).1 hp
    have hct := (k hs).calm hv hc
    exact ⟨hr hs hct.joined, (supplySound_iff t hct.joined).2 ⟨hct, (k hs).reported hv hc hx⟩⟩

/-- R19, R20: the rest timers run in their states only, at the end of every step. -/
theorem finish_rests (x : State) (hj : (finish x).view.deck.joined) : (finish x).restSound := by
  refine ⟨hj, fun h => ?_, fun h => ?_⟩
  · have h : (stillFollow (drain drainFuel x)).isSome = true := h
    unfold stillFollow at h
    split at h
    · next hs => exact hs.1
    · exact absurd h (by simp)
  · have h : (haltFollow (drain drainFuel x)).isSome = true := h
    unfold haltFollow at h
    split at h
    · next hs => exact hs.1
    · exact absurd h (by simp)

theorem finish_keeps {x : State} (ha : s.view.deck.amp → x.view.deck.amp) (hh : s.view.Held → x.view.Held)
    (k : s.restSound → Turn s x) : Keeps s (finish x) := by
  have hf (x : State) : Turn x (finish x) := (drain_turn drainFuel (Turn.refl x)).same (by rw [finish, transmit_view, restTimers_view])
  exact Keeps.of_parts (fun a => (hf x).amp (ha a)) (fun h => (hf x).held (hh h)) (fun h => (k h).trans (hf x))
    fun _ => finish_rests x

theorem Keeps.of_finish {x : State} (h : Turn s x) : Keeps s (finish x) := finish_keeps h.amp h.held fun _ => h

theorem Keeps.refl (s : State) : Keeps s s := ⟨id, id, fun _ h k => ⟨h, k⟩⟩

theorem run_keeps (f : State → State) (h : Turn s (f s)) : Keeps s (run f s) := by
  unfold run; split
  · exact Keeps.refl s
  · exact Keeps.of_finish h

/-- An event that moves an input line. -/
theorem runPin_keeps (p : Pins → Pins) (f : State → State) (h : ∀ {x}, Turn s x → Turn s (f x)) : Keeps s (runPin p f s) := by
  unfold runPin run; split
  · exact Keeps.of_parts (t := s.onPins p) id id (fun _ => Turn.refl s) fun h _ => h
  · exact Keeps.of_finish (h (x := s.onPins p) (Turn.refl s))

theorem arrive_keeps (f : HeldFrame) (s : State) : Keeps s (run (arrive f) s) := run_keeps _ (arrive_turn (Turn.refl s) f)

/-- An event of the tape's blocks. -/
theorem work_keeps (f : State → State) (w : Work s (f s)) (hr : s.AtRest → (f s).view = s.view) : Keeps s (run f s) :=
  run_keeps f ((Turn.refl s).work w hr)

/-- An event that the view does not show. -/
theorem unseen_keeps (f : State → State) (h : (f s).view = s.view) : Keeps s (run f s) := run_keeps f ((Turn.refl s).same h)

/-- R139: an event of the crystal. -/
theorem runClock_keeps (f : State → State) (h : (f s).view = s.view) : Keeps s (runClock f s) := by
  unfold runClock; split
  · exact Keeps.of_parts (t := clockAlone f s) id id (fun _ => Turn.refl s) fun h _ => h
  · exact Keeps.of_finish ((Turn.refl s).same h)

/-- R19, R20: the expiry of a rest timer, which finds the part with its supply. -/
theorem restTimer_keeps (f : State → State) (w : Work s (f s)) (hr : s.restSound → s.AtRest → (f s).view = s.view) :
    Keeps s (run f s) := by
  unfold run; split
  · exact Keeps.refl s
  · exact finish_keeps w.amp w.held fun h => (Turn.refl s).work w (hr h)

theorem stillTimeout_keeps (s : State) : Keeps s (run stillTimeout s) := by
  refine restTimer_keeps stillTimeout (stillTimeout_work (View.Work.refl _)) fun h ha => ?_
  have hn : s.mech.still = none := by
    by_contra hc
    rcases h.2.1 (Option.isSome_iff_ne_none.2 hc) with hs | hs
    · exact ha.ne .still (by simp) (by simp) hs
    · exact ha.ne .recPause (by simp) (by simp) hs
  rw [stillTimeout, if_neg (by simp [hn, Timer.due])]

theorem haltTimeout_keeps (s : State) : Keeps s (run haltTimeout s) := by
  refine restTimer_keeps haltTimeout (haltTimeout_work (View.Work.refl _)) fun h ha => ?_
  have hn : s.mech.halt = none := by
    by_contra hc
    exact ha.ne .halt (by simp) (by simp) (h.2.2 (Option.isSome_iff_ne_none.2 hc))
  rw [haltTimeout, if_neg (by simp [haltDue, hn])]

theorem resetLow_keeps (s : State) : Keeps s (resetLow s) := by
  have h := resetLow_turn (Turn.refl s)
  have hm : (resetLow s).mech.state = s.mech.state ∧ (resetLow s).mech.still = s.mech.still ∧
      (resetLow s).mech.halt = s.mech.halt := by
    have hr : (recordStopped s).mech = s.mech := by
      unfold recordStopped
      (repeat' split) <;> rfl
    have h1 : (recordStopped s).mech.state = s.mech.state := by rw [hr]
    have h2 : (recordStopped s).mech.still = s.mech.still := by rw [hr]
    have h3 : (recordStopped s).mech.halt = s.mech.halt := by rw [hr]
    unfold resetLow
    split
    · exact ⟨rfl, rfl, rfl⟩
    · exact ⟨h1, h2, h3⟩
  refine Keeps.of_parts h.amp h.held (fun _ => h) fun hr hj => ⟨hj, ?_, ?_⟩
  · rw [hm.1, hm.2.1]; exact hr.2.1
  · rw [hm.1, hm.2.2]; exact hr.2.2

theorem cassetteWake_turn {r : State} (h : Turn r s) : Turn r (cassetteWake s) := by
  unfold cassetteWake; split
  · exact wake_turn h _
  · exact h

/-- A change of the loops, after which a lock wait or pre-roll may end (R17). -/
theorem junction_keeps (f : State → State) (h : (f s).view = s.view) : Keeps s (run (fun x => junctionTest (f x)) s) :=
  work_keeps (fun x => junctionTest (f x)) (junctionTest_work (Work.same (View.Work.refl _) h)) fun ha => by
    rw [junctionTest_atRest (ha.same h), h]

/-- An event that serves the holder. -/
theorem serves_keeps (f : State → State) (h : Serves s (f s)) : Keeps s (run f s) := run_keeps f h.turn

/-- An event of TUNER. -/
theorem tuner_keeps (f : State → State) (hg : (f s).view.ground = s.view.ground) (hr : s.AtRest → (f s).view = s.view) :
    Keeps s (run f s) := run_keeps f ((Turn.refl s).ground hg hr)

theorem exec_keeps (i : Instr) (h : exec i s = .next t) : Keeps s t := by
  have w : Work s s := View.Work.refl _
  cases i with
  | play | record _ | pause | stop _ | cue | review | fwind | rwind | eject => cases h; exact arrive_keeps _ s
  | tracking _ _ | zero | setMemory _ | clearMemory | position => cases h; exact arrive_keeps _ s
  | markList _ | markWrite _ _ | markErase | indexSearch _ _ | counterSearch _ _ | blankSearch | indexScan =>
    cases h; exact arrive_keeps _ s
  | tunePreset _ | tuneChannel _ _ | tuneDirect _ | tuneUp | tuneDown | source _ | presetWrite _ _ | presetRead _
  | scanStart _ | scanStop => cases h; exact arrive_keeps _ s
  | clockSet _ _ | clockRead => cases h; exact arrive_keeps _ s
  | entryWrite _ _ | entryRead _ | cancel _ | delete _ | disable _ | enable _ | extend _ _ => cases h; exact arrive_keeps _ s
  | boxProfileLoad _ | boxProfileClear | boxProfileRead _ | boxKey _ | outletConfig _ _ | outletOn | outletOff | outletRead =>
    cases h; exact arrive_keeps _ s
  | powerRequestOn | powerRequestStandby | powerRequestRead | restart => cases h; exact arrive_keeps _ s
  | status | settingsWrite _ | settingsRead | badFrame _ | unknownFrame _ => cases h; exact arrive_keeps _ s
  | camTargetReached c =>
    cases h
    exact runPin_keeps _ _ fun h => h.work (camReports_work (View.Work.refl _) c) fun ha => by rw [camReports_atRest ha]
  | camTimeout => cases h; exact work_keeps _ (camTimeout_work w) fun ha => by rw [camTimeout_atRest ha]
  | cassetteInClose b =>
    cases h
    exact runPin_keeps _ _ fun h => cassetteWake_turn (h.work (cassetteClosed_work (View.Work.refl _)) fun ha => by
      rw [cassetteClosed_atRest ha])
  | cassetteInOpen =>
    cases h
    exact runPin_keeps _ _ fun h => cassetteWake_turn (h.work (cassetteOpened_work (View.Work.refl _)) fun ha => by
      rw [cassetteOpened_atRest ha])
  | endLeaderCovered b =>
    cases h
    refine runPin_keeps _ _ fun h => ?_
    split
    · exact h.work (endLeaderTest_work (View.Work.refl _)) fun ha => by rw [endLeaderTest_atRest ha]
    · exact h
  | startLeaderCovered b =>
    cases h
    refine runPin_keeps _ _ fun h => ?_
    split
    · exact h.work (startLeaderCovered_work (View.Work.refl _)) fun ha => by rw [startLeaderCovered_atRest ha]
    · exact h
  | stillTimerExpiry => cases h; exact stillTimeout_keeps s
  | haltTimerExpiry => cases h; exact haltTimeout_keeps s
  | reelStall => cases h; exact work_keeps _ (reelStall_work w) fun ha => by rw [reelStall_atRest ha]
  | drumFgPulse p => cases h; exact junction_keeps _ (drumFg_view p s)
  | drumPgPulse p => cases h; exact junction_keeps _ (drumPg_view p s)
  | drumFgOverdue => cases h; exact junction_keeps _ (drumFgMissing_view s)
  | drumPgOverdue => cases h; exact junction_keeps _ (drumPgMissing_view s)
  | syncAbsentTimeout x => cases h; exact junction_keeps _ (syncAbsent_view x s)
  | phaseModeGapTimeout => cases h; exact junction_keeps _ (phaseGap_view s)
  | capstanFgPulse n => cases h; exact work_keeps _ (capstanPulse_work w n) (capstanPulse_atRest · n)
  | drumLockTimeout => cases h; exact work_keeps _ (drumLockTimeout_work w) drumLockTimeout_atRest
  | capstanLockTimeout => cases h; exact work_keeps _ (capstanLockTimeout_work w) capstanLockTimeout_atRest
  | recordGateTimeout => cases h; exact work_keeps _ (gateTimeout_work w) gateTimeout_atRest
  | recordGuardTimeout => cases h; exact work_keeps _ (guardTimeout_work w) guardTimeout_atRest
  | vsyncPulse x n e => cases h; exact work_keeps _ (vsync_work w x n e) (vsync_atRest · x n e)
  | internalFrameEdge e => cases h; exact work_keeps _ (internalEdge_work w e) (internalEdge_atRest · e)
  | controlPulseReplayed d p n e => cases h; exact work_keeps _ (replayedPulse_work w d p n e) (replayedPulse_atRest · d p n e)
  | playSpeedGapTimeout => cases h; exact unseen_keeps _ (speedGap_view s)
  | posGapTimeout => cases h; exact work_keeps _ (posGap_work w) fun ha => by rw [posGap_atRest ha]
  | reelPulse x n => cases h; exact unseen_keeps _ (reelPulse_view x n s)
  | counterNoticeTimer => cases h; exact unseen_keeps _ (counterTimer_view s)
  | remainingNoticeTimer => cases h; exact unseen_keeps _ (remainingTimer_view s)
  | markGapTimeout => cases h; exact work_keeps _ (markGapTimeout_work w) markGapTimeout_atRest
  | blankTimerExpiry => cases h; exact work_keeps _ (blankTimeout_work w) blankTimeout_atRest
  | scanPlayTimerExpiry => cases h; exact work_keeps _ (scanPlayTimeout_work w) scanPlayTimeout_atRest
  | tunerTransactionEnd a =>
    cases h; exact tuner_keeps _ (transactionEnd_ground a s) fun ha => by rw [transactionEnd_atRest ha]
  | initWaitExpiry => cases h; exact tuner_keeps _ (initWaited_ground s) fun ha => by rw [initWaited_atRest ha]
  | settleTimerExpiry => cases h; exact tuner_keeps _ (settleExpired_ground s) fun ha => by rw [settleExpired_atRest ha]
  | watchTimerExpiry => cases h; exact tuner_keeps _ (watchExpired_ground s) fun ha => by rw [watchExpired_atRest ha]
  | scanConfirmExpiry => cases h; exact tuner_keeps _ (scanConfirm_ground s) fun ha => by rw [scanConfirm_atRest ha]
  | lineDataPacket p => cases h; exact unseen_keeps _ (linePacket_view p s)
  | labelTimerExpiry => cases h; exact unseen_keeps _ (labelTimer_view s)
  | secondBoundary => cases h; exact runClock_keeps _ ((clockBoundary_view _).trans (clockToBoundary_view s))
  | dueTimerExpiry => cases h; exact run_keeps _ (dueTimeout_turn (Turn.refl s))
  | stopTimerExpiry => cases h; exact serves_keeps _ (stopTimeout_serves (Serves.refl s))
  | scheduledStopExpiry => cases h; exact serves_keeps _ (scheduledStopTimeout_serves (Serves.refl s))
  | windowTimerExpiry => cases h; exact serves_keeps _ (windowTimeout_serves (Serves.refl s))
  | heldTimerExpiry => cases h; exact serves_keeps _ (heldTimeout_serves (Serves.refl s))
  | labelLossTimerExpiry => cases h; exact serves_keeps _ (labelLossTimeout_serves (Serves.refl s))
  | postHoldTimerExpiry => cases h; exact run_keeps _ (postHoldTimeout_turn (Turn.refl s))
  | recordedSecondsCheck => cases h; exact serves_keeps _ (recordedCheck_serves (Serves.refl s))
  | irFrameSent => cases h; exact unseen_keeps _ (boxFrameSent_view s)
  | irRetryTimerExpiry => cases h; exact unseen_keeps _ (boxRetry_view s)
  | minimumOnTimerExpiry => cases h; exact unseen_keeps _ (outletMinimum_view s)
  | supGoodRise => cases h; exact runPin_keeps _ _ supplyRises_turn
  | supplyTimerExpiry => cases h; exact run_keeps _ (supplyTimeout_turn (Turn.refl s))
  | supplyFailure => cases h; exact runPin_keeps _ _ supplyFailed_turn
  | powerKeyPress => cases h; exact run_keeps _ (powerKey_turn (Turn.refl s))
  | powerOnReset => cases h; exact Keeps.of_finish (powerOnReset_turn (Turn.refl s))
  | pinReset => cases h; exact Keeps.of_finish (pinReset_turn (Turn.refl s))
  | frameComplete b => cases h; exact run_keeps _ (frameCompleted_turn (Turn.refl s) b)
  | frameAbandoned x => cases h; exact run_keeps _ (frameAbandoned_turn (Turn.refl s) x)
  | receiveGapTimeout => cases h; exact run_keeps _ (receiveGap_turn (Turn.refl s))
  | txFrameEnd => cases h; exact run_keeps _ (frameSent_turn (Turn.refl s))
  | byteReceived b => cases h; exact run_keeps _ (receiveByte_turn (Turn.refl s) b)
  | resetLineLow => cases h; exact resetLow_keeps s

/-- Every step keeps the three invariants. -/
theorem step_keeps (h : step s = .next t) : Keeps s t := by
  unfold step at h
  split at h
  · cases h; exact runClock_keeps _ (clockCycle_view s)
  · next i rest _ =>
    have hk := exec_keeps (s := { s with pending := rest }) i h
    exact ⟨hk.amp, hk.held, hk.rest⟩

end

/-- Settles O57: MECH switches the amplifier on on entering RECORD alone, and off on entering any other state. -/
theorem everyStepKeepsTheAmplifierToRecord : Obligations.EveryStepKeepsTheAmplifierToRecord := by
  unfold Obligations.EveryStepKeepsTheAmplifierToRecord
  exact fun _ _ ha h => (step_keeps h).amp ha

/-- Settles O59: an entry takes the recorder and lets it go in single moves, the owner changing with the holder. -/
theorem everyStepKeepsOneHolderUnderItsOwner : Obligations.EveryStepKeepsOneHolderUnderItsOwner := by
  unfold Obligations.EveryStepKeepsOneHolderUnderItsOwner
  exact fun _ _ hh h => (step_keeps h).held hh

/-- Settles O60: at rest no block moves, and each loss of the supply brings the part to rest. -/
theorem everyStepKeepsStandbyAtRest : Obligations.EveryStepKeepsStandbyAtRest := by
  unfold Obligations.EveryStepKeepsStandbyAtRest
  exact fun _ _ hh hr hs h => (step_keeps h).rest hh hr hs

end Sys2Proof.Machine

/-!
Sys2Proof/Proofs/ResetState: the reset state has the reset values and the invariants (O54).
-/

namespace Sys2Proof.Machine

/-- R146, R174: after a POWER_ON reset no slot holds the recorder. -/
theorem reset_heldOnce : State.reset.recorderHeldOnce := by
  refine ⟨by decide, fun h hh => absurd hh (by simp [State.reset, Sched.reset]), ?_, fun h => absurd h (by decide)⟩
  intro n hn hh
  have : ∀ n < 16, (State.reset.slot (n + 1)).state.holds = false := by decide
  rw [this n hn] at hh
  exact absurd hh (by simp)

/-- R29, R97, R188: after a POWER_ON reset the part is without supply and at rest. -/
theorem reset_supplySound : State.reset.supplySound := by
  refine ⟨fun _ => ⟨rfl, fun h => absurd h (by decide), fun h hh => absurd hh (by simp [State.reset, Sched.reset])⟩, fun _ => ?_⟩
  exact ⟨.inl rfl, rfl, rfl, rfl, rfl, rfl, rfl, rfl, rfl, rfl, rfl, rfl, rfl, rfl⟩

theorem reset_noOccurrence : State.reset.noOccurrence := by
  refine ⟨fun t ht => ?_, rfl⟩
  rw [List.eq_of_mem_replicate (show t ∈ List.replicate 16 Slot.reset from ht)]; rfl

/-- Settles O54: the invariants part by part, the values by evaluation of the reset state. -/
theorem resetStateHoldsTheResetValues : Obligations.ResetStateHoldsTheResetValues := by
  unfold Obligations.ResetStateHoldsTheResetValues
  have hclock : State.reset.clockSound := by decide
  have hamp : State.reset.ampOnlyInRecord := by decide
  have hplaces : State.reset.placesKept := by decide
  have hrest : State.reset.restSound := by decide
  refine ⟨hclock, hamp, hplaces, reset_heldOnce, hrest, reset_supplySound, ⟨rfl, rfl⟩, reset_noOccurrence, ?_⟩
  repeat' apply And.intro
  all_goals rfl

end Sys2Proof.Machine

/-!
Sys2Proof/Proofs/MechRequests: how a request of kind MECH comes to its execution and its reply, and how a step ends that hands SCHED an
evaluation alone.
-/

namespace Sys2Proof.Machine

/-! ## The requests of kind MECH -/

/-- The eleven requests of kind MECH, with command, start-paused flag and cancel-timer flag (section 11.9). -/
def mechForms : List (Instr × MechCmd × Bool × Bool) :=
  [(.play, .play, false, false), (.record false, .record, false, false), (.record true, .record, true, false),
    (.pause, .pause, false, false), (.stop false, .stop, false, false), (.stop true, .stop, false, true), (.cue, .cue, false, false),
    (.review, .review, false, false), (.fwind, .fwind, false, false), (.rwind, .rwind, false, false), (.eject, .eject, false, false)]

/-- What MECH's result makes of the reply (R201, R202). -/
def mechAnswer (r : State × ExecResult) : State × Answer :=
  match r.2 with
  | .done => done r.1
  | .accepted => accepted r.1
  | .refused why => refuse r.1 why (refusalData why r.1)

/-- The command of a request of the host. -/
def panelCmd (w : MechCmd) (paused cancel : Bool) : Cmd := { what := w, paused := paused, cancel := cancel, origin := .panel }

@[simp] theorem panelCmd_what (w : MechCmd) (p c : Bool) : (panelCmd w p c).what = w := rfl
@[simp] theorem panelCmd_cancel (w : MechCmd) (p c : Bool) : (panelCmd w p c).cancel = c := rfl
@[simp] theorem panelCmd_origin (w : MechCmd) (p c : Bool) : (panelCmd w p c).origin = .panel := rfl

/-- R201: a request of kind MECH that is taken at once is answered by MECH. -/
theorem exec_mech {i : Instr} {w : MechCmd} {p c : Bool} (hi : (i, w, p, c) ∈ mechForms) {s : State} (ht : s.takes) :
    exec i s = .next (finish (replyWith 1 (mechRequest w p c s))) := by
  have h (i : Instr) (k : i ≠ .restart) (r : State × Answer) (hs : serve i s = some r)
      (he : exec i s = .next (run (arrive (.request i)) s)) (hk : kindOf i = 1) : exec i s = .next (finish (replyWith 1 r)) := by
    rw [he, run_request_open i s ht k r hs, hk]
  simp only [mechForms, List.mem_cons, Prod.mk.injEq, List.not_mem_nil, or_false] at hi
  rcases hi with ⟨rfl, rfl, rfl, rfl⟩ | ⟨rfl, rfl, rfl, rfl⟩ | ⟨rfl, rfl, rfl, rfl⟩ | ⟨rfl, rfl, rfl, rfl⟩ | ⟨rfl, rfl, rfl, rfl⟩ |
    ⟨rfl, rfl, rfl, rfl⟩ | ⟨rfl, rfl, rfl, rfl⟩ | ⟨rfl, rfl, rfl, rfl⟩ | ⟨rfl, rfl, rfl, rfl⟩ | ⟨rfl, rfl, rfl, rfl⟩ |
    ⟨rfl, rfl, rfl, rfl⟩ <;> exact h _ (by simp) _ rfl rfl rfl

/-- R92: without a search, and with no entry to cancel, a request is a command to MECH. -/
theorem mechRequest_plain (w : MechCmd) (p c : Bool) {s : State} (hs : s.mark.search = none) (hc : cancelsTimer w c s = false) :
    mechRequest w p c s = mechAnswer (submit (panelCmd w p c) s) := by
  have h0 : searchCancel false s = s := by simp [searchCancel, hs]
  simp only [mechRequest, h0, hc, Bool.false_eq_true, if_false]
  rfl

/-- R6: on a free deck a command is executed on its arrival. -/
theorem submit_free (c : Cmd) {s : State} (hf : s.deckFree) : submit c s = execute c s := by
  obtain ⟨h1, h2, h3, -, h5, -⟩ := hf
  simp [submit, h1, h2, h3, h5]

theorem execute_refused {c : Cmd} {s : State} {why : Reason} (h : mechChecks c s = some why) : execute c s = (s, .refused why) := by
  simp [execute, h]

/-- R6, R11: a command that passes the checks is carried out with the fault code cleared and, for a motion or pause, a free recorder
taken. -/
theorem execute_passed {c : Cmd} {s : State} (h : mechChecks c s = none) :
    execute c s = mechWork c (if c.what = .stop ∨ c.what = .eject then clearFault s else claimPanel c.origin (clearFault s)) := by
  simp only [execute, h]
  cases c.what <;> rfl

theorem clearFault_eq {s : State} (h : s.mech.state ≠ .jammed) : clearFault s = s.onMech fun m => { m with fault := .none } := by
  simp [clearFault, h]

/-- R11: a free recorder is taken by PANEL, with an evaluation to follow; one that PANEL has is kept. -/
theorem claimPanel_eq {s : State} (h : s.mech.state ≠ .jammed) (ho : s.mech.owner = .none ∨ s.mech.owner = .panel) :
    ∃ l, (l = [] ∨ l = [Report.evaluate]) ∧ claimPanel .panel (clearFault s) =
      { s with mech := { s.mech with fault := .none, owner := .panel }, reports := s.reports ++ l } := by
  rw [clearFault_eq h]
  rcases ho with ho | ho
  · exact ⟨[.evaluate], .inr rfl, by simp [claimPanel, setOwner, ho, report, State.onMech]⟩
  · exact ⟨[], .inl rfl, by simp [claimPanel, ho, State.onMech]⟩

/-- R201: a command that MECH carries out without handing on a report: the reply stands, and the step ends. -/
theorem exec_submitted {i : Instr} {w : MechCmd} {p c : Bool} (hi : (i, w, p, c) ∈ mechForms) {s : State} (ht : s.takes)
    (hs : s.mark.search = none) (hc : cancelsTimer w c s = false) {r : State × ExecResult} (h : submit (panelCmd w p c) s = r)
    (hr : r.1.reports = []) :
    exec i s = .next ((mechAnswer r).1.answered 1 (mechAnswer r).2.result (mechAnswer r).2.reason (mechAnswer r).2.data).closed := by
  have hk : (mechAnswer r).1 = r.1 := by unfold mechAnswer; split <;> rfl
  rw [exec_mech hi ht, mechRequest_plain w p c hs hc, h]
  exact congrArg Host.Outcome.next (finish_closed _ (by rw [← hr, ← hk]; rfl))

/-! ## Reports that come to nothing -/

/-- The reports that concern a holder alone, or a search alone. -/
def Report.deaf (searching : Bool) : Report → Bool
  | .leaderSched | .faultSched | .spanReached _ | .recordEntered | .liveEstimate | .supplyUp | .skipReached => true
  | .closedTimer _ _ _ | .speedInForce _ | .supplyLost _ => true
  | .closedSearch _ _ _ | .leaderSearch | .interrupted _ => !searching
  | _ => false

/-- The reports that find nothing to do while no entry has an occurrence; a report to MARK does so only without a search. -/
def Report.idle (searching : Bool) (r : Report) : Bool :=
  r.deaf searching || (match r with | .evaluate | .minute | .labelState .none => true | _ => false)

theorem handleReport_deaf (b : Bool) (r : Report) {x : State} (hh : x.sched.holder = none) (hs : b = false → x.mark.search = none)
    (hr : r.deaf b = true) : handleReport r x = x := by
  cases r with
  | closedSearch tag c res => simp [handleReport, searchClosed, hs (by simpa [Report.deaf] using hr)]
  | leaderSearch => exact searchLeader_free x (hs (by simpa [Report.deaf] using hr))
  | interrupted why => exact searchInterrupted_free why x (hs (by simpa [Report.deaf] using hr))
  | closedTimer tag c res => simp [handleReport, timerClosed, hh]
  | leaderSched | faultSched => exact schedReport_free _ x hh
  | spanReached e => simp [handleReport, schedSpan, hh]
  | recordEntered => simp [handleReport, schedRecording, hh]
  | liveEstimate => simp [handleReport, schedEstimate, hh]
  | speedInForce v => simp [handleReport, schedSpeed, hh]
  | supplyUp => simp [handleReport, prepare, hh]
  | supplyLost tag => simp [handleReport, schedPower, hh]
  | skipReached => simp [handleReport, Machine.skipReached, hh]
  | _ => simp [Report.deaf] at hr

theorem handleReport_idle (b : Bool) (r : Report) {x : State} (hn : x.noOccurrence) (hs : b = false → x.mark.search = none)
    (hr : r.idle b = true) : ∃ d, handleReport r x = x.onSched fun c => { c with due := d } := by
  have eval (h : handleReport r x = evaluate x) : ∃ d, handleReport r x = x.onSched fun c => { c with due := d } :=
    ⟨none, h.trans (evaluate_noOccurrence x hn)⟩
  rcases Bool.or_eq_true _ _ |>.mp hr with hd | he
  · exact ⟨x.sched.due, handleReport_deaf b r hn.2 hs hd⟩
  · cases r with
    | evaluate | minute => exact eval rfl
    | labelState st =>
      cases st with
      | none =>
        have hg : labelGone x = x := by simp [labelGone, lossWatched, State.holderState, hn.2]
        exact eval (by simp [handleReport, labelReport, hg])
      | _ => simp at he
    | _ => simp at he

/-- The reports that concern a holder or a search alone are worked off without a trace where there is neither. -/
theorem drain_deaf (b : Bool) (l : List Report) : ∀ (n : Nat) (x : State), x.reports = l → l.length ≤ n → x.sched.holder = none →
    (b = false → x.mark.search = none) → (∀ r ∈ l, r.deaf b = true) → drain n x = { x with reports := [] } := by
  induction l with
  | nil => exact fun n x hl _ _ _ _ => by rw [drain_idle n x hl, ← hl]
  | cons r l ih =>
    intro n x hl hn hx hs hr
    obtain ⟨n, rfl⟩ : ∃ k, n = k + 1 := ⟨n - 1, by simp at hn; omega⟩
    have hd := handleReport_deaf b r (x := x.nextReport l) hx hs (hr r (by simp))
    have step : drain (n + 1) x = drain n (handleReport r (x.nextReport l)) := by simp [drain, hl]
    rw [step, hd, ih n (x.nextReport l) rfl (by simpa using hn) hx hs fun q hq => hr q (by simp [hq])]
    rfl

/-- A step whose reports concern a holder or a search alone, with neither, ends with them worked off. -/
theorem finish_deaf (b : Bool) (x : State) (hh : x.sched.holder = none) (hs : b = false → x.mark.search = none)
    (hl : x.reports.length ≤ 256) (hr : ∀ r ∈ x.reports, r.deaf b = true) :
    finish x = ({ x with reports := [] } : State).closed := by
  rw [finish, drain_deaf b x.reports drainFuel x rfl hl hh hs hr]
  rfl

/-- A report that comes to nothing in this state: an idle one, or the end of a recovery run with no standby asked for at the reset. -/
def Report.harmless (b : Bool) (x : State) (r : Report) : Prop := r.idle b = true ∨ (r = .recoveryEnded ∧ x.pwr.resetMark = false)

theorem handleReport_harmless (b : Bool) (r : Report) {x : State} (hn : x.noOccurrence) (hs : b = false → x.mark.search = none)
    (hr : r.harmless b x) : ∃ d, handleReport r x = x.onSched fun c => { c with due := d } := by
  rcases hr with hr | ⟨rfl, hm⟩
  · exact handleReport_idle b r hn hs hr
  · exact ⟨x.sched.due, by simp [handleReport, powerRecovered, hm, prepare, hn.2]; rfl⟩

theorem drain_quiet (b : Bool) (l : List Report) : ∀ (n : Nat) (x : State), x.reports = l → l.length ≤ n → x.noOccurrence →
    (b = false → x.mark.search = none) → (∀ r ∈ l, r.harmless b x) →
    ∃ d, drain n x = { x with reports := [], sched := { x.sched with due := d } } := by
  induction l with
  | nil => exact fun n x hl _ _ _ _ => ⟨x.sched.due, by rw [drain_idle n x hl, ← hl]⟩
  | cons r l ih =>
    intro n x hl hn hx hs hr
    obtain ⟨n, rfl⟩ : ∃ k, n = k + 1 := ⟨n - 1, by simp at hn; omega⟩
    obtain ⟨d, hd⟩ := handleReport_harmless b r (x := x.nextReport l) hx hs (hr r (by simp))
    obtain ⟨e, he⟩ := ih n (handleReport r (x.nextReport l)) (by rw [hd]; rfl) (by simpa using hn) (by rw [hd]; exact hx)
      (by rw [hd]; exact hs) fun q hq => by rw [hd]; exact hr q (by simp [hq])
    refine ⟨e, ?_⟩
    have step : drain (n + 1) x = drain n (handleReport r (x.nextReport l)) := by simp [drain, hl]
    rw [step, he, hd]
    rfl

/-- A step whose reports come to nothing ends with them worked off; a due instant is left at most. -/
theorem finish_harmless (b : Bool) (x : State) (hn : x.noOccurrence) (hs : b = false → x.mark.search = none)
    (hl : x.reports.length ≤ 256) (hr : ∀ r ∈ x.reports, r.harmless b x) :
    ∃ d, finish x = ({ x with reports := [], sched := { x.sched with due := d } } : State).closed := by
  obtain ⟨d, hd⟩ := drain_quiet b x.reports drainFuel x rfl hl hn hs hr
  exact ⟨d, by rw [finish, hd]; rfl⟩

theorem finish_reports (b : Bool) (x : State) (hn : x.noOccurrence) (hs : b = false → x.mark.search = none)
    (hl : x.reports.length ≤ 256) (hr : ∀ r ∈ x.reports, r.idle b = true) :
    ∃ d, finish x = ({ x with reports := [], sched := { x.sched with due := d } } : State).closed :=
  finish_harmless b x hn hs hl fun r h => .inl (hr r h)

/-- A step that hands on nothing, or an evaluation that finds no occurrence. -/
theorem finish_quiet (x : State) (hn : x.noOccurrence) (hr : x.reports = [] ∨ x.reports = [.evaluate]) :
    ∃ d, finish x = ({ x with reports := [], sched := { x.sched with due := d } } : State).closed :=
  finish_reports true x hn (by simp) (by rcases hr with hr | hr <;> simp [hr]) (by rcases hr with hr | hr <;> simp [hr, Report.idle, Report.deaf])

/-! ## Entering a state -/

@[simp] theorem setState_pos_motion (m : MState) (j : Option Junction) (b : Bool) (s : State) :
    (setState m j b s).pos.motion = (motionOf m j).map fun f => { forward := f, start := s.now } :=
  congrArg (fun v => v.deck.motion) (setState_view m j b s)

/-- A shift leaves SCHED alone, but where RECORD is left and an entry holds the recorder (R169). -/
theorem startShift_sched (m : MState) (b : Bool) (s : State) (h : s.mech.state ≠ .record ∨ s.sched.holder = none) :
    (startShift m b s).sched = s.sched := by
  simp [startShift, driveCam, aimAt, setState_sched _ _ _ s (h.imp_right .inr)]

theorem setState_junctionAt (m : MState) (j : Option Junction) (b : Bool) (s : State) :
    (setState m j b s).mech.junctionAt = s.pos.counter := by
  simp only [setState]; split <;> split <;> simp

/-! ## SERVO at the entry to a state (R36, R41, R43) -/

theorem loopsFollow_servo_gate (s : State) : (loopsFollow s).servo.gate = s.servo.gate := by
  unfold loopsFollow; simp only []; split <;> simp

theorem testReference_servo_gate (s : State) : (testReference s).servo.gate = s.servo.gate := by
  unfold testReference; simp only []; split <;> simp [loopsFollow_servo_gate]

/-- A state as MECH publishes it, before SERVO follows (R3). -/
def published (m : MState) (j : Option Junction) (s : State) : State :=
  let s1 := coastFollow m.onDrum (motionEnd s)
  let s2 := if s.mech.state = .record ∧ m ≠ .record then recordStopped s1 else s1
  readerClear (markLeave s.mech.state m (s2.onMech fun k =>
    { k with state := m, target := m, junction := j, junctionAt := s.pos.counter, reel := reelOf m j, recAmp := decide (m = .record), windSlow := false }))

/-- R3: the published state, followed by SERVO, then by the start of its motion. -/
theorem setState_eq (m : MState) (j : Option Junction) (b : Bool) (s : State) :
    setState m j b s = (match motionOf m j with
      | none => servoEnter s.mech.state b (published m j s)
      | some forward => motionBegin forward (servoEnter s.mech.state b (published m j s))) := rfl

theorem setState_servo (m : MState) (j : Option Junction) (b : Bool) (s : State) :
    (setState m j b s).servo = (servoEnter s.mech.state b (published m j s)).servo := by
  rw [setState_eq]; split <;> simp

@[simp] theorem published_mech_state (m : MState) (j : Option Junction) (s : State) : (published m j s).mech.state = m := by
  simp [published]
@[simp] theorem published_mech_junction (m : MState) (j : Option Junction) (s : State) : (published m j s).mech.junction = j := by
  simp [published]
@[simp] theorem published_servo (m : MState) (j : Option Junction) (s : State) : (published m j s).servo = s.servo := by
  simp only [published]; split <;> simp
@[simp] theorem published_clock (m : MState) (j : Option Junction) (s : State) : (published m j s).clock = s.clock := by
  simp only [published]; split <;> simp

/-- R41: the gate follows the junction operation. -/
theorem setState_servo_gate (m : MState) (j : Option Junction) (b : Bool) (s : State) :
    (setState m j b s).servo.gate = gateTimer s.now j s.servo.gate := by
  have h : ∀ x : State, ((playFollow s.mech.state m (sessionFollow m x)).servo.gate = x.servo.gate) := by
    intro x; simp only [playFollow, sessionFollow, State.onServo_servo]; (repeat' split) <;> rfl
  simp [setState_servo, servoEnter, loopsFollow_servo_gate, testReference_servo_gate, phaseFollow, h]
  simp [playFollow, sessionFollow, State.now]

/-- R43: within a session its speed stays. -/
theorem setState_servo_recSpeed (m : MState) (j : Option Junction) (b : Bool) (s : State) (hm : inSession m = true) {v : Speed}
    (hv : s.servo.recSpeed = some v) : (setState m j b s).servo.recSpeed = some v := by
  have h : ∀ x : State, ((playFollow s.mech.state m (sessionFollow m x)).servo.recSpeed = (sessionFollow m x).servo.recSpeed) := by
    intro x; simp only [playFollow, State.onServo_servo]; (repeat' split) <;> rfl
  simp [setState_servo, servoEnter, phaseFollow, h]
  simp [sessionFollow, hm, hv]

theorem setPhase_target (on : Bool) (c : Capstan) : (c.setPhase on).target = c.target := by
  have hj (d : Capstan) : d.judged.target = d.target := by unfold Capstan.judged; (repeat' split) <;> rfl
  unfold Capstan.setPhase; (repeat' split) <;> simp [hj]

theorem demand_target (t : Option CapTarget) (n : Nat) (c : Capstan) : (c.demand t n).target = t := by
  unfold Capstan.demand
  (repeat' split) <;> first | rfl | assumption

/-- R33: in REC_PAUSE the capstan turns at the session's speed, as the junction operation wants it. -/
theorem setState_servo_capstan (j : Junction) (b : Bool) (s : State) {v : Speed} (hv : s.servo.recSpeed = some v) :
    (setState .recPause (some j) b s).servo.capstan.target = some { speed := v, fast := false, reverse := decide (j = .backspace) } := by
  have h : ∀ x : State, ((playFollow s.mech.state .recPause x).servo.recSpeed = x.servo.recSpeed) := by
    intro x; simp only [playFollow, State.onServo_servo]; (repeat' split) <;> rfl
  have h' : (playFollow s.mech.state .recPause (sessionFollow .recPause (published .recPause (some j) s))).recordingSpeed = v := by
    simp [State.recordingSpeed, h]; simp [sessionFollow, inSession, hv]
  have hm : (playFollow s.mech.state .recPause (sessionFollow .recPause (published .recPause (some j) s))).mech =
      (published .recPause (some j) s).mech := rfl
  simp [setState_servo, servoEnter, phaseFollow, setPhase_target, demand_target]
  simp [capstanDemand, hm, h']
  cases j <;> rfl

end Sys2Proof.Machine

/-!
Sys2Proof/Proofs/Motions: the commands whose target is a motion or pause, from a free recorder or one PANEL has (R6 to R9): what MECH
does with them, and the step they make.
-/

namespace Sys2Proof.Machine

/-! ## The recorder taken -/

/-- The fault code cleared and the recorder with PANEL, reports handed on (R5, R11). -/
def taken (l : List Report) (s : State) : State :=
  { s with mech := { s.mech with fault := .none, owner := .panel }, reports := s.reports ++ l }

/-- The state at the end of a step that has worked its reports off, with a due instant of SCHED's. -/
def ended (d : Option Nat) (x : State) : State := ({ x with reports := [], sched := { x.sched with due := d } } : State).closed

/-- A motion or pause that passes the checks goes to work with the recorder taken. -/
theorem execute_taken {w : MechCmd} (p : Bool) {s : State} (hw : w ≠ .stop ∧ w ≠ .eject) (hj : s.mech.state ≠ .jammed)
    (ho : s.mech.owner = .none ∨ s.mech.owner = .panel) (hc : mechChecks (panelCmd w p false) s = none) :
    ∃ l, (l = [] ∨ l = [Report.evaluate]) ∧ execute (panelCmd w p false) s = mechWork (panelCmd w p false) (taken l s) := by
  obtain ⟨l, hl, he⟩ := claimPanel_eq hj ho
  refine ⟨l, hl, ?_⟩
  rw [execute_passed hc, if_neg (by simpa [panelCmd] using hw)]
  exact congrArg (mechWork _) he

/-- R7, R9: a motion or pause goes toward its target from the state it finds. -/
theorem exec_goTo {i : Instr} {w : MechCmd} {p : Bool} (hi : (i, w, p, false) ∈ mechForms) (hw : w ≠ .stop ∧ w ≠ .eject) {s : State}
    (ht : s.takes) (hf : s.deckFree) (hn : s.noOccurrence) (hj : s.mech.state ≠ .jammed)
    (ho : s.mech.owner = .none ∨ s.mech.owner = .panel) (hc : mechChecks (panelCmd w p false) s = none) (target : MState)
    (hg : ∀ x : State, x.mech.state = s.mech.state → mechWork (panelCmd w p false) x = goTo (panelCmd w p false) target x) :
    ∃ l d, exec i s = .next (ended d ((goTo (panelCmd w p false) target (taken l s)).1.answered 1 .accepted .none [])) := by
  obtain ⟨l, hl, he⟩ := execute_taken p hw hj ho hc
  have ha : cancelsTimer w false s = false := by simp [cancelsTimer]
  have hr : replyWith 1 (mechRequest w p false s) = (goTo (panelCmd w p false) target (taken l s)).1.answered 1 .accepted .none [] := by
    rw [mechRequest_plain w p false hf.2.2.2.2.2 ha, submit_free _ hf, he, hg (taken l s) rfl]
    rfl
  have hsched : (goTo (panelCmd w p false) target (taken l s)).1.sched = s.sched := by
    simp only [goTo, takesTime]
    split <;> simp [startThread, startShift, driveCam, aimAt, setState_sched, taken, hn.2]
  have hreports : (goTo (panelCmd w p false) target (taken l s)).1.reports = l := by
    simp only [goTo, takesTime]
    split <;> simp [startThread, startShift, driveCam, aimAt, taken, ht.1.2]
  obtain ⟨d, hd⟩ := finish_quiet ((goTo (panelCmd w p false) target (taken l s)).1.answered 1 .accepted .none [])
    (by simpa [State.noOccurrence, State.answered, hsched] using hn) (by simpa [State.answered, hreports] using hl)
  exact ⟨l, d, by rw [exec_mech hi ht, hr, hd]; rfl⟩

/-! ## O3 -/

theorem mem_mechForms_of_motion {i : Instr} {w : MechCmd} {p : Bool} {m : MState}
    (h : (i, w, p, m) ∈ [(Instr.play, MechCmd.play, false, MState.play), (.record false, .record, false, .recPause),
      (.record true, .record, true, .recPause), (.cue, .cue, false, .cue), (.review, .review, false, .review),
      (.fwind, .fwind, false, .fwind), (.rwind, .rwind, false, .rwind)]) :
    (i, w, p, false) ∈ mechForms ∧ w ≠ .stop ∧ w ≠ .eject ∧ w ≠ .pause := by
  simp only [List.mem_cons, Prod.mk.injEq, List.not_mem_nil, or_false] at h
  rcases h with ⟨rfl, rfl, rfl, rfl⟩ | ⟨rfl, rfl, rfl, rfl⟩ | ⟨rfl, rfl, rfl, rfl⟩ | ⟨rfl, rfl, rfl, rfl⟩ | ⟨rfl, rfl, rfl, rfl⟩ |
    ⟨rfl, rfl, rfl, rfl⟩ | ⟨rfl, rfl, rfl, rfl⟩ <;> simp [mechForms]

/-- R6: what a motion of the host needs to pass the checks on a free recorder. -/
theorem motion_passes (w : MechCmd) (p : Bool) {s : State} (hf : s.deckFree) (hw : w ≠ .stop ∧ w ≠ .eject ∧ w ≠ .pause)
    (hj : s.mech.state ≠ .jammed) (he : s.mech.state ≠ .empty) (ho : s.mech.owner = .none ∨ s.mech.owner = .panel)
    (hb : badFrom w s.mech.state = false) (hr : w = .record → s.mech.tab = true ∧ s.insideSpan = false)
    (h1 : w ≠ .review ∧ w ≠ .rwind → s.pins.leaderEnd = false) (h2 : w = .review ∨ w = .rwind → s.pins.leaderStart = false) :
    mechChecks (panelCmd w p false) s = none := by
  have ho : ownerRefuses (panelCmd w p false) s.mech.owner = false := by rcases ho with ho | ho <;> simp [ownerRefuses, ho, Owner.isTimer]
  obtain ⟨hp, -⟩ := hf
  cases w <;> simp_all [mechChecks, panelCmd, recordForm, forwardTarget, reverseTarget]

/-- R7: in IDLE a motion threads. -/
theorem mechWork_idle {i : Instr} {w : MechCmd} {p : Bool} {m : MState}
    (h : (i, w, p, m) ∈ [(Instr.play, MechCmd.play, false, MState.play), (.record false, .record, false, .recPause),
      (.record true, .record, true, .recPause), (.cue, .cue, false, .cue), (.review, .review, false, .review),
      (.fwind, .fwind, false, .fwind), (.rwind, .rwind, false, .rwind)])
    {x : State} (hx : x.mech.state = .idle) : mechWork (panelCmd w p false) x = goTo (panelCmd w p false) m x := by
  simp only [List.mem_cons, Prod.mk.injEq, List.not_mem_nil, or_false] at h
  rcases h with ⟨rfl, rfl, rfl, rfl⟩ | ⟨rfl, rfl, rfl, rfl⟩ | ⟨rfl, rfl, rfl, rfl⟩ | ⟨rfl, rfl, rfl, rfl⟩ | ⟨rfl, rfl, rfl, rfl⟩ |
    ⟨rfl, rfl, rfl, rfl⟩ | ⟨rfl, rfl, rfl, rfl⟩ <;> simp [mechWork, panelCmd, hx]

theorem badFrom_idle (w : MechCmd) (h : w ≠ .pause) : badFrom w .idle = false := by cases w <;> simp_all [badFrom]

/-- R7, R9: the rows of a shift: command, target, cam position and the threaded states it is taken from. -/
def shiftRows : List (Instr × MechCmd × Bool × MState × CamCode × List MState) :=
  [(.play, .play, false, .play, 4, [.halt, .review, .fwind, .rwind]),
    (.record false, .record, false, .recPause, 4, [.halt, .fwind, .rwind]),
    (.record true, .record, true, .recPause, 4, [.halt, .fwind, .rwind]),
    (.cue, .cue, false, .cue, 4, [.halt, .review, .fwind, .rwind]),
    (.review, .review, false, .review, 5, [.halt, .play, .still, .cue, .fwind, .rwind]),
    (.fwind, .fwind, false, .fwind, 6, [.halt, .play, .still, .cue, .review, .recPause]),
    (.rwind, .rwind, false, .rwind, 6, [.halt, .play, .still, .cue, .review, .recPause])]

/-- A shift's row, taken from one of its states. -/
structure ShiftRow (w : MechCmd) (p : Bool) (m : MState) (code : CamCode) (st : MState) : Prop where
  cam : camOf m = code
  taken : badFrom w st = false
  threaded : st.threaded = true ∧ st ≠ .record
  works : ∀ x : State, x.mech.state = st → mechWork (panelCmd w p false) x = goTo (panelCmd w p false) m x

theorem shiftRow_of_mem {i : Instr} {w : MechCmd} {p : Bool} {m : MState} {code : CamCode} {starts : List MState}
    (h : (i, w, p, m, code, starts) ∈ shiftRows) {st : MState} (hs : st ∈ starts) : ShiftRow w p m code st := by
  simp only [shiftRows, List.mem_cons, Prod.mk.injEq, List.not_mem_nil, or_false] at h
  rcases h with ⟨rfl, rfl, rfl, rfl, rfl, rfl⟩ | ⟨rfl, rfl, rfl, rfl, rfl, rfl⟩ | ⟨rfl, rfl, rfl, rfl, rfl, rfl⟩ |
    ⟨rfl, rfl, rfl, rfl, rfl, rfl⟩ | ⟨rfl, rfl, rfl, rfl, rfl, rfl⟩ | ⟨rfl, rfl, rfl, rfl, rfl, rfl⟩ | ⟨rfl, rfl, rfl, rfl, rfl, rfl⟩ <;>
  simp only [List.mem_cons, List.not_mem_nil, or_false] at hs <;>
  exact
    { cam := rfl, taken := by rcases hs with rfl | rfl | rfl | rfl | rfl | rfl <;> rfl,
      threaded := by rcases hs with rfl | rfl | rfl | rfl | rfl | rfl <;> simp [MState.threaded],
      works := fun x hx => by rcases hs with rfl | rfl | rfl | rfl | rfl | rfl <;> simp [mechWork, panelCmd, hx] }

theorem mem_of_shiftRows {i : Instr} {w : MechCmd} {p : Bool} {m : MState} {code : CamCode} {starts : List MState}
    (h : (i, w, p, m, code, starts) ∈ shiftRows) : (i, w, p, false) ∈ mechForms ∧ w ≠ .stop ∧ w ≠ .eject ∧ w ≠ .pause := by
  simp only [shiftRows, List.mem_cons, Prod.mk.injEq, List.not_mem_nil, or_false] at h
  rcases h with ⟨rfl, rfl, rfl, rfl, rfl, rfl⟩ | ⟨rfl, rfl, rfl, rfl, rfl, rfl⟩ | ⟨rfl, rfl, rfl, rfl, rfl, rfl⟩ |
    ⟨rfl, rfl, rfl, rfl, rfl, rfl⟩ | ⟨rfl, rfl, rfl, rfl, rfl, rfl⟩ | ⟨rfl, rfl, rfl, rfl, rfl, rfl⟩ | ⟨rfl, rfl, rfl, rfl, rfl, rfl⟩ <;>
  simp [mechForms]

/-- Settles O3: by the row of the command, whose step `exec_goTo` gives. -/
theorem motionCommandsThreadFromIdle : Obligations.MotionCommandsThreadFromIdle := by
  refine ⟨fun i w p m s hm ht hf hn hs ho hr h1 h2 => ?_, fun i w p m code starts s hm ht hf hn hs _ _ ho hr h1 h2 => ?_⟩
  · obtain ⟨hi, hstop, heject, hpause⟩ := mem_mechForms_of_motion hm
    have hc := motion_passes w p hf ⟨hstop, heject, hpause⟩ (by simp [hs]) (by simp [hs]) ho (hs ▸ badFrom_idle w hpause) hr h1 h2
    obtain ⟨l, d, he⟩ := exec_goTo hi ⟨hstop, heject⟩ ht hf hn (by simp [hs]) ho hc m fun x hx => mechWork_idle hm (hx.trans hs)
    refine ⟨_, he, ?_⟩
    simp [ended, State.closed, State.answered, goTo, takesTime, taken, hs, startThread, driveCam, aimAt, setState_sched, reelOf, panelCmd, State.now,
      hf.2.2.2.1]
    intro hcam
    simp [hcam]
  · obtain ⟨hi, hstop, heject, hpause⟩ := mem_of_shiftRows hm
    have row := shiftRow_of_mem hm hs
    obtain ⟨hth, hrec⟩ := row.threaded
    have hidle : s.mech.state ≠ .idle := by intro h; simp [h, MState.threaded] at hth
    have hjam : s.mech.state ≠ .jammed := by intro h; simp [h, MState.threaded] at hth
    have hempty : s.mech.state ≠ .empty := by intro h; simp [h, MState.threaded] at hth
    have hc := motion_passes w p hf ⟨hstop, heject, hpause⟩ hjam hempty ho row.taken hr h1 h2
    obtain ⟨l, d, he⟩ := exec_goTo hi ⟨hstop, heject⟩ ht hf hn hjam ho hc m row.works
    refine ⟨_, he, ?_⟩
    simp [ended, State.closed, State.answered, goTo, takesTime, taken, hidle, startShift, driveCam, aimAt, setState_sched, reelOf, panelCmd, State.now,
      hf.2.2.2.1, row.cam, hrec, motionOf]

end Sys2Proof.Machine

/-!
Sys2Proof/Proofs/AtOnce: the commands that move no cam (R7, R8, R16, R17): a state entered at once, a junction operation begun.
-/

namespace Sys2Proof.Machine

/-- A motion or pause of the host on a recorder PANEL has, past the checks: the fault code alone changes before its work. -/
theorem execute_held {w : MechCmd} (p : Bool) {s : State} (hw : w ≠ .stop ∧ w ≠ .eject) (hj : s.mech.state ≠ .jammed)
    (ho : s.mech.owner = .panel) (hc : mechChecks (panelCmd w p false) s = none) :
    execute (panelCmd w p false) s = mechWork (panelCmd w p false) (s.onMech fun m => { m with fault := .none }) := by
  rw [execute_passed hc, if_neg (by simpa [panelCmd] using hw), clearFault_eq hj]
  simp [claimPanel, panelCmd, ho]

/-- The step of such a command whose work hands on no report. -/
theorem exec_held {i : Instr} {w : MechCmd} {p : Bool} (hi : (i, w, p, false) ∈ mechForms) (hw : w ≠ .stop ∧ w ≠ .eject) {s : State}
    (ht : s.takes) (hf : s.deckFree) (hj : s.mech.state ≠ .jammed) (ho : s.mech.owner = .panel)
    (hc : mechChecks (panelCmd w p false) s = none) {r : State × ExecResult}
    (h : mechWork (panelCmd w p false) (s.onMech fun m => { m with fault := .none }) = r) (hr : r.1.reports = []) :
    exec i s = .next ((mechAnswer r).1.answered 1 (mechAnswer r).2.result (mechAnswer r).2.reason (mechAnswer r).2.data).closed :=
  exec_submitted hi ht hf.2.2.2.2.2 (by simp [cancelsTimer])
    (by rw [submit_free _ hf, execute_held p hw hj ho hc, h]) hr

/-- R7, R8: the commands that enter their target at once, with the state they find. -/
def atOnceRows : List (Instr × MechCmd × MState × MState) :=
  [(.play, .play, .still, .play), (.play, .play, .cue, .play), (.cue, .cue, .play, .cue), (.cue, .cue, .still, .cue),
    (.fwind, .fwind, .rwind, .fwind), (.rwind, .rwind, .fwind, .rwind), (.pause, .pause, .play, .still), (.pause, .pause, .still, .play)]

theorem mechWork_atOnce {i : Instr} {w : MechCmd} {m target : MState} (h : (i, w, m, target) ∈ atOnceRows) {x : State}
    (hx : x.mech.state = m) : mechWork (panelCmd w false false) x = (setState target none false x, .done) := by
  simp only [atOnceRows, List.mem_cons, Prod.mk.injEq, List.not_mem_nil, or_false] at h
  rcases h with ⟨rfl, rfl, rfl, rfl⟩ | ⟨rfl, rfl, rfl, rfl⟩ | ⟨rfl, rfl, rfl, rfl⟩ | ⟨rfl, rfl, rfl, rfl⟩ | ⟨rfl, rfl, rfl, rfl⟩ |
    ⟨rfl, rfl, rfl, rfl⟩ | ⟨rfl, rfl, rfl, rfl⟩ | ⟨rfl, rfl, rfl, rfl⟩ <;> simp [mechWork, panelCmd, atOnce, hx]

/-- What the rows have in common: requests of kind MECH whose state is none that refuses them, between states other than RECORD. -/
theorem atOnceRows_spec {i : Instr} {w : MechCmd} {m target : MState} (h : (i, w, m, target) ∈ atOnceRows) :
    (i, w, false, false) ∈ mechForms ∧ w ≠ .stop ∧ w ≠ .eject ∧ m ≠ .jammed ∧ m ≠ .empty ∧ m ≠ .record ∧ badFrom w m = false ∧
      recordForm w m = false ∧ target ≠ .record := by
  simp only [atOnceRows, List.mem_cons, Prod.mk.injEq, List.not_mem_nil, or_false] at h
  rcases h with ⟨rfl, rfl, rfl, rfl⟩ | ⟨rfl, rfl, rfl, rfl⟩ | ⟨rfl, rfl, rfl, rfl⟩ | ⟨rfl, rfl, rfl, rfl⟩ | ⟨rfl, rfl, rfl, rfl⟩ |
    ⟨rfl, rfl, rfl, rfl⟩ | ⟨rfl, rfl, rfl, rfl⟩ | ⟨rfl, rfl, rfl, rfl⟩ <;> simp [mechForms, badFrom, recordForm]

theorem exec_atOnce {i : Instr} {w : MechCmd} {m target : MState} (hm : (i, w, m, target) ∈ atOnceRows) {s : State} (ht : s.takes)
    (hf : s.deckFree) (hs : s.mech.state = m) (ho : s.mech.owner = .panel)
    (h1 : forwardTarget w m = true → s.pins.leaderEnd = false) (h2 : reverseTarget w = true → s.pins.leaderStart = false) :
    exec i s = .next ((setState target none false (s.onMech fun k => { k with fault := .none })).answered 1 .done .none []).closed := by
  obtain ⟨hi, hstop, heject, hjam, hempty, -, hbad, hform, -⟩ := atOnceRows_spec hm
  have hc : mechChecks (panelCmd w false false) s = none := by
    have h1' : ¬ (forwardTarget w m = true ∧ s.pins.leaderEnd = true) := fun ⟨a, b⟩ => by simp [h1 a] at b
    have h2' : ¬ (reverseTarget w = true ∧ s.pins.leaderStart = true) := fun ⟨a, b⟩ => by simp [h2 a] at b
    simp [mechChecks, panelCmd, hs, hjam, hempty, hf.1, ownerRefuses, ho, Owner.isTimer, hbad, hform, h1', h2']
  exact exec_held hi ⟨hstop, heject⟩ ht hf (hs ▸ hjam) ho hc
    (mechWork_atOnce hm (x := s.onMech fun m => { m with fault := .none }) hs) (by simpa using ht.1.2)

/-- R8, R16, R17: the commands that begin a junction operation. -/
def junctionRows : List (Instr × MechCmd × MState × Junction × Bool) :=
  [(.pause, .pause, .record, .backspace, false), (.pause, .pause, .recPause, .preRoll, true),
    (.record false, .record, .recPause, .preRoll, true)]

theorem mechWork_junction {i : Instr} {w : MechCmd} {m : MState} {j : Junction} {f : Bool} (h : (i, w, m, j, f) ∈ junctionRows)
    {x : State} (hx : x.mech.state = m) :
    mechWork (panelCmd w false false) x = junctionWork (panelCmd w false false) j x := by
  simp only [junctionRows, List.mem_cons, Prod.mk.injEq, List.not_mem_nil, or_false] at h
  rcases h with ⟨rfl, rfl, rfl, rfl, rfl⟩ | ⟨rfl, rfl, rfl, rfl, rfl⟩ | ⟨rfl, rfl, rfl, rfl, rfl⟩ <;> simp [mechWork, panelCmd, hx]

theorem junctionRows_spec {i : Instr} {w : MechCmd} {m : MState} {j : Junction} {f : Bool} (h : (i, w, m, j, f) ∈ junctionRows) :
    (i, w, false, false) ∈ mechForms ∧ w ≠ .stop ∧ w ≠ .eject ∧ m ≠ .jammed ∧ m ≠ .empty ∧ badFrom w m = false ∧
      (recordForm w m = true ∨ forwardTarget w m = true → j = .preRoll) ∧ reverseTarget w = false ∧
      motionOf .recPause (some j) = some f ∧ f = !decide (j = .backspace) := by
  simp only [junctionRows, List.mem_cons, Prod.mk.injEq, List.not_mem_nil, or_false] at h
  rcases h with ⟨rfl, rfl, rfl, rfl, rfl⟩ | ⟨rfl, rfl, rfl, rfl, rfl⟩ | ⟨rfl, rfl, rfl, rfl, rfl⟩ <;>
    simp [mechForms, badFrom, recordForm, forwardTarget, reverseTarget, motionOf]

/-- Settles O4: by the row of the command, whose work is an entry to its target or a junction operation. -/
theorem commandsReachedAtOnceAreDone : Obligations.CommandsReachedAtOnceAreDone := by
  refine ⟨fun i w m target s hm ht hf hs ho h1 h2 => ?_, fun i w m j f v s hm ht hf hs hj ho hh hv hp => ?_, fun s ht hf hs hj ho h1 h2 h3 => ?_⟩
  · obtain ⟨-, -, -, -, -, hrec, -, -, htarget⟩ := atOnceRows_spec hm
    refine ⟨_, exec_atOnce hm ht hf hs ho (fun _ => h1) fun _ => h2, ?_⟩
    simp [State.closed, State.answered, setState_sched, hs, hrec, htarget, hf.2.2.1, hf.2.2.2.1, ho]
  · obtain ⟨hi, hstop, heject, hjam, hempty, hbad, hform, hrev, hmot, hf'⟩ := junctionRows_spec hm
    have hc : mechChecks (panelCmd w false false) s = none := by
      by_cases hpre : j = .preRoll
      · simp [mechChecks, panelCmd, hs, hjam, hempty, hf.1, ownerRefuses, ho, Owner.isTimer, hbad, hrev, hp hpre]
      · have hform : recordForm w m = false ∧ forwardTarget w m = false := by simpa [not_or] using mt hform hpre
        simp [mechChecks, panelCmd, hs, hjam, hempty, hf.1, ownerRefuses, ho, Owner.isTimer, hbad, hform, hrev]
    refine ⟨_, exec_held hi ⟨hstop, heject⟩ ht hf (hs ▸ hjam) ho hc
      (mechWork_junction hm (x := s.onMech fun m => { m with fault := .none }) hs) (by simpa [junctionWork, takesTime] using ht.1.2), ?_⟩
    simp [mechAnswer, accepted, junctionWork, takesTime, State.closed, State.answered, setState_sched, hh, hf.2.2.2.1, ho,
      setState_junctionAt, setState_servo_capstan, setState_servo_recSpeed, setState_servo_gate, inSession, hv, hmot, State.now, panelCmd]
    subst hf'
    cases j <;> simp [reelOf, gateTimer]
    intro h; simp [h]
  · have hc : mechChecks (panelCmd .record true false) s = none := by
      simp [mechChecks, panelCmd, hs, hf.1, ownerRefuses, ho, Owner.isTimer, badFrom, h1, h2, h3, reverseTarget]
    exact exec_held (i := .record true) (by simp [mechForms]) (by simp) ht hf (by simp [hs]) ho hc
      (r := (s.onMech fun m => { m with fault := .none }, .done)) (by simp [mechWork, panelCmd, hs, atOnce]) ht.1.2

end Sys2Proof.Machine

/-!
Sys2Proof/Proofs/Ends: the end of a ONCE occurrence (R167): what the release of the recorder touches, and how the slot, the holder and
the timers stand after it.
-/

namespace Sys2Proof.Machine

/-! ## What the outlet, the source and the notices leave alone -/

/-- The part of the state that BOX, TUNER, LDD and SERVO do not share. -/
structure Core where
  pins : Pins
  mech : Mech
  counter : Int
  motion : Option Motion
  mark : Mark
  clock : Clock
  sched : Sched
  pwr : Pwr
  reply : Option Reply
  pending : List Instr

def State.core (s : State) : Core :=
  { pins := s.pins, mech := s.mech, counter := s.pos.counter, motion := s.pos.motion, mark := s.mark, clock := s.clock,
    sched := s.sched, pwr := s.pwr, reply := s.link.reply, pending := s.pending }

@[simp] theorem notify_core (n : Notice) (s : State) : (notify n s).core = s.core := by simp [State.core]
@[simp] theorem report_core (r : Report) (s : State) : (report r s).core = s.core := rfl
@[simp] theorem onBox_core (f : Box → Box) (s : State) : (s.onBox f).core = s.core := rfl
@[simp] theorem onLdd_core (f : Ldd → Ldd) (s : State) : (s.onLdd f).core = s.core := rfl
@[simp] theorem onTuner_core (f : Tuner → Tuner) (s : State) : (s.onTuner f).core = s.core := rfl

@[simp] theorem outletSwitchOn_core (p : OutletPlan) (s : State) : (outletSwitchOn p s).core = s.core := by
  simp only [outletSwitchOn]; split <;> simp
@[simp] theorem outletSwitchOff_core (k : Nat) (p : Timepoint) (s : State) : (outletSwitchOff k p s).core = s.core := by
  simp only [outletSwitchOff]; split <;> simp
@[simp] theorem outletOffPoint_core (k : Nat) (p : Timepoint) (s : State) : (outletOffPoint k p s).core = s.core := by
  unfold outletOffPoint; split <;> simp
@[simp] theorem outletOnPoint_core (k : Nat) (p : Timepoint) (s : State) : (outletOnPoint k p s).core = s.core := by
  unfold outletOnPoint; (repeat' split) <;> simp
@[simp] theorem timepoint_core (k : Nat) (p : Timepoint) (s : State) : (timepoint k p s).core = s.core := by
  simp only [timepoint]; (repeat' split) <;> simp [dropDeferred]

@[simp] theorem testReference_core (s : State) : (testReference s).core = s.core := by simp [State.core]
@[simp] theorem labelSideReset_core (s : State) : (labelSideReset s).core = s.core := by
  simp only [labelSideReset]; split <;> simp
@[simp] theorem sourceFollow_core (s : State) : (sourceFollow s).core = s.core := by
  unfold sourceFollow; split <;> simp [lddActivity]

theorem timepoint_reports (k : Nat) (p : Timepoint) (s : State) : (timepoint k p s).reports = s.reports := by
  have hon (x : State) : (outletOnPoint k p x).reports = x.reports := by
    unfold outletOnPoint outletSwitchOn; (repeat' split) <;> simp
  have hoff (x : State) : (outletOffPoint k p x).reports = x.reports := by
    unfold outletOffPoint outletSwitchOff; (repeat' split) <;> simp
  simp only [timepoint]; (repeat' split) <;> simp [hon, hoff, dropDeferred]

/-- R109, R122: a change of the selected source may tell SCHED that the label is gone. -/
theorem sourceFollow_reports (s : State) :
    (sourceFollow s).reports = s.reports ∨ (sourceFollow s).reports = s.reports ++ [.labelState .none] := by
  unfold sourceFollow; split
  · exact .inl rfl
  · have ht (x : State) : (testReference x).reports = x.reports := by simp
    rw [ht]
    simp only [lddActivity, labelSideReset, State.onLdd_reports]
    split <;> simp

theorem timepoint_if_core (b : Bool) (k : Nat) (p : Timepoint) (s : State) :
    (if b = true then timepoint k p s else s).core = s.core := by split <;> simp

theorem timepoint_if_reports (b : Bool) (k : Nat) (p : Timepoint) (s : State) :
    (if b = true then timepoint k p s else s).reports = s.reports := by split <;> simp [timepoint_reports]

/-! ## Slots by number -/

theorem slot_of_hasSlot {n : Nat} {k : Slot} {s : State} (h : s.hasSlot n k) : s.slot n = k := by
  simp [State.slot, List.getD_eq_getElem?_getD, h.2.2]

theorem modify_of_hasSlot {l : List Slot} {i : Nat} {k : Slot} (h : l[i]? = some k) (f : Slot → Slot) : l.modify i f = l.set i (f k) := by
  refine List.ext_getElem? fun j => ?_
  rw [List.getElem?_modify, List.getElem?_set]
  by_cases hj : i = j
  · subst hj
    obtain ⟨hi, rfl⟩ := List.getElem?_eq_some_iff.mp h
    simp [hi]
  · simp [hj]

/-- A table in which no slot but one has an occurrence, that one given a content without. -/
theorem noOccurrence_set {l : List Slot} {i : Nat} {a b : Slot} (h : ∀ t ∈ l.set i a, t.occ = none) (hb : b.occ = none) :
    ∀ t ∈ l.set i b, t.occ = none := by
  intro t ht
  obtain ⟨j, hj⟩ := List.mem_iff_getElem?.mp ht
  rw [List.getElem?_set] at hj
  split at hj
  · split at hj
    · obtain rfl := Option.some.inj hj; exact hb
    · exact absurd hj (by simp)
  · next hij => exact h t (List.mem_iff_getElem?.mpr ⟨j, by rw [List.getElem?_set, if_neg hij]; exact hj⟩)

/-! ## The end of a ONCE occurrence -/

/-- R167: a slot whose ONCE occurrence has ended. -/
def onceEnded (out : EndCode) (date : Option Date) (seconds : Nat) (k : Slot) : Slot :=
  { k with state := .done, lastDate := date, outcome := out, recSeconds := seconds, occ := none }

/-- R150, R168: SCHED once the recorder is released by the end of an occurrence. -/
def Sched.released (post : PostHold) (c : Sched) : Sched :=
  { c with holder := none, stopAt := none, schedAt := none, windowAt := none, held := none, loss := none, post := some post }

/-- R168: whether the entry of a slot asks for the power to be switched off. -/
def State.powerOffOf (s : State) (k : Nat) : Bool := match (s.slot k).entry with | none => false | some e => e.powerOff

/-- R12, R150: the recorder released, before the source and the outlet follow. -/
def releasing (k : Nat) (s : State) : State :=
  (s.onMech fun m => { m with owner := releasedOwner m }).onSched
    (Sched.released { since := s.now, slot := k, powerOff := s.powerOffOf k })

theorem release_eq (k : Nat) (s : State) :
    release true k s = report .evaluate (timepoint k .occurrenceEnd (sourceFollow (releasing k s))) := rfl

theorem release_core (k : Nat) (s : State) : (release true k s).core = (releasing k s).core := by simp [release_eq]

theorem release_reports (k : Nat) (s : State) : ∃ l, (∀ r ∈ l, r.idle true = true) ∧ l.length ≤ 2 ∧
    (release true k s).reports = s.reports ++ l := by
  simp only [release_eq, report_reports, timepoint_reports]
  rcases sourceFollow_reports (releasing k s) with h | h
  · exact ⟨[.evaluate], by simp [Report.idle, Report.deaf], by simp, by rw [h]; rfl⟩
  · exact ⟨[.labelState .none, .evaluate], by simp [Report.idle, Report.deaf], by simp, by rw [h]; simp [releasing]⟩

theorem onSlot_core (n : Nat) (f : Slot → Slot) (s : State) : (onSlot n f s).core =
    { s.core with sched := { s.core.sched with slots := s.core.sched.slots.modify (n - 1) f } } := rfl

theorem resultsKept_core (n : Nat) (out : EndCode) (noStop : Bool) (s : State) : (resultsKept n out noStop s).core =
    (onSlot n (fun x => { x with lastDate := (s.slot n).date, outcome := out, recSeconds := s.recordedSeconds n })
      (stopIssued n out noStop s)).core := by
  simp only [resultsKept, onSlot_core, timepoint_if_core]

theorem resultsKept_reports (n : Nat) (out : EndCode) (noStop : Bool) (s : State) :
    (resultsKept n out noStop s).reports = (stopIssued n out noStop s).reports := by
  simp only [resultsKept, onSlot, State.onSched_reports, timepoint_if_reports]

/-- R167: what the end of a ONCE occurrence makes of its slot, once the STOP is issued. -/
theorem slotEnded_core (n : Nat) (out : EndCode) {s : State} {k : Slot} {e : Entry} (hk : s.slot n = k) (he : k.entry = some e)
    (ho : e.repeats = .once) (noStop : Bool) {k1 : Slot} (h1 : (stopIssued n out noStop s).sched.slots[n - 1]? = some k1) :
    (slotEnded n out noStop s).core = (onSlot n (fun _ => onceEnded out k.date (s.recordedSeconds n) k1) (stopIssued n out noStop s)).core := by
  have hst : stateAfterEnd n out noStop s = .done := by simp [stateAfterEnd, hk, he, ho]
  have hocc : occAfterEnd n out noStop s = none := by simp [occAfterEnd, hst]
  have hl : (stopIssued n out noStop s).core.sched.slots[n - 1]? = some k1 := h1
  obtain ⟨hi, -⟩ := List.getElem?_eq_some_iff.mp hl
  rw [slotEnded, notify_core, onSlot_core, resultsKept_core, onSlot_core, onSlot_core, hst, hocc, hk]
  simp only [modify_of_hasSlot hl]
  rw [modify_of_hasSlot (k := { k1 with lastDate := k.date, outcome := out, recSeconds := s.recordedSeconds n })
    (by simp [hi]), List.set_set]
  rfl

theorem slotEnded_reports (n : Nat) (out : EndCode) (noStop : Bool) (s : State) :
    (slotEnded n out noStop s).reports = (stopIssued n out noStop s).reports := resultsKept_reports n out noStop s

/-- R150, R167: the state a holder's ONCE occurrence leaves, from the state its STOP has left. -/
theorem endOccurrence_core (n : Nat) (out : EndCode) {s : State} {k : Slot} {e : Entry} (hk : s.slot n = k) (he : k.entry = some e)
    (ho : e.repeats = .once) (hh : k.state.holds = true) (noStop : Bool) {k1 : Slot}
    (h1 : (stopIssued n out noStop s).sched.slots[n - 1]? = some k1) (h1e : k1.entry = some e) :
    let x := stopIssued n out noStop s
    (endOccurrence n out noStop s).core = { x.core with
      mech := { x.mech with owner := releasedOwner x.mech }
      sched := ({ x.sched with slots := x.sched.slots.set (n - 1) (onceEnded out k.date (s.recordedSeconds n) k1) } : Sched).released
        { since := x.now, slot := n, powerOff := e.powerOff } } := by
  intro x
  have hc := slotEnded_core n out hk he ho noStop h1
  rw [onSlot_core, modify_of_hasSlot (l := (stopIssued n out noStop s).core.sched.slots) h1] at hc
  have hm : (slotEnded n out noStop s).mech = x.mech := congrArg Core.mech hc
  have hs : (slotEnded n out noStop s).sched =
    { x.sched with slots := x.sched.slots.set (n - 1) (onceEnded out k.date (s.recordedSeconds n) k1) } := congrArg Core.sched hc
  have hn : (slotEnded n out noStop s).now = x.now := congrArg (fun c : Core => c.clock.crystal) hc
  obtain ⟨hi, -⟩ := List.getElem?_eq_some_iff.mp h1
  have hp : (slotEnded n out noStop s).powerOffOf n = e.powerOff := by
    simp [State.powerOffOf, State.slot, hs, List.getD_eq_getElem?_getD, x, hi, onceEnded, h1e]
  rw [endOccurrence_eq, hk, if_pos hh, release_core]
  calc (releasing n (slotEnded n out noStop s)).core
      = { (slotEnded n out noStop s).core with
          mech := { (slotEnded n out noStop s).mech with owner := releasedOwner (slotEnded n out noStop s).mech }
          sched := (slotEnded n out noStop s).sched.released
            { since := (slotEnded n out noStop s).now, slot := n, powerOff := (slotEnded n out noStop s).powerOffOf n } } := rfl
    _ = _ := by rw [hm, hs, hn, hp, hc]

/-- The blocks beside MECH and SCHED, as another state has them. -/
structure SameCore (s x : State) : Prop where
  pins : x.pins = s.pins
  counter : x.pos.counter = s.pos.counter
  mark : x.mark = s.mark
  clock : x.clock = s.clock
  pending : x.pending = s.pending
  reply : x.link.reply = s.link.reply

/-- What a core that differs in MECH and SCHED only says of the state. -/
theorem sameCore_of_core {s x : State} {m : Mech} {c : Sched} (h : x.core = { s.core with mech := m, sched := c }) :
    x.mech = m ∧ x.sched = c ∧ SameCore s x :=
  ⟨congrArg Core.mech h, congrArg Core.sched h, congrArg Core.pins h, congrArg Core.counter h, congrArg Core.mark h,
    congrArg Core.clock h, congrArg Core.pending h, congrArg Core.reply h⟩

theorem endOccurrence_reports (n : Nat) (out : EndCode) {s : State} {k : Slot} (hk : s.slot n = k) (hh : k.state.holds = true)
    (noStop : Bool) : ∃ l, (∀ r ∈ l, r.idle true = true) ∧ l.length ≤ 2 ∧
      (endOccurrence n out noStop s).reports = (stopIssued n out noStop s).reports ++ l := by
  obtain ⟨l, hl, hn, hr⟩ := release_reports n (slotEnded n out noStop s)
  exact ⟨l, hl, hn, by rw [endOccurrence_eq, hk, if_pos hh, hr, slotEnded_reports]⟩

end Sys2Proof.Machine

/-!
Sys2Proof/Proofs/StopEject: STOP and EJECT (R7, R28), and the STOP that cancels the owning entry (R13, R167).
-/

namespace Sys2Proof.Machine

/-- R6: STOP and EJECT pass the checks on a recorder TIMER does not have. -/
theorem stopEject_passes {w : MechCmd} (c : Bool) {s : State} (hw : w = .stop ∨ w = .eject) (hr : s.mech.recoveryPending = false)
    (hj : s.mech.state ≠ .jammed) (he : s.mech.state = .empty → w = .stop) (ho : s.mech.owner.isTimer = false) :
    mechChecks (panelCmd w false c) s = none := by
  have he : ¬(s.mech.state = .empty ∧ w ≠ .stop) := fun h => h.2 (he h.1)
  rcases hw with rfl | rfl <;>
    simp_all [mechChecks, panelCmd, ownerRefuses, badFrom, recordForm, forwardTarget, reverseTarget]

/-- R1, R4: a movement begun toward a code, in its transition. -/
def movement (new target : MState) (code : CamCode) (x : State) : State := driveCam code (aimAt target (setState new none false x))

/-- R7: the work of STOP or EJECT from a state of its own. -/
structure CamStart (w : MechCmd) (c : Bool) (new target : MState) (code : CamCode) (st : MState) : Prop where
  request : w = .stop ∨ w = .eject
  takenFrom : st ≠ .jammed ∧ st ≠ .empty
  leaves : new ≠ .record ∧ reelOf new none = .off
  works : ∀ x : State, x.mech.state = st → ∃ y : State, mechWork (panelCmd w false c) x = takesTime (panelCmd w false c) y ∧
    (y = movement new target code x ∨ y = (movement new target code x).onMech fun m => { m with ejectRead := false })

theorem camStart_of_form {i : Instr} {w : MechCmd} {b : Bool} {new target : MState} {code : CamCode} {st : MState}
    (h : (i = .stop b ∧ w = .stop ∧ new = .shifting ∧ target = .halt ∧ code = 3 ∧
        st ∈ [MState.play, .still, .record, .recPause, .cue, .review, .fwind, .rwind]) ∨
      (i = .stop b ∧ w = .stop ∧ new = .unthreading ∧ target = .idle ∧ code = 1 ∧ st = .halt) ∨
      (i = .eject ∧ b = false ∧ w = .eject ∧ new = .ejecting ∧ target = .empty ∧ code = 0 ∧ st = .idle) ∨
      (i = .eject ∧ b = false ∧ w = .eject ∧ new = .unthreading ∧ target = .empty ∧ code = 1 ∧ st.threaded = true)) :
    (i, w, false, b) ∈ mechForms ∧ CamStart w b new target code st := by
  rcases h with ⟨rfl, rfl, rfl, rfl, rfl, hs⟩ | ⟨rfl, rfl, rfl, rfl, rfl, rfl⟩ | ⟨rfl, rfl, rfl, rfl, rfl, rfl, rfl⟩ |
    ⟨rfl, rfl, rfl, rfl, rfl, rfl, hs⟩
  · refine ⟨by cases b <;> simp [mechForms], ⟨.inl rfl, ?_, ⟨by simp, rfl⟩, fun x hx => ⟨_, ?_, .inl rfl⟩⟩⟩
    · simp only [List.mem_cons, List.not_mem_nil, or_false] at hs
      rcases hs with rfl | rfl | rfl | rfl | rfl | rfl | rfl | rfl <;> simp
    · simp only [List.mem_cons, List.not_mem_nil, or_false] at hs
      rcases hs with rfl | rfl | rfl | rfl | rfl | rfl | rfl | rfl <;> simp [mechWork, panelCmd, hx, startShift, camOf, movement]
  · exact ⟨by cases b <;> simp [mechForms], ⟨.inl rfl, by simp, ⟨by simp, rfl⟩,
      fun x hx => ⟨_, by simp [mechWork, panelCmd, hx, startUnthread]; rfl, .inl rfl⟩⟩⟩
  · exact ⟨by simp [mechForms], ⟨.inr rfl, by simp, ⟨by simp, rfl⟩,
      fun x hx => ⟨_, by simp [mechWork, panelCmd, hx, ejectWork, startEject]; rfl, .inr rfl⟩⟩⟩
  · refine ⟨by simp [mechForms], ⟨.inr rfl, ?_, ⟨by simp, rfl⟩, fun x hx => ⟨_, ?_, .inl rfl⟩⟩⟩
    · constructor <;> rintro rfl <;> simp [MState.threaded] at hs
    · cases st <;> simp [MState.threaded] at hs <;> simp [mechWork, panelCmd, hx, ejectWork, startUnthread, movement]

theorem stopCancels_eq {s : State} (hs : s.mark.search = none) (hc : cancelsTimer .stop true s = true) :
    mechRequest .stop false true s = mechAnswer (submit (panelCmd .stop false true) (cancelOwner s)) := by
  have h0 : searchCancel false s = s := by simp [searchCancel, hs]
  simp only [mechRequest, h0, hc, if_true]
  rfl

/-- R12, R13, R167: what a cancel-timer STOP finds: the ONCE occurrence CANCELLED, the recorder released. -/
theorem cancelOwner_once {s : State} {n : Nat} {k : Slot} {h : Holder} {e : Entry} {o : Occurrence} (hk : s.hasSlot n k)
    (hh : s.sched.holder = some h) (hn : h.slot = n) (he : k.entry = some e) (ho : e.repeats = .once) (hocc : k.occ = some o)
    (hw : s.mech.owner = .timer n) (hst : k.state.holds = true) :
    (cancelOwner s).mech = { s.mech with owner := releasedOwner s.mech } ∧
    (cancelOwner s).sched = ({ s.sched with slots := s.sched.slots.set (n - 1) { k with
        state := .done, lastDate := some o.date, outcome := .cancelled, occ := none,
        recSeconds := min ((o.recorded + (match h.recSince with | none => 0 | some t => s.clock.ticks - t)) / 1024) 86399 } }
          : Sched).released { since := s.now, slot := n, powerOff := e.powerOff } ∧
    SameCore s (cancelOwner s) ∧
    ∃ l, (∀ r ∈ l, r.idle true = true) ∧ l.length ≤ 2 ∧ (cancelOwner s).reports = s.reports ++ l := by
  have hk' := slot_of_hasSlot hk
  have hc : cancelOwner s = endOccurrence n .cancelled true s := by simp [cancelOwner, hw]
  have hi : stopIssued n .cancelled true s = s := rfl
  have hsec : s.recordedSeconds n =
      min ((o.recorded + (match h.recSince with | none => 0 | some t => s.clock.ticks - t)) / 1024) 86399 := by
    simp [State.recordedSeconds, State.recordedTicks, hk', hocc, hh, hn, Config.ticksPerSecond] <;> rfl
  obtain ⟨hm, hs, hcore⟩ := sameCore_of_core (endOccurrence_core n .cancelled hk' he ho hst true (k1 := k) hk.2.2 he)
  rw [hc]
  refine ⟨hm, ?_, hcore, endOccurrence_reports n .cancelled hk' hst true⟩
  rw [hs, hsec]
  simp [onceEnded, Slot.date, hocc, hi]

/-- The end of a step in which an entry was cancelled: only what comes to nothing is left to work off. -/
theorem exec_stopCancels {s y : State} (ht : s.takes) (hs : s.mark.search = none)
    (hc : cancelsTimer .stop true s = true) (h : submit (panelCmd .stop false true) (cancelOwner s) = (y, .accepted))
    (hn : y.noOccurrence) {l : List Report} (hr : y.reports = l) (hl : (∀ r ∈ l, r.idle true = true) ∧ l.length ≤ 2) :
    ∃ d, exec (.stop true) s = .next (ended d (y.answered 1 .accepted .none [])) := by
  obtain ⟨d, hd⟩ := finish_reports true (y.answered 1 .accepted .none []) hn (by simp)
    (by have := hl.2; rw [← hr] at this; exact this.trans (by omega)) (by rw [← hr] at hl; exact hl.1)
  refine ⟨d, ?_⟩
  rw [exec_mech (i := .stop true) (w := .stop) (p := false) (c := true) (by simp [mechForms]) ht, stopCancels_eq hs hc, h]
  exact congrArg Host.Outcome.next hd

/-- Settles O5: STOP and EJECT by the movement they start, the cancel-timer STOP by the end of the occurrence before it. -/
theorem stopAndEjectMoveTheCam : Obligations.StopAndEjectMoveTheCam := by
  refine ⟨fun i w b new target code s hm ht hf ho => ?_, fun b s ht hf ho hs => ?_, ?_⟩
  · obtain ⟨hi, hw, ⟨hjam, hempty⟩, ⟨hrec, hreel⟩, hworks⟩ := camStart_of_form hm
    have hc := stopEject_passes b hw hf.1 hjam (fun h => absurd h hempty) ho
    obtain ⟨y, hy, hyd⟩ := hworks (s.onMech fun m => { m with fault := .none }) rfl
    have hx : submit (panelCmd w false b) s = takesTime (panelCmd w false b) y := by
      rw [submit_free _ hf, execute_passed hc, if_pos (by exact hw), clearFault_eq hjam, hy]
    have hreports : (takesTime (panelCmd w false b) y).1.reports = [] := by
      rcases hyd with rfl | rfl <;> simp [takesTime, movement, driveCam, aimAt, ht.1.2]
    refine ⟨_, exec_submitted hi ht hf.2.2.2.2.2 (by simp [cancelsTimer, ho]) hx hreports, ?_⟩
    rcases hyd with rfl | rfl <;>
      simp [mechAnswer, accepted, State.closed, State.answered, takesTime, movement, driveCam, aimAt, hf.2.2.2.1, hrec, hreel, State.now,
        panelCmd]
  · have hjam : s.mech.state ≠ .jammed := by rcases hs with hs | hs <;> simp [hs]
    have hc := stopEject_passes (w := .stop) b (.inl rfl) hf.1 hjam (fun _ => rfl) ho
    refine exec_submitted (i := .stop b) (w := .stop) (p := false) (c := b) (r := (s.onMech fun m => { m with fault := .none }, .done))
      (by cases b <;> simp [mechForms]) ht hf.2.2.2.2.2 (by simp [cancelsTimer, ho]) ?_ ht.1.2
    rw [submit_free _ hf, execute_passed hc, if_pos (.inl rfl), clearFault_eq hjam]
    rcases hs with hs | hs <;> simp [mechWork, panelCmd, hs, atOnce]
  · intro s n k h e o ht hk honly hh hn he hone hocc hw hslot hj hsb hrp hs stop ticks cancelled
    have part (hst : k.state.holds = true) (hjam : s.mech.state ≠ .jammed) (hrel : releasedOwner s.mech = .panel) (y : State)
        (hy : submit (panelCmd .stop false true) (cancelOwner s) = (y, .accepted))
        (hys : y.sched = (cancelOwner s).sched) (hyr : y.reports = (cancelOwner s).reports)
        (hyk : y.pins = (cancelOwner s).pins ∧ y.pos.counter = (cancelOwner s).pos.counter ∧ y.mark.list = (cancelOwner s).mark.list ∧
          y.clock = (cancelOwner s).clock ∧ y.pending = (cancelOwner s).pending ∧ y.mech.owner = (cancelOwner s).mech.owner) :
        ∃ d, exec (.stop true) s = .next (ended d (y.answered 1 .accepted .none [])) ∧
          cancelled (ended d (y.answered 1 .accepted .none [])) := by
      obtain ⟨hmech, hsched, hsame, l, hl, hlen, hr⟩ := cancelOwner_once hk hh hn he hone hocc hw hst
      have hocc' : y.noOccurrence := by
        rw [State.noOccurrence, hys, hsched]
        exact ⟨noOccurrence_set honly rfl, rfl⟩
      obtain ⟨d, hd⟩ := exec_stopCancels ht hs (by simp [cancelsTimer, hw, Owner.isTimer, hjam, hsb, hrp]) hy hocc' hyr
        (by rw [hr, ht.1.2]; exact ⟨hl, hlen⟩)
      refine ⟨d, hd, ?_⟩
      obtain ⟨h1, h2, h3, h4, h5, h6⟩ := hyk
      simp [cancelled, ended, State.closed, State.answered, hys, hsched, h1, h2, h3, h4, h5, h6, hmech, hsame.pins, hsame.counter,
        hsame.mark, hsame.clock, hsame.pending, Sched.released, hrel, ticks] <;> rfl
    refine ⟨fun hstate hrec hfl => ?_, fun c hstate htarget hprep hfl => ?_⟩
    · have hrel : releasedOwner s.mech = .panel := by simp [releasedOwner, hstate, MState.transition]
      obtain ⟨hmech, hsched, hsame, -⟩ := cancelOwner_once hk hh hn he hone hocc hw (by simp [hrec, EntryState.holds])
      have hjam : (cancelOwner s).mech.state ≠ .jammed := by simp [hmech, hstate]
      have hc := stopEject_passes (w := .stop) true (.inl rfl) (s := cancelOwner s) (by simp [hmech, hrp]) hjam (fun _ => rfl)
        (by simp [hmech, hrel, Owner.isTimer])
      have hx : submit (panelCmd .stop false true) (cancelOwner s) =
          takesTime (panelCmd .stop false true) (startShift .halt false ((cancelOwner s).onMech fun m => { m with fault := .none })) := by
        have h1 : submit (panelCmd .stop false true) (cancelOwner s) = execute (panelCmd .stop false true) (cancelOwner s) := by
          simp [submit, hmech, hsb, hrp, hfl, hstate, MState.transition]
        rw [h1, execute_passed hc, if_pos (.inl rfl), clearFault_eq hjam]
        simp [mechWork, panelCmd, hmech, hstate]
      have hholder : (cancelOwner s).sched.holder = none := by rw [hsched]; rfl
      obtain ⟨d, hd, hcan⟩ := part (by simp [hrec, EntryState.holds]) (by simp [hstate]) hrel _ hx
        (startShift_sched .halt false ((cancelOwner s).onMech fun m => { m with fault := .none }) (.inr hholder))
        (by simp [startShift, driveCam, aimAt]) (by simp [startShift, driveCam, aimAt])
      refine ⟨_, hd, hcan, ?_⟩
      simp [ended, State.closed, State.answered, startShift, driveCam, aimAt, camOf, reelOf, State.now, hmech, hslot, stop, panelCmd,
        hsame.clock]
    · have hrel : releasedOwner s.mech = .panel := by simp [releasedOwner, hstate, htarget, MState.transition]
      obtain ⟨hmech, -⟩ := cancelOwner_once hk hh hn he hone hocc hw (by simp [hprep, EntryState.holds])
      have hx : submit (panelCmd .stop false true) (cancelOwner s) = (storeCmd (panelCmd .stop false true) (cancelOwner s), .accepted) := by
        simp [submit, hmech, hsb, hrp, hfl, hrel, ownerRefuses, Owner.isTimer, hj, panelCmd]
      have hstore : storeCmd (panelCmd .stop false true) (cancelOwner s) =
          (cancelOwner s).onMech fun m => { m with slot := some (panelCmd .stop false true) } := by
        simp [storeCmd, closeSlot, hmech, hslot]
      obtain ⟨d, hd, hcan⟩ := part (by simp [hprep, EntryState.holds]) (by simp [hstate]) hrel _ hx (by simp [hstore]) (by simp [hstore])
        (by simp [hstore])
      refine ⟨_, hd, hcan, ?_⟩
      rw [hstore]
      simp [ended, State.closed, State.answered, hmech, hstate, htarget, hfl, stop, panelCmd]

end Sys2Proof.Machine

/-!
Sys2Proof/Proofs/Refusals: the commands that fail a check of R6.
-/

namespace Sys2Proof.Machine

/-- R6, R202: a command of the host that fails a check on arrival is refused with that check's reason. -/
theorem refused_of_check {f : Instr × MechCmd × Bool × Bool} (hi : f ∈ mechForms) {s : State} (ht : s.takes) (hf : s.deckFree)
    (hc : cancelsTimer f.2.1 f.2.2.2 s = false) {why : Reason} (h : mechChecks (panelCmd f.2.1 f.2.2.1 f.2.2.2) s = some why) :
    refusedWith f.1 1 why (refusalData why s) s :=
  exec_submitted hi ht hf.2.2.2.2.2 hc ((submit_free _ hf).trans (execute_refused h)) ht.1.2

theorem cancelsTimer_panel {w : MechCmd} {c : Bool} {s : State} (h : s.mech.owner.isTimer = false) : cancelsTimer w c s = false := by
  simp [cancelsTimer, h]

theorem ownerRefuses_panel {w : MechCmd} {p c : Bool} {o : Owner} (h : o.isTimer = false) : ownerRefuses (panelCmd w p c) o = false := by
  simp [ownerRefuses, h]

/-- R6: from the fifth check on, for a command of the host on a recorder TIMER does not have. -/
theorem mechChecks_fifth {w : MechCmd} {p c : Bool} {s : State} (hf : s.deckFree) (ho : s.mech.owner.isTimer = false)
    (hj : s.mech.state ≠ .jammed) (he : s.mech.state ≠ .empty) : mechChecks (panelCmd w p c) s =
    if badFrom w s.mech.state then some .badState
    else if recordForm w s.mech.state = true ∧ s.mech.tab = false then some .noTab
    else if recordForm w s.mech.state = true ∧ s.insideSpan = true then some .spanProtected
    else if forwardTarget w s.mech.state = true ∧ s.pins.leaderEnd = true then some .atEnd
    else if reverseTarget w = true ∧ s.pins.leaderStart = true then some .atStart
    else none := by
  simp [mechChecks, hj, he, hf.1, ownerRefuses_panel ho]
  rfl

/-- R7 to R9: the states, and the commands not taken from them. -/
def badRows : List (List MState × List Instr) :=
  [([.record, .recPause], [.play, .cue, .review]), ([.record], [.fwind, .rwind]),
    ([.play, .still, .cue, .review], [.record false, .record true]), ([.idle, .halt, .cue, .review, .fwind, .rwind], [.pause])]

theorem badRows_spec : ∀ r ∈ badRows, ∀ m ∈ r.1, ∀ i ∈ r.2,
    (∃ f ∈ mechForms, f.1 = i ∧ badFrom f.2.1 m = true) ∧ m ≠ .jammed ∧ m ≠ .empty := by decide

theorem recordRows_spec : ∀ m ∈ [MState.idle, .halt, .fwind, .rwind, .recPause], ∀ i ∈ [Instr.record false, .record true],
    (∃ f ∈ mechForms, f.1 = i ∧ badFrom f.2.1 m = false ∧ recordForm f.2.1 m = true ∧ forwardTarget f.2.1 m = true) ∧
      m ≠ .jammed ∧ m ≠ .empty := by decide

theorem forwardRows_spec : ∀ m ∈ [MState.idle, .halt, .play, .still, .cue, .review, .fwind, .rwind],
    ∀ i ∈ [Instr.play, .cue, .fwind],
    (∃ f ∈ mechForms, f.1 = i ∧ badFrom f.2.1 m = false ∧ recordForm f.2.1 m = false ∧ forwardTarget f.2.1 m = true) ∧
      m ≠ .jammed ∧ m ≠ .empty := by decide

theorem reverseRows_spec : ∀ m ∈ [MState.idle, .halt, .play, .still, .cue, .review, .fwind, .rwind],
    ∀ i ∈ [Instr.review, .rwind],
    (∃ f ∈ mechForms, f.1 = i ∧ badFrom f.2.1 m = false ∧ recordForm f.2.1 m = false ∧ forwardTarget f.2.1 m = false ∧
      reverseTarget f.2.1 = true) ∧ m ≠ .jammed ∧ m ≠ .empty := by decide

/-- Settles O6: by the check that each of its cases fails. -/
theorem refusedMechCommandsChangeNothing : Obligations.RefusedMechCommandsChangeNothing := by
  intro i s ht hf
  refine ⟨fun hj hi => ?_, fun hj ho hi => ?_, fun he ho hi => ?_, fun ho hi => ?_, fun ho hs hi => ?_, fun ho hs => ⟨fun hl hi => ?_, fun hl hi => ?_⟩⟩
  · have : ∀ i ∈ [Instr.play, .record false, .record true, .pause, .stop false, .stop true, .cue, .review, .fwind, .rwind],
        ∃ f ∈ mechForms, f.1 = i ∧ f.2.1 ≠ .eject := by decide
    obtain ⟨f, hm, rfl, hw⟩ := this i hi
    exact refused_of_check hm ht hf (by simp [cancelsTimer, hj]) (by simp [mechChecks, hj, hw])
  · have : ∀ i ∈ [Instr.play, .record false, .record true, .pause, .stop false, .cue, .review, .fwind, .rwind, .eject],
        ∃ f ∈ mechForms, f.1 = i ∧ f.2.2.2 = false := by decide
    obtain ⟨f, hm, rfl, hw⟩ := this i hi
    exact refused_of_check hm ht hf (by simp [cancelsTimer, hw]) (by simp [mechChecks, hj, hf.1, ownerRefuses, ho, hw])
  · have : ∀ i ∈ [Instr.play, .record false, .record true, .pause, .cue, .review, .fwind, .rwind, .eject],
        ∃ f ∈ mechForms, f.1 = i ∧ f.2.1 ≠ .stop := by decide
    obtain ⟨f, hm, rfl, hw⟩ := this i hi
    exact refused_of_check hm ht hf (cancelsTimer_panel ho) (by simp [mechChecks, he, hf.1, ownerRefuses_panel ho, hw])
  · obtain ⟨r, hr, hm, hi⟩ : ∃ r ∈ badRows, s.mech.state ∈ r.1 ∧ i ∈ r.2 := by
      rcases hi with ⟨hs, hi⟩ | ⟨hs, hi⟩ | ⟨hs, hi⟩ | ⟨hs, hi⟩
      · exact ⟨_, .head _, by simpa using hs, hi⟩
      · exact ⟨_, .tail _ (.head _), by simpa using hs, hi⟩
      · exact ⟨_, .tail _ (.tail _ (.head _)), hs, hi⟩
      · exact ⟨_, .tail _ (.tail _ (.tail _ (.head _))), hs, by simpa using hi⟩
    obtain ⟨⟨f, hm, rfl, hb⟩, hj, he⟩ := badRows_spec r hr _ hm i hi
    exact refused_of_check hm ht hf (cancelsTimer_panel ho) (by simp [mechChecks_fifth hf ho hj he, hb])
  · obtain ⟨⟨f, hm, rfl, hb, hr, hw⟩, hj, he⟩ := recordRows_spec _ hs i hi
    have check := mechChecks_fifth (w := f.2.1) (p := f.2.2.1) (c := f.2.2.2) hf ho hj he
    refine ⟨fun h1 => ?_, fun h1 h2 => ?_, fun h1 h2 h3 => ?_⟩
    · exact refused_of_check hm ht hf (cancelsTimer_panel ho) (by simp [check, hb, hr, h1])
    · exact refused_of_check hm ht hf (cancelsTimer_panel ho) (by simp [check, hb, hr, h1, h2])
    · exact refused_of_check hm ht hf (cancelsTimer_panel ho) (by simp [check, hb, hw, h1, h2, h3])
  · obtain ⟨⟨f, hm, rfl, hb, hr, hw⟩, hj, he⟩ := forwardRows_spec _ hs i hi
    exact refused_of_check hm ht hf (cancelsTimer_panel ho) (by simp [mechChecks_fifth hf ho hj he, hb, hr, hw, hl])
  · obtain ⟨⟨f, hm, rfl, hb, hr, hw, hv⟩, hj, he⟩ := reverseRows_spec _ hs i hi
    exact refused_of_check hm ht hf (cancelsTimer_panel ho) (by simp [mechChecks_fifth hf ho hj he, hb, hr, hw, hv, hl])

end Sys2Proof.Machine

/-!
Sys2Proof/Proofs/Notices: the notices of a step: entering a state only adds to the queue, and adds nothing where no motion ends, no write
is aborted and the reference stays.
-/

namespace Sys2Proof.Machine

/-! ## Notices are only added -/

theorem notify_prefix (n : Notice) (s : State) : s.link.notices <+: (notify n s).link.notices := by
  simp only [notify, State.onLink_link]; split <;> simp

theorem notify_room {n : Notice} {s : State} (h : s.roomFor 1) : (notify n s).link.notices = s.link.notices ++ [n] :=
  (notify_queued n s (show s.link.notices.length + 1 ≤ 12 from h)).1

theorem counterNotice_prefix (s : State) : s.link.notices <+: (counterNotice s).link.notices := by
  unfold counterNotice; split
  · exact notify_prefix _ _
  · exact List.prefix_rfl

theorem motionEnd_prefix (s : State) : s.link.notices <+: (motionEnd s).link.notices := by
  unfold motionEnd; split
  · exact List.prefix_rfl
  · exact counterNotice_prefix s

theorem markAbort_prefix (c : AbortCause) (s : State) : s.link.notices <+: (markAbort c s).link.notices := by
  unfold markAbort; split
  · exact List.prefix_rfl
  all_goals exact notify_prefix _ _

theorem markLeave_prefix (a b : MState) (s : State) : s.link.notices <+: (markLeave a b s).link.notices := by
  unfold markLeave
  (repeat' split) <;> first | exact List.prefix_rfl | exact markAbort_prefix _ _

theorem testReference_prefix (s : State) : s.link.notices <+: (testReference s).link.notices := by
  unfold testReference; simp only []; split
  · exact List.prefix_rfl
  · rw [loopsFollow_link]; exact notify_prefix _ _

theorem published_prefix (m : MState) (j : Option Junction) (s : State) : s.link.notices <+: (published m j s).link.notices := by
  simp only [published, readerClear_link]
  refine (motionEnd_prefix s).trans (List.IsPrefix.trans ?_ (markLeave_prefix _ _ _))
  split <;> simp

/-- SERVO's registers once they follow the state entered, before the reference is tested (R33, R41, R43 to R48). -/
def servoFollows (old : MState) (faultMove : Bool) (s : State) : State :=
  let s1 := playFollow old s.mech.state (sessionFollow s.mech.state s)
  phaseFollow (s1.onServo fun v =>
    { v with drum := ({ v.drum with heldOff := v.drum.heldOff && !unholds s.mech.state faultMove }).demand (drumRuns s.mech.state) s1.now,
             capstan := v.capstan.demand (capstanDemand s1) s1.now,
             gate := gateTimer s1.now s1.mech.junction v.gate,
             tracking := v.tracking.enter old s.mech.state,
             envelope := if samples s1 then v.envelope else Envelope.reset })

theorem servoEnter_eq (m : MState) (b : Bool) (s : State) : servoEnter m b s = loopsFollow (testReference (servoFollows m b s)) := rfl

theorem servoFollows_link (m : MState) (b : Bool) (s : State) : (servoFollows m b s).link = s.link := rfl

theorem servoEnter_prefix (m : MState) (b : Bool) (s : State) : s.link.notices <+: (servoEnter m b s).link.notices := by
  rw [servoEnter_eq, loopsFollow_link, ← servoFollows_link m b s]
  exact testReference_prefix _

theorem setState_prefix (m : MState) (j : Option Junction) (b : Bool) (s : State) :
    s.link.notices <+: (setState m j b s).link.notices := by
  rw [setState_eq]
  have h := (published_prefix m j s).trans (servoEnter_prefix s.mech.state b (published m j s))
  split
  · exact h
  · simpa using h

theorem startShift_prefix (m : MState) (b : Bool) (s : State) : s.link.notices <+: (startShift m b s).link.notices :=
  setState_prefix .shifting none b s

/-- What stands at the front of a longer queue. -/
theorem take_of_prefix {l m : List Notice} (h : l <+: m) : m.take l.length = l := (List.prefix_iff_eq_take.mp h).symm

/-! ## Nothing of LINK but the notices -/

/-- LINK is as it was but for the notices and their overflow count. -/
def Tells (s t : State) : Prop := ∃ n o, t.link = { s.link with notices := n, overflow := o }

theorem Tells.same {s t : State} (h : t.link = s.link) : Tells s t := ⟨s.link.notices, s.link.overflow, h⟩

theorem Tells.trans {r s t : State} (h : Tells r s) (k : Tells s t) : Tells r t := by
  obtain ⟨n, o, h⟩ := h
  obtain ⟨n', o', k⟩ := k
  exact ⟨n', o', by rw [k, h]⟩

theorem notify_tells (n : Notice) (s : State) : Tells s (notify n s) := by
  simp only [notify, Tells, State.onLink_link]
  split <;> exact ⟨_, _, rfl⟩

theorem motionEnd_tells (s : State) : Tells s (motionEnd s) := by
  unfold motionEnd; split
  · exact .same rfl
  · unfold counterNotice; split
    · exact (notify_tells _ s).trans (.same rfl)
    · exact .same rfl

theorem markLeave_tells (a b : MState) (s : State) : Tells s (markLeave a b s) := by
  have h (c : AbortCause) : Tells s (markAbort c s) := by
    unfold markAbort; split
    · exact .same rfl
    all_goals exact notify_tells _ _
  unfold markLeave
  (repeat' split) <;> first | exact .same rfl | exact h _

theorem testReference_tells (s : State) : Tells s (testReference s) := by
  unfold testReference; simp only []; split
  · exact .same rfl
  · exact (notify_tells _ _).trans (.same (loopsFollow_link _))

theorem published_tells (m : MState) (j : Option Junction) (s : State) : Tells s (published m j s) := by
  simp only [published]
  refine Tells.trans ?_ (.same (readerClear_link _))
  refine Tells.trans ?_ (markLeave_tells s.mech.state m _)
  refine (motionEnd_tells s).trans (.same ?_)
  split <;> simp

theorem setState_tells (m : MState) (j : Option Junction) (b : Bool) (s : State) : Tells s (setState m j b s) := by
  have h : Tells s (servoEnter s.mech.state b (published m j s)) := by
    rw [servoEnter_eq]
    exact ((published_tells m j s).trans ((Tells.same (servoFollows_link _ _ _)).trans (testReference_tells _))).trans
      (.same (loopsFollow_link _))
  rw [setState_eq]
  split
  · exact h
  · exact h.trans (.same (by simp))

@[simp] theorem setState_link_tapeEnd (m : MState) (j : Option Junction) (b : Bool) (s : State) :
    (setState m j b s).link.tapeEnd = s.link.tapeEnd := by
  obtain ⟨n, o, h⟩ := setState_tells m j b s
  rw [h]

/-! ## How many are added -/

theorem notify_length (n : Notice) (s : State) : (notify n s).link.notices.length ≤ s.link.notices.length + 1 := by
  simp only [notify, State.onLink_link]; split <;> simp

theorem motionEnd_length (s : State) : (motionEnd s).link.notices.length ≤ s.link.notices.length + 1 := by
  unfold motionEnd; split
  · simp
  · simp only [State.onPos_link, counterNotice]
    split
    · exact notify_length _ _
    · simp

theorem testReference_length (s : State) : (testReference s).link.notices.length ≤ s.link.notices.length + 1 := by
  unfold testReference; simp only []; split
  · simp
  · rw [loopsFollow_link]; exact notify_length _ _

theorem markLeave_kept {a b : MState} {s : State} (h : a ≠ .record ∧ a ≠ .play) : markLeave a b s = s := by
  unfold markLeave; split <;> simp [h.1, h.2]

/-- R68, R39: a state left other than PLAY and RECORD, in which no write is aborted, says two things at most. -/
theorem setState_length {m : MState} {j : Option Junction} {b : Bool} {s : State} (h : s.mech.state ≠ .record ∧ s.mech.state ≠ .play) :
    (setState m j b s).link.notices.length ≤ s.link.notices.length + 2 := by
  have hp : (published m j s).link.notices.length ≤ s.link.notices.length + 1 := by
    have : (published m j s).link = (motionEnd s).link := by
      simp only [published, readerClear_link, markLeave_kept h]
      split <;> simp
    rw [this]
    exact motionEnd_length s
  have hv : (servoEnter s.mech.state b (published m j s)).link.notices.length ≤ (published m j s).link.notices.length + 1 := by
    rw [servoEnter_eq, loopsFollow_link, ← servoFollows_link s.mech.state b (published m j s)]
    exact testReference_length _
  rw [setState_eq]
  split
  · omega
  · rw [motionBegin_link]; omega

/-- R83: such a state keeps the writer. -/
theorem setState_writer {m : MState} {j : Option Junction} {b : Bool} {s : State} (h : s.mech.state ≠ .record ∧ s.mech.state ≠ .play) :
    (setState m j b s).mark.writer = s.mark.writer := by
  have hp : (published m j s).mark.writer = s.mark.writer := by
    simp only [published, readerClear_mark_writer, markLeave_kept h]
    split <;> simp
  rw [setState_eq]
  split <;> simp [hp]

/-! ## Where nothing is said -/

/-- No motion ends, no write is aborted and the reference is the internal one: what entering a state says nothing about. -/
structure State.Quiet (s : State) : Prop where
  motion : s.pos.motion = none
  writer : s.mark.writer = .idle
  reference : s.servo.reference = .internal

theorem published_says (m : MState) (j : Option Junction) {s : State} (h : s.mark.writer = .idle) :
    (published m j s).link = (motionEnd s).link ∧ (published m j s).mark.writer = .idle := by
  have hl (x : State) (hx : x.mark.writer = .idle) : markLeave s.mech.state m x = x := by simp [markLeave, hx]
  simp only [published, readerClear_link, readerClear_mark_writer]
  rw [hl _ (by split <;> simp [h])]
  split <;> simp [h]

/-- R38, R39: outside a recording session the internal reference stays. -/
theorem testReference_quiet {s : State} (h : s.servo.reference = .internal) (hm : inSession s.mech.state = false) : testReference s = s := by
  have hw : wantedReference s = .internal := by
    unfold wantedReference
    rw [if_neg (by simpa [inSession, not_or] using hm)]
  simp [testReference, hw, h]

/-- R83, R39, R68: entering a state outside a session, with no write under way and the internal reference, says what the end of a motion
says. -/
theorem setState_says {m : MState} (j : Option Junction) (b : Bool) {s : State} (hwr : s.mark.writer = .idle)
    (href : s.servo.reference = .internal) (hm : inSession m = false) :
    (setState m j b s).link = (motionEnd s).link ∧ (setState m j b s).mark.writer = .idle ∧ (setState m j b s).servo.reference = .internal := by
  obtain ⟨hl, hw⟩ := published_says m j hwr
  have hp (a c : MState) (x : State) : (playFollow a c x).servo.reference = x.servo.reference := by
    simp only [playFollow, State.onServo_servo]; (repeat' split) <;> rfl
  have hs (c : MState) (x : State) : (sessionFollow c x).servo.reference = x.servo.reference := by
    simp only [sessionFollow, State.onServo_servo]; (repeat' split) <;> rfl
  have hv : (servoEnter s.mech.state b (published m j s)).link = (motionEnd s).link ∧
      (servoEnter s.mech.state b (published m j s)).servo.reference = .internal := by
    simp only [servoEnter, loopsFollow_link, loopsFollow_servo_reference]
    rw [testReference_quiet]
    · exact ⟨hl, by simp [phaseFollow, hp, hs, href]⟩
    · simp [phaseFollow, hp, hs, href]
    · simpa [phaseFollow, playFollow, sessionFollow] using hm
  rw [setState_eq]
  split <;> simp [hv, hw]

/-- A quiet state says nothing at all. -/
theorem setState_quiet {m : MState} (j : Option Junction) (b : Bool) {s : State} (h : s.Quiet) (hm : inSession m = false) :
    (setState m j b s).link = s.link ∧ (setState m j b s).mark.writer = .idle ∧ (setState m j b s).servo.reference = .internal := by
  have hs : motionEnd s = s := by simp [motionEnd, h.motion]
  simpa only [hs] using setState_says j b h.writer h.reference hm

end Sys2Proof.Machine

/-!
Sys2Proof/Proofs/PendingSlot: commands that arrive while another is in flight (R14), and those that cut a junction operation short (R18).
-/

namespace Sys2Proof.Machine

/-! ## A command stored -/

/-- R14: with a command in flight, one that cuts nothing short is stored. -/
theorem submit_stored {c : Cmd} {s : State} (hf : s.mech.inFlight.isSome = true) (hb : s.mech.standbyStop = false)
    (hr : s.mech.recoveryPending = false) (ho : ownerRefuses c s.mech.owner = false)
    (hs : ¬(s.mech.junction.isSome = true ∧ c.what = .stop)) (hp : ¬(c.what = .pause ∧ pauseCuts s = true)) :
    submit c s = (storeCmd c s, .accepted) := by
  simp only [submit, hf, hb, hr, ho, if_neg hs, if_neg hp]
  simp

theorem storeCmd_empty {c : Cmd} {s : State} (h : s.mech.slot = none) :
    storeCmd c s = s.onMech fun m => { m with slot := some c } := by simp [storeCmd, closeSlot, h]

/-- R14: the PANEL command that stood in the slot is closed MECH_SUPERSEDED. -/
theorem storeCmd_replaces {c old : Cmd} {s : State} (h : s.mech.slot = some old) (ho : old.origin = .panel) (hs : old.silent = false) :
    storeCmd c s = (notify (.mechSuperseded old.what .panel) s).onMech fun m => { m with slot := some c } := by
  simp only [storeCmd, closeSlot, h, closeCmd, ho, hs, closingNotice]
  rfl

/-! ## A junction operation cut short -/

/-- The notices of commands closed MECH_SUPERSEDED: the one in flight, then the stored one. -/
def supersededNotices (c : Cmd) (slot : Option Cmd) : List Notice :=
  .mechSuperseded c.what .panel :: (match slot with | none => [] | some old => [.mechSuperseded old.what .panel])

/-- R18: what is cut short: neither command is left, the fault code NONE, and both are closed with their notices. -/
theorem cutShort_eq {c : Cmd} {s : State} (hj : s.mech.state ≠ .jammed) (hc : s.mech.inFlight = some c) (ho : c.origin = .panel)
    (hs : c.silent = false) (hslot : ∀ old, s.mech.slot = some old → old.origin = .panel ∧ old.silent = false) (hroom : s.roomFor 2) :
    ∃ l : Link, cutShort s = { s with mech := { s.mech with inFlight := none, slot := none, fault := .none }, link := l } ∧
      l.notices = s.link.notices ++ supersededNotices c s.mech.slot := by
  have h1 : (notify (.mechSuperseded c.what .panel) s).link.notices = s.link.notices ++ [.mechSuperseded c.what .panel] :=
    notify_room (by simp only [State.roomFor] at *; omega)
  cases hold : s.mech.slot with
  | none =>
    refine ⟨(notify (.mechSuperseded c.what .panel) s).link, ?_, by rw [h1]; rfl⟩
    simp [cutShort, closeInFlight, closeSlot, closeCmd, closingNotice, clearFault, hc, ho, hs, hold, hj, notify,
      State.onLink, State.onMech]
  | some old =>
    obtain ⟨ho', hs'⟩ := hslot old hold
    refine ⟨(notify (.mechSuperseded old.what .panel) (notify (.mechSuperseded c.what .panel) s)).link, ?_, ?_⟩
    · simp [cutShort, closeInFlight, closeSlot, closeCmd, closingNotice, clearFault, hc, ho, hs, ho', hs', hold, hj]
      rfl
    · rw [notify_room (by rw [State.roomFor, h1, List.length_append]; exact hroom), h1]
      simp [supersededNotices]

/-- R14, R18: with a command in flight in a junction operation, STOP acts at once. -/
theorem submit_cutsByStop {c : Cmd} {s : State} (hw : c.what = .stop) (hf : s.mech.inFlight.isSome = true) (hb : s.mech.standbyStop = false)
    (hr : s.mech.recoveryPending = false) (ho : ownerRefuses c s.mech.owner = false) (hj : s.mech.junction.isSome = true) :
    submit c s = takesTime c (startShift .halt false (cutShort s)) := by
  simp [submit, hf, hb, hr, ho, hj, hw]

/-- R14, R18: PAUSE holds the tape where it cuts the operation short. -/
theorem submit_cutsByPause {c : Cmd} {s : State} (hw : c.what = .pause) (hf : s.mech.inFlight.isSome = true)
    (hb : s.mech.standbyStop = false) (hr : s.mech.recoveryPending = false) (ho : ownerRefuses c s.mech.owner = false)
    (hp : pauseCuts s = true) : submit c s = (setState .recPause none false (cutShort s), .done) := by
  simp [submit, hf, hb, hr, ho, hp, hw]

/-- Settles O7: by the store, and by the cut of the junction operation. -/
theorem pendingSlotHoldsTheLatestCommand : Obligations.PendingSlotHoldsTheLatestCommand := by
  refine ⟨fun i w p c s hm ht hf hb hr ho hs hcut => ?_, ?_⟩
  · have hi : (i, w, p, c) ∈ mechForms := hm
    have hx : submit (panelCmd w p c) s = (storeCmd (panelCmd w p c) s, .accepted) := by
      refine submit_stored hf hb hr (ownerRefuses_panel ho) ?_ ?_
      · rintro ⟨hj, hw⟩
        rcases hcut with h | h | h <;> simp_all
      · rintro ⟨hw, hp⟩
        rcases hcut with h | h | ⟨-, h | ⟨h, hpaused⟩⟩
        · simp [pauseCuts, h] at hp
        · exact h.2 hw
        · simp [pauseCuts, h] at hp
        · obtain ⟨d, hd⟩ := Option.isSome_iff_exists.mp hf
          simp [pauseCuts, h, hd, hpaused d hd] at hp
    refine ⟨fun hslot => ?_, fun old hslot hop hsil => ?_⟩
    · rw [storeCmd_empty hslot] at hx
      exact exec_submitted hi ht hs (cancelsTimer_panel ho) hx ht.1.2
    · rw [storeCmd_replaces hslot hop hsil] at hx
      exact exec_submitted hi ht hs (cancelsTimer_panel ho) hx (by simp [ht.1.2])
  · intro j c s ht hst hj hc hop hsil hb hr ho hs hh hroom closes hold cut
    obtain ⟨l, hl, hn⟩ := cutShort_eq (by simp [hst]) hc hop hsil hold hroom
    have hlen : (cutShort s).link.notices.length = s.link.notices.length + closes.length := by
      rw [hl, hn, List.length_append]; rfl
    have hnotes : (cutShort s).link.notices = s.link.notices ++ closes := by rw [hl]; exact hn
    have hst' : (cutShort s).mech.state = .recPause := by rw [hl]; exact hst
    refine ⟨fun hp => ?_, fun b => ?_⟩
    · have hpc : pauseCuts s = true := by
        rcases hp with h | ⟨h, hpaused⟩
        · simp [pauseCuts, hj, h]
        · simp [pauseCuts, hj, h, hc, hpaused]
      have hx := submit_cutsByPause (c := panelCmd .pause false false) rfl (by simp [hc]) hb hr (ownerRefuses_panel ho) hpc
      refine ⟨_, exec_submitted (i := .pause) (p := false) (by simp [mechForms]) ht hs (cancelsTimer_panel ho) hx
        (by simp [hl, ht.1.2]), ?_⟩
      have htake := take_of_prefix (setState_prefix .recPause none false (cutShort s))
      rw [hlen, hnotes] at htake
      simp [cut, mechAnswer, done, State.closed, State.answered, htake, setState_servo_gate, gateTimer, reelOf, motionOf, setState_sched, hst']
      simp [hl, hst]
    · have hx := submit_cutsByStop (c := panelCmd .stop false b) rfl (by simp [hc]) hb hr (ownerRefuses_panel ho) (by simp [hj])
      refine ⟨_, exec_submitted (i := .stop b) (p := false) (by cases b <;> simp [mechForms]) ht hs (cancelsTimer_panel ho) hx
        (by simp [takesTime, startShift, driveCam, aimAt, hl, ht.1.2]), ?_⟩
      have htake := take_of_prefix (setState_prefix .shifting none false (cutShort s))
      rw [hlen, hnotes] at htake
      simp [cut, mechAnswer, accepted, takesTime, startShift, driveCam, aimAt, State.closed, State.answered, htake, setState_servo_gate,
        gateTimer, reelOf, motionOf, setState_sched, hst', camOf]
      simp [hl, hst, State.now, panelCmd]

end Sys2Proof.Machine

/-!
Sys2Proof/Proofs/Arrivals: how MECH closes a command and settles (R10, R11, R15), and a movement that ends at its target code (R1, R4).
-/

namespace Sys2Proof.Machine

/-! ## Closing and settling -/

theorem closeInFlight_none {r : CloseResult} {s : State} (h : s.mech.inFlight = none) : closeInFlight r s = s := by
  simp [closeInFlight, h]

/-- R10: a PANEL command in flight is closed by its notice. -/
theorem closeInFlight_panel {r : CloseResult} {c : Cmd} {s : State} (h : s.mech.inFlight = some c) (ho : c.origin = .panel)
    (hs : c.silent = false) : closeInFlight r s = notify (closingNotice c r) (s.onMech fun m => { m with inFlight := none }) := by
  simp [closeInFlight, h, closeCmd, ho, hs]

theorem closeSlot_none {r : CloseResult} {s : State} (h : s.mech.slot = none) : closeSlot r s = s := by simp [closeSlot, h]

theorem closeSlot_panel {r : CloseResult} {c : Cmd} {s : State} (h : s.mech.slot = some c) (ho : c.origin = .panel)
    (hs : c.silent = false) : closeSlot r s = notify (closingNotice c r) (s.onMech fun m => { m with slot := none }) := by
  simp [closeSlot, h, closeCmd, ho, hs]

theorem runSlot_none {s : State} (h : s.mech.slot = none) : runSlot s = s := by simp [runSlot, h]

/-- R11: the states in which a PANEL recorder is freed. -/
abbrev MState.settles (m : MState) : Prop := m = .halt ∨ m = .idle ∨ m = .empty

theorem settle_kept {s : State} (h : s.mech.inFlight.isSome = true ∨ ¬ s.mech.state.settles ∨ s.mech.owner ≠ .panel) : settle s = s := by
  unfold settle
  rw [if_neg]
  rintro ⟨hf, hm, ho⟩
  rcases h with h | h | h
  · rw [Option.isNone_iff_eq_none] at hf; simp [hf] at h
  · exact h hm
  · exact h ho

theorem settle_freed {s : State} (hf : s.mech.inFlight = none) (hm : s.mech.state.settles) (ho : s.mech.owner = .panel) :
    settle s = report .evaluate (s.onMech fun m => { m with owner := .none }) := by
  unfold settle
  rw [if_pos ⟨by simp [hf], hm, ho⟩]
  simp [setOwner, ho]

/-- R10, R15: a PANEL command whose work is complete, with nothing stored. -/
theorem complete_panel {c : Cmd} {s : State} (h : s.mech.inFlight = some c) (ho : c.origin = .panel) (hs : c.silent = false)
    (hslot : s.mech.slot = none) :
    complete s = settle (notify (.mechDone c.what .panel s.mech.state) (s.onMech fun m => { m with inFlight := none })) := by
  simp only [complete, closeInFlight_panel h ho hs]
  rw [runSlot_none (by simpa using hslot)]
  simp [closingNotice, ho]

/-! ## The cam lines -/

/-- R1: MECH with a code reported. -/
def camAt (code : CamCode) (s : State) : State :=
  (s.onPins fun p => { p with cam := code }).onMech fun m => { m with lastCode := if code = 7 then m.lastCode else some code }

theorem exec_camTarget (code : CamCode) {s : State} (h : s.pins.resetLow = false) :
    exec (.camTargetReached code) s = .next (finish (camReports code (s.onPins fun p => { p with cam := code }))) :=
  congrArg Host.Outcome.next (run_high (camReports code) _ h)

theorem camReports_eq (code : CamCode) {s : State} {t : CamCode} (h : s.mech.camTarget = some t) :
    camReports code (s.onPins fun p => { p with cam := code }) =
      if code = t then camArrived (camAt code s)
      else if code = 0 ∧ s.mech.recoveryRun = true ∧ s.mech.state = .unthreading then recoverAtEject (moveEnded (camAt code s))
      else camAt code s := by
  simp only [camReports, State.onPins_mech, h]
  have : (if code = 7 then (s.onPins fun p => { p with cam := code }) else
      (s.onPins fun p => { p with cam := code }).onMech fun m => { m with lastCode := some code }) = camAt code s := by
    by_cases hc : code = 7
    · subst hc; rfl
    · simp only [camAt, if_neg hc]
  rw [this]
  rfl

/-- R1, R4: the movement ends at its target code. -/
theorem exec_camArrives {code : CamCode} {s : State} (h : s.hears) (ht : s.mech.camTarget = some code) :
    exec (.camTargetReached code) s = .next (finish (camArrived (camAt code s))) := by
  rw [exec_camTarget code h.1, camReports_eq code ht, if_pos rfl]

/-! ## The movements that end in a state -/

theorem endLeaderTest_clear {s : State} (h : s.pins.leaderEnd = false ∨ inForward s = false) : endLeaderTest s = s := by
  unfold endLeaderTest
  rw [if_neg]
  rcases h with h | h <;> simp [h]

/-- R3, R15: MECH in a state entered at a movement's end. -/
def arrivedIn (m : MState) (code : CamCode) (s : State) : State := setState m none false (moveEnded (camAt code s))

theorem arrivedIn_sched (m : MState) (code : CamCode) {s : State} (h : s.mech.state ≠ .record) :
    (arrivedIn m code s).sched = s.sched := setState_sched _ _ _ _ (.inl h)

theorem quiet_camAt {s : State} (code : CamCode) (h : s.Quiet) : (moveEnded (camAt code s)).Quiet :=
  ⟨h.motion, h.writer, h.reference⟩

/-- R15: a shift that reaches a motion state enters it, unless its end leader is covered. -/
theorem exec_reachMotion {m : MState} {code : CamCode} {s : State} (hm : m ∈ [MState.play, .cue, .review, .fwind, .rwind]) (h : s.hears)
    (hs : s.mech.state = .shifting) (ht : s.mech.target = m) (hc : s.mech.camTarget = some code)
    (hl : inForward (arrivedIn m code s) = true → s.pins.leaderEnd = false) :
    exec (.camTargetReached code) s = .next (finish (complete (arrivedIn m code s))) := by
  have hcam : camArrived (camAt code s) = reachTarget (camAt code s) := by simp [camArrived, camAt, hs]
  have htest : endLeaderTest (arrivedIn m code s) = arrivedIn m code s := by
    refine endLeaderTest_clear ?_
    cases hf : inForward (arrivedIn m code s) with
    | false => exact .inr rfl
    | true => exact .inl (by simpa [arrivedIn, moveEnded, motorOff, camAt] using hl hf)
  have hst : (arrivedIn m code s).mech.state = m := by simp [arrivedIn]
  have htarget : (camAt code s).mech.target = m := ht
  have hreach : reachTarget (camAt code s) = complete (arrivedIn m code s) := by
    simp only [List.mem_cons, List.not_mem_nil, or_false] at hm
    rcases hm with rfl | rfl | rfl | rfl | rfl <;> simp only [reachTarget, htarget] <;>
      · rw [← arrivedIn, htest, if_pos hst]
  rw [exec_camArrives h hc, hcam, hreach]

end Sys2Proof.Machine

/-!
Sys2Proof/Proofs/MovementEnds: what follows the end of a movement (R10, R15 to R17, R21).
-/

namespace Sys2Proof.Machine

/-! ## The steps of the ends -/

/-- R7, R15: a threading for a motion state goes on as a shift. -/
theorem exec_threadingGoesOn {target : MState} {s : State} (hm : target ≠ .halt) (h : s.hears) (hs : s.mech.state = .threading)
    (ht : s.mech.target = target) (hc : s.mech.camTarget = some 3) :
    exec (.camTargetReached 3) s = .next (startShift target false (moveEnded (camAt 3 s))).closed := by
  have h1 : (camAt 3 s).mech.state = .threading := hs
  have h2 : (camAt 3 s).mech.target = target := ht
  have harr : camArrived (camAt 3 s) = startShift target false (moveEnded (camAt 3 s)) := by
    simp only [camArrived, h1, h2]
  rw [exec_camArrives h hc, harr, finish_closed _ (by simp [startShift, driveCam, aimAt, moveEnded, motorOff, camAt, h.2])]

/-- R10, R15: a shift that reaches a motion state closes the PANEL command, with nothing stored. -/
theorem exec_motionReached {m : MState} {code : CamCode} {c : Cmd} {s : State} (hm : m ∈ [MState.play, .cue, .review, .fwind, .rwind])
    (h : s.hears) (hs : s.mech.state = .shifting) (ht : s.mech.target = m) (hc : s.mech.camTarget = some code)
    (hl : s.pins.leaderEnd = false) (hf : s.mech.inFlight = some c) (ho : c.origin = .panel) (hsil : c.silent = false)
    (hslot : s.mech.slot = none) :
    exec (.camTargetReached code) s = .next (notify (.mechDone c.what .panel m)
      ((arrivedIn m code s).onMech fun k => { k with inFlight := none })).closed := by
  have hset : ¬ m.settles := by
    simp only [List.mem_cons, List.not_mem_nil, or_false] at hm
    rcases hm with rfl | rfl | rfl | rfl | rfl <;> simp
  have hcomp : complete (arrivedIn m code s) = notify (.mechDone c.what .panel m)
      ((arrivedIn m code s).onMech fun k => { k with inFlight := none }) := by
    rw [complete_panel (c := c) (by simpa [arrivedIn, moveEnded, motorOff, camAt] using hf) ho hsil
      (by simpa [arrivedIn, moveEnded, motorOff, camAt] using hslot), settle_kept (.inr (.inl (by simpa [arrivedIn] using hset)))]
    simp [arrivedIn]
  rw [exec_reachMotion hm h hs ht hc (fun _ => hl), hcomp, finish_closed _ (by simp [arrivedIn, moveEnded, motorOff, camAt, h.2])]

/-- R17: a shift for REC_PAUSE begins the lock wait. -/
theorem exec_lockWaitBegins {code : CamCode} {s : State} (h : s.hears) (hs : s.mech.state = .shifting) (ht : s.mech.target = .recPause)
    (hc : s.mech.camTarget = some code) (hl : s.pins.leaderEnd = false) :
    exec (.camTargetReached code) s = .next (setState .recPause (some .lockWait) false (moveEnded (camAt code s))).closed := by
  have hcam : camArrived (camAt code s) = endLeaderTest (setState .recPause (some .lockWait) false (moveEnded (camAt code s))) := by
    have h1 : (camAt code s).mech.state = .shifting := hs
    have h2 : (camAt code s).mech.target = .recPause := ht
    simp [camArrived, h1, reachTarget, h2]
  rw [exec_camArrives h hc, hcam, endLeaderTest_clear (.inl (by simpa [moveEnded, motorOff, camAt] using hl)),
    finish_closed _ (by simp [moveEnded, motorOff, camAt, h.2])]

/-- R1, R29: a code on the way changes nothing but the code last reported. -/
theorem exec_camPasses {code c : CamCode} {s : State} (h : s.hears) (hc : s.mech.camTarget = some c) (hn : code ≠ c)
    (hr : s.mech.recoveryRun = false) : exec (.camTargetReached code) s = .next (camAt code s).closed := by
  rw [exec_camTarget code h.1, camReports_eq code hc, if_neg hn, if_neg (by simp [hr]), finish_closed (camAt code s) h.2]

/-! ## The end of a command in HALT, IDLE or EMPTY -/

/-- R10, R11: the PANEL command closed and the PANEL recorder free, an evaluation to follow. -/
def freed (c : Cmd) (m : MState) (x : State) : State :=
  report .evaluate (notify (.mechDone c.what .panel m) (x.onMech fun k => { k with inFlight := none, owner := .none }))

theorem settle_freed_closed {c : Cmd} {m : MState} {x : State} (hf : x.mech.inFlight = some c) (ho : c.origin = .panel)
    (hs : c.silent = false) (hm : m.settles) (hx : x.mech.state = m) (hw : x.mech.owner = .panel) :
    settle (closeInFlight (.done m) x) = freed c m x := by
  rw [closeInFlight_panel hf ho hs, settle_freed rfl (by simpa [hx] using hm) (by simpa using hw)]
  simp [closingNotice, ho]
  rfl

/-- The state in which a command or cause ends in HALT or IDLE (R15). -/
def settledIn (m : MState) (code : CamCode) (s : State) : State := (arrivedIn m code s).onMech fun k => { k with cause := none }

theorem camArrived_halt {c : Cmd} {s : State} (hs : s.mech.state = .shifting ∨ s.mech.state = .threading) (ht : s.mech.target = .halt)
    (hf : s.mech.inFlight = some c) (ho : c.origin = .panel) (hsil : c.silent = false) (hslot : s.mech.slot = none)
    (hw : s.mech.owner = .panel) : camArrived (camAt 3 s) = freed c .halt (settledIn .halt 3 s) := by
  have h2 : (camAt 3 s).mech.target = .halt := ht
  have harr : camArrived (camAt 3 s) = reachHalt (camAt 3 s) := by
    rcases hs with hs | hs
    · have h1 : (camAt 3 s).mech.state = .shifting := hs
      simp only [camArrived, h1, reachTarget, h2]
    · have h1 : (camAt 3 s).mech.state = .threading := hs
      simp only [camArrived, h1, h2]
  have hf' : (settledIn .halt 3 s).mech.inFlight = some c := by simpa [settledIn, arrivedIn, moveEnded, motorOff, camAt] using hf
  have hst : (settledIn .halt 3 s).mech.state = .halt := by simp [settledIn, arrivedIn]
  have hreach : reachHalt (camAt 3 s) = complete (settledIn .halt 3 s) := by
    simp only [reachHalt]
    rw [show ((setState .halt none false (moveEnded (camAt 3 s))).onMech fun m => { m with cause := none }) = settledIn .halt 3 s from rfl,
      hf']
  rw [harr, hreach, complete, hst, runSlot_none, settle_freed_closed hf' ho hsil (.inl rfl) hst]
  · simpa [settledIn, arrivedIn, moveEnded, motorOff, camAt] using hw
  · rw [closeInFlight_panel hf' ho hsil]
    simpa [settledIn, arrivedIn, moveEnded, motorOff, camAt] using hslot

theorem camArrived_idle {c : Cmd} {s : State} (hs : s.mech.state = .unthreading) (ht : s.mech.target = .idle)
    (hf : s.mech.inFlight = some c) (ho : c.origin = .panel) (hsil : c.silent = false) (hslot : s.mech.slot = none)
    (hw : s.mech.owner = .panel) (hr : s.mech.recoveryRun = false) (hb : s.mech.standbyStop = false) :
    camArrived (camAt 1 s) = freed c .idle (settledIn .idle 1 s) := by
  have h1 : (camAt 1 s).mech.state = .unthreading := hs
  have h2 : (camAt 1 s).mech.target = .idle := ht
  have h3 : (camAt 1 s).mech.recoveryRun = false := hr
  have hf' : (settledIn .idle 1 s).mech.inFlight = some c := by simpa [settledIn, arrivedIn, moveEnded, motorOff, camAt] using hf
  have hst : (settledIn .idle 1 s).mech.state = .idle := by simp [settledIn, arrivedIn]
  have hfreed : settle (runSlot (closeInFlight (.done .idle) (settledIn .idle 1 s))) = freed c .idle (settledIn .idle 1 s) := by
    rw [runSlot_none, settle_freed_closed hf' ho hsil (.inr (.inl rfl)) hst]
    · simpa [settledIn, arrivedIn, moveEnded, motorOff, camAt] using hw
    · rw [closeInFlight_panel hf' ho hsil]
      simpa [settledIn, arrivedIn, moveEnded, motorOff, camAt] using hslot
  have hreach : camArrived (camAt 1 s) =
      standbyEnds true (recoveryEnds (settle (runSlot (closeInFlight (.done .idle) (settledIn .idle 1 s))))) := by
    simp only [camArrived, h1, h2, reachIdle, h3, Bool.false_eq_true, if_false]
    rw [show ((setState .idle none false (moveEnded (camAt 1 s))).onMech fun m => { m with cause := none }) = settledIn .idle 1 s from rfl,
      hf']
  rw [hreach, hfreed]
  simp [recoveryEnds, standbyEnds, freed, settledIn, arrivedIn, moveEnded, motorOff, camAt, hr, hb]

/-- R28: what an entry to EMPTY does, the fault code cleared. -/
def emptiedFrom (x : State) : State :=
  (emptyEffects x).onMech fun m => { m with fault := .none, cause := none, ejectRead := false }

@[simp] theorem emptiedFrom_sched (x : State) : (emptiedFrom x).sched = x.sched := rfl
@[simp] theorem emptiedFrom_reports (x : State) : (emptiedFrom x).reports = x.reports := rfl
@[simp] theorem emptiedFrom_notices (x : State) : (emptiedFrom x).link.notices = x.link.notices := rfl

/-- R28: MECH at the end of an ejection, its command still to be closed. -/
def emptied (s : State) : State :=
  emptiedFrom (setState .empty none false (moveEnded ((motorOff (camAt 0 s)).onMech fun m => { m with ejectRead := true })))

theorem camArrived_empty {c : Cmd} {s : State} (hs : s.mech.state = .ejecting) (hin : s.pins.cassetteIn = false)
    (hf : s.mech.inFlight = some c) (ho : c.origin = .panel) (hsil : c.silent = false) (hslot : s.mech.slot = none)
    (hw : s.mech.owner = .panel) (hr : s.mech.recoveryRun = false) (hb : s.mech.standbyStop = false) :
    camArrived (camAt 0 s) = freed c .empty (emptied s) := by
  have h1 : (camAt 0 s).mech.state = .ejecting := hs
  have h2 : (camAt 0 s).pins.cassetteIn = false := hin
  have hmech : (emptied s).mech.inFlight = some c ∧ (emptied s).mech.state = .empty ∧ (emptied s).mech.owner = .panel ∧
      (emptied s).mech.slot = none ∧ (emptied s).mech.recoveryRun = false ∧ (emptied s).mech.standbyStop = false := by
    simp [emptied, emptiedFrom, emptyEffects, standardCurrent, markEmptied, posEmptied, moveEnded, motorOff, camAt, hf, hw, hslot, hr, hb]
  obtain ⟨hf', hst, hw', hslot', hr', hb'⟩ := hmech
  have hfreed : settle (runSlot (closeInFlight (.done .empty) (emptied s))) = freed c .empty (emptied s) := by
    rw [runSlot_none, settle_freed_closed hf' ho hsil (.inr (.inr rfl)) hst hw']
    rw [closeInFlight_panel hf' ho hsil]
    simpa using hslot'
  have hrec : ((motorOff (camAt 0 s)).onMech fun m => { m with ejectRead := true }).mech.recoveryRun = false := hr
  have hreach : camArrived (camAt 0 s) =
      standbyEnds true (recoveryEnds (settle (runSlot (closeInFlight (.done .empty) (emptied s))))) := by
    simp only [camArrived, h1, h2, Bool.false_eq_true, if_false, becomeEmpty, hrec]
    rfl
  rw [hreach, hfreed]
  simp [recoveryEnds, standbyEnds, freed, hr', hb']

theorem emptied_keeps {s : State} (hs : s.mech.state = .ejecting) (hr : s.reports = []) (hq : s.Quiet) :
    (emptied s).sched = s.sched ∧ (emptied s).reports = [] ∧ (emptied s).link.notices = s.link.notices := by
  have hq' : (moveEnded ((motorOff (camAt 0 s)).onMech fun m => { m with ejectRead := true })).Quiet :=
    ⟨hq.motion, hq.writer, hq.reference⟩
  have hl : (setState .empty none false (moveEnded ((motorOff (camAt 0 s)).onMech fun m => { m with ejectRead := true }))).link = s.link :=
    (setState_quiet none false hq' rfl).1
  have hsched : (setState .empty none false (moveEnded ((motorOff (camAt 0 s)).onMech fun m => { m with ejectRead := true }))).sched = s.sched :=
    setState_sched _ _ _ _ (.inl (by simp [moveEnded, motorOff, camAt, hs]))
  refine ⟨?_, ?_, ?_⟩
  · rw [emptied, emptiedFrom_sched, hsched]
  · simp [emptied, moveEnded, motorOff, camAt, hr]
  · rw [emptied, emptiedFrom_notices, hl]

/-- R28: an ejection that has read EJECT waits for the switch. -/
theorem exec_ejectWaits {s : State} (h : s.hears) (hs : s.mech.state = .ejecting) (hc : s.mech.camTarget = some 0)
    (hin : s.pins.cassetteIn = true) :
    exec (.camTargetReached 0) s = .next ((motorOff (camAt 0 s)).onMech fun m => { m with ejectRead := true }).closed := by
  have h1 : (camAt 0 s).mech.state = .ejecting := hs
  have h2 : (camAt 0 s).pins.cassetteIn = true := hin
  have hcam : camArrived (camAt 0 s) = (motorOff (camAt 0 s)).onMech fun m => { m with ejectRead := true } := by
    simp only [camArrived, h1, h2, if_true]
  rw [exec_camArrives h hc, hcam]
  exact congrArg Host.Outcome.next (finish_closed _ h.2)

theorem exec_freed {c : Cmd} {m : MState} {code : CamCode} {s x : State} (h : s.hears) (hc : s.mech.camTarget = some code)
    (hx : camArrived (camAt code s) = freed c m x) (hs : x.sched = s.sched) (hr : x.reports = []) (hn : s.noOccurrence) :
    ∃ d, exec (.camTargetReached code) s = .next (ended d (freed c m x)) := by
  obtain ⟨d, hd⟩ := finish_quiet (freed c m x) (by simpa [State.noOccurrence, freed, hs] using hn) (.inr (by simp [freed, hr]))
  exact ⟨d, by rw [exec_camArrives h hc, hx, hd]; rfl⟩

end Sys2Proof.Machine

/-!
Sys2Proof/Proofs/StoredCommands: the stored STOP at the end of a movement (R15), the end leader at a motion's entry (R21), and O8's
movements together.
-/

namespace Sys2Proof.Machine

/-! ## A stored STOP -/

/-- R6: a STOP of the host passes the checks on a recorder TIMER does not have. -/
theorem stop_passes {d : Cmd} {s : State} (hw : d.what = .stop) (hj : s.mech.state ≠ .jammed) (hr : s.mech.recoveryPending = false)
    (hown : s.mech.owner.isTimer = false) : mechChecks d s = none := by
  simp [mechChecks, hw, hj, hr, ownerRefuses, hown, badFrom, recordForm, forwardTarget, reverseTarget]

/-- R15: a stored STOP comes to its work. -/
theorem runSlot_stop {d : Cmd} {s : State} (h : s.mech.slot = some d) (hw : d.what = .stop) (hj : s.mech.state ≠ .jammed)
    (hr : s.mech.recoveryPending = false) (hown : s.mech.owner.isTimer = false) {y : State}
    (hy : mechWork d ((s.onMech fun m => { m with slot := none }).onMech fun m => { m with fault := .none }) = takesTime d y) :
    runSlot s = (takesTime d y).1 := by
  have hc : mechChecks d (s.onMech fun m => { m with slot := none }) = none := stop_passes hw hj hr hown
  have hx : execute d (s.onMech fun m => { m with slot := none }) = takesTime d y := by
    rw [execute_passed hc, if_pos (.inl hw), clearFault_eq (by simpa using hj), hy]
  simp only [runSlot, h, hown, hx]
  simp [takesTime]

/-- R15: a stored STOP in a motion state shifts to HALT_POS. -/
theorem runSlot_stop_shifts {d : Cmd} {s : State} (h : s.mech.slot = some d) (hw : d.what = .stop)
    (hm : s.mech.state.threaded = true ∧ s.mech.state ≠ .halt) (hr : s.mech.recoveryPending = false)
    (hown : s.mech.owner.isTimer = false) : runSlot s =
      (startShift .halt false (s.onMech fun m => { m with slot := none, fault := .none })).onMech fun m => { m with inFlight := some d } := by
  obtain ⟨ht, hh⟩ := hm
  have hst : s.mech.state ≠ .jammed ∧ s.mech.state ≠ .idle ∧ s.mech.state ≠ .empty := by
    refine ⟨?_, ?_, ?_⟩ <;> intro he <;> simp [he, MState.threaded] at ht
  refine runSlot_stop h hw hst.1 hr hown ?_
  simp [mechWork, hw, hst.2.1, hst.2.2, hh]
  rfl

/-! ## The end leader covered -/

/-- R10, R21: the PANEL command of a forward motion discarded, TAPE_END latched and sent. -/
def leaderTold (c : Cmd) (x : State) : State :=
  notify (.tapeEnd x.mech.state) ((notify (.mechDiscarded c.what .panel .endLeader)
    (x.onMech fun m => { m with reel := .off, recAmp := false, inFlight := none })).onLink fun l => { l with tapeEnd := true })

/-- R21: the state the end leader leaves of a forward motion whose PANEL command is open. -/
def leaderDiscards (c : Cmd) (x : State) : State :=
  because .endLeader (startShift .halt false (report .leaderSearch (report .leaderSched (leaderTold c x))))

theorem endLeaderTest_discards {c : Cmd} {x : State} (hl : x.pins.leaderEnd = true) (hf : inForward x = true)
    (hc : x.mech.inFlight = some c) (ho : c.origin = .panel) (hs : c.silent = false) : endLeaderTest x = leaderDiscards c x := by
  simp only [endLeaderTest, hl, hf, Bool.and_self, if_true, endLeaderStop]
  rw [closeInFlight_panel (c := c) (by simpa using hc) ho hs]
  simp [closingNotice, ho]
  rfl

theorem leaderDiscards_reports (c : Cmd) (x : State) : (leaderDiscards c x).reports = x.reports ++ [.leaderSched, .leaderSearch] := by
  simp [leaderDiscards, leaderTold, because, startShift, driveCam, aimAt]

theorem leaderDiscards_notices (c : Cmd) {x : State} (h : x.roomFor 2) :
    (leaderDiscards c x).link.notices.take (x.link.notices.length + 2) =
      x.link.notices ++ [.mechDiscarded c.what .panel .endLeader, .tapeEnd x.mech.state] := by
  have h1 : (notify (.mechDiscarded c.what .panel .endLeader)
      (x.onMech fun m => { m with reel := .off, recAmp := false, inFlight := none })).link.notices =
        x.link.notices ++ [.mechDiscarded c.what .panel .endLeader] :=
    notify_room (by simp only [State.roomFor, State.onMech_link] at *; omega)
  have h2 : (leaderTold c x).link.notices = x.link.notices ++ [.mechDiscarded c.what .panel .endLeader, .tapeEnd x.mech.state] := by
    rw [leaderTold, notify_room (by simp only [State.roomFor, State.onLink_link, h1, List.length_append] at *; exact h),
      State.onLink_link, h1]
    simp
  have hp := startShift_prefix .halt false (report .leaderSearch (report .leaderSched (leaderTold c x)))
  rw [report_link, report_link, h2] at hp
  have hd : (leaderDiscards c x).link =
      (startShift .halt false (report .leaderSearch (report .leaderSched (leaderTold c x)))).link := by simp only [leaderDiscards, because, State.onMech_link]
  rw [hd]
  simpa using take_of_prefix hp

theorem leaderDiscards_sched (c : Cmd) {x : State} (h : x.mech.state ≠ .record ∨ x.sched.holder = none) :
    (leaderDiscards c x).sched = x.sched := by
  simp only [leaderDiscards, because, State.onMech_sched]
  rw [startShift_sched _ _ _ (by simpa [leaderTold] using h)]
  simp [leaderTold]

/-- R15, R21: a shift that reaches a forward motion under a covered end leader goes on to HALT_POS. -/
theorem exec_reachCovered {m : MState} {code : CamCode} {c : Cmd} {s : State} (hm : m ∈ [MState.play, .cue, .fwind]) (h : s.hears)
    (hs : s.mech.state = .shifting) (ht : s.mech.target = m) (hc : s.mech.camTarget = some code) (hl : s.pins.leaderEnd = true)
    (hf : s.mech.inFlight = some c) (ho : c.origin = .panel) (hsil : c.silent = false) (hh : s.sched.holder = none)
    (hsearch : s.mark.search = none) : exec (.camTargetReached code) s =
      .next ({ leaderDiscards c (arrivedIn m code s) with reports := [] } : State).closed := by
  have hx : (arrivedIn m code s).mech.state = m ∧ (arrivedIn m code s).mech.inFlight = some c ∧
      (arrivedIn m code s).pins.leaderEnd = true ∧ (arrivedIn m code s).mech.junction = none ∧ (arrivedIn m code s).reports = [] ∧
      (arrivedIn m code s).mark.search = none := by
    simp [arrivedIn, moveEnded, motorOff, camAt, hf, hl, h.2, hsearch]
  obtain ⟨hst, hf', hl', hj, hrep, hse⟩ := hx
  have hfor : inForward (arrivedIn m code s) = true := by
    simp only [List.mem_cons, List.not_mem_nil, or_false] at hm
    rcases hm with rfl | rfl | rfl <;> simp [inForward, hst, motionOf]
  have htest := endLeaderTest_discards hl' hfor hf' ho hsil
  have hmrec : m ≠ .record := by rintro rfl; simp at hm
  have hne : (leaderDiscards c (arrivedIn m code s)).mech.state ≠ m := by
    simp only [List.mem_cons, List.not_mem_nil, or_false] at hm
    rcases hm with rfl | rfl | rfl <;> simp [leaderDiscards, leaderTold, because, startShift, driveCam, aimAt]
  have hcam : camArrived (camAt code s) = leaderDiscards c (arrivedIn m code s) := by
    have h1 : (camAt code s).mech.state = .shifting := hs
    have h2 : (camAt code s).mech.target = m := ht
    simp only [List.mem_cons, List.not_mem_nil, or_false] at hm
    rcases hm with rfl | rfl | rfl <;> simp only [camArrived, h1, reachTarget, h2] <;> rw [← arrivedIn, htest, if_neg hne]
  have hsched : (leaderDiscards c (arrivedIn m code s)).sched = s.sched := by
    have harr : (arrivedIn m code s).sched = s.sched :=
      setState_sched _ _ _ _ (.inl (by simp [moveEnded, motorOff, camAt, hs]))
    rw [leaderDiscards_sched c (.inl (by rw [hst]; exact hmrec)), harr]
  rw [exec_camArrives h hc, hcam, finish_deaf false _ (by rw [hsched, hh]) (fun _ => by
    simpa [leaderDiscards, leaderTold, because, startShift, driveCam, aimAt] using hse)]
  · simp [leaderDiscards_reports, hrep]
  · simp [leaderDiscards_reports, hrep, Report.deaf]

end Sys2Proof.Machine

/-!
Sys2Proof/Proofs/Junctions: how a junction operation ends (R16, R17): the drum's lock, the frames of a backspace, the start leader.
-/

namespace Sys2Proof.Machine

/-! ## The tape at rest in REC_PAUSE -/

/-- R16, R17: the tape held in REC_PAUSE, the PANEL command closed. -/
def restedIn (c : Cmd) (x : State) : State :=
  notify (.mechDone c.what .panel .recPause) ((setState .recPause none false x).onMech fun m => { m with inFlight := none })

theorem junctionRest_panel {c : Cmd} {x : State} (hf : x.mech.inFlight = some c) (ho : c.origin = .panel) (hs : c.silent = false)
    (hslot : x.mech.slot = none) : junctionRest x = restedIn c x := by
  rw [junctionRest, complete_panel (c := c) (by simpa using hf) ho hs (by simpa using hslot), settle_kept (.inr (.inl (by simp)))]
  simp [restedIn]

/-- What a tape held in REC_PAUSE leaves, its notice among the others. -/
theorem restedIn_mem {c : Cmd} {x : State} (h : x.mech.state = .recPause) (hr : x.roomFor 3) :
    .mechDone c.what .panel .recPause ∈ (restedIn c x).link.notices := by
  have hl := setState_length (m := .recPause) (j := none) (b := false) (s := x) (by simp [h])
  rw [restedIn, notify_room (by simp only [State.roomFor, State.onMech_link] at *; omega)]
  simp

/-! ## The drum's lock -/

/-- R34: the eighth good revolution in SPEED locks the drum. -/
theorem drumPg_locks {phase : Int} {s : State} (hd : s.servo.drum.state = .speed) (hg : s.servo.drum.pgGood = 7)
    (hp : phase.natAbs ≤ 50000) : (drumPg phase s).servo.drum.state = .locked ∧ (drumPg phase s).servo.capstan = s.servo.capstan ∧
      (drumPg phase s).servo.recSpeed = s.servo.recSpeed ∧ (drumPg phase s).servo.gate = s.servo.gate := by
  simp only [drumPg, loopsFollow_servo_drum, loopsFollow_servo_capstan, loopsFollow_servo_recSpeed, loopsFollow_servo_gate, drumRevolution]
  simp [hd, hg, hp, satInc, Drum.moved]

/-- R34: a revolution touches SERVO and POS's identification run alone, where the drum does not slip. -/
theorem drumPg_keeps {phase : Int} {s : State} (hd : s.servo.drum.state = .speed) : ∃ v p, drumPg phase s = { s with servo := v, pos := p } ∧
    p.counter = s.pos.counter ∧ p.motion = s.pos.motion := by
  have h1 : ∃ v, drumRevolution (decide (phase.natAbs ≤ 50000)) (decide (100000 < phase.natAbs)) s = { s with servo := v } := by
    simp only [drumRevolution, hd]
    (repeat' split) <;> exact ⟨_, rfl⟩
  have h2 (x : State) : ∃ v p, loopsFollow x = { x with servo := v, pos := p } ∧ p.counter = x.pos.counter ∧ p.motion = x.pos.motion := by
    simp only [loopsFollow]
    split
    · exact ⟨_, x.pos, rfl, rfl, rfl⟩
    · exact ⟨_, (runClear x).pos, rfl, rfl, rfl⟩
  obtain ⟨v, hv⟩ := h1
  obtain ⟨w, p, hw, h3, h4⟩ := h2 (drumRevolution (decide (phase.natAbs ≤ 50000)) (decide (100000 < phase.natAbs)) s)
  refine ⟨w, p, ?_, ?_, ?_⟩
  · rw [drumPg, hw, hv]
  · rw [h3, hv]
  · rw [h4, hv]

theorem exec_drumPg {phase : Int} {s : State} (h : s.pins.resetLow = false) :
    exec (.drumPgPulse phase) s = .next (finish (junctionTest (drumPg phase s))) :=
  congrArg Host.Outcome.next (run_high _ _ h)

/-- R17: a lock wait or pre-roll without both loops LOCKED, or a pre-roll short of its frames, goes on. -/
theorem junctionTest_waits {j : Junction} {x : State} (hj : x.mech.junction = some j) (hw : j = .lockWait ∨ j = .preRoll)
    (h : x.servo.bothLocked = false ∨ (j = .preRoll ∧ x.pos.counter < x.mech.junctionAt + 30)) : junctionTest x = x := by
  rcases hw with rfl | rfl
  · have h : x.servo.bothLocked = false := h.resolve_right (by simp)
    simp [junctionTest, hj, h]
  · unfold junctionTest
    rw [hj]
    refine if_neg ?_
    rintro ⟨hb, hc⟩
    rcases h with h | ⟨-, h⟩
    · rw [hb] at h; exact absurd h (by simp)
    · simp only [Config.junctionFrames] at hc; omega

/-- R17: with both LOCKED, and a pre-roll's frames done, RECORD begins, but for a start-paused RECORD's lock wait. -/
theorem junctionTest_records {j : Junction} {c : Cmd} {x : State} (hj : x.mech.junction = some j) (hw : j = .lockWait ∨ j = .preRoll)
    (hb : x.servo.bothLocked = true) (hf : x.mech.inFlight = some c) (hp : c.paused = false ∨ j = .preRoll)
    (hn : j = .preRoll → x.mech.junctionAt + 30 ≤ x.pos.counter) : junctionTest x = startRecording x := by
  rcases hw with rfl | rfl
  · have hp : c.paused = false := hp.resolve_right (by simp)
    simp [junctionTest, hj, hb, hf, hp]
  · unfold junctionTest
    rw [hj]
    exact if_pos ⟨hb, by simpa [Config.junctionFrames] using hn rfl⟩

theorem junctionTest_rests {c : Cmd} {x : State} (hj : x.mech.junction = some .lockWait) (hb : x.servo.bothLocked = true)
    (hf : x.mech.inFlight = some c) (hp : c.paused = true) : junctionTest x = junctionRest x := by
  simp [junctionTest, hj, hb, hf, hp]

/-! ## RECORD begins -/

/-- R17, R81: RECORD entered by the host's command, with the automatic INDEX, the command closed. -/
def recordingBy (c : Cmd) (x : State) : State :=
  let s1 := report .recordEntered ((setState .record none false x).onMark fun m => { m with guardDone := false })
  notify (.mechDone c.what .panel .record) ((recordIndex (some .panel) s1).onMech fun m => { m with inFlight := none })

theorem startRecording_panel {c : Cmd} {x : State} (hf : x.mech.inFlight = some c) (ho : c.origin = .panel) (hs : c.silent = false)
    (hslot : x.mech.slot = none) (hl : x.pins.leaderEnd = false) (hg : x.guardSpan = none) : startRecording x = recordingBy c x := by
  have hguard : (report .recordEntered ((setState .record none false x).onMark fun m => { m with guardDone := false })).guardSpan = none := by
    rw [← hg]
    simp [State.guardSpan, State.spans, State.std]
  have hx (y : State) : (recordIndex (some .panel) y).mech = y.mech := by
    simp only [recordIndex, autoIndex]; (repeat' split) <;> rfl
  have hrec : recordGuard (report .recordEntered ((setState .record none false x).onMark fun m => { m with guardDone := false })) =
      report .recordEntered ((setState .record none false x).onMark fun m => { m with guardDone := false }) := by
    simp only [recordGuard, hguard]
    split <;> rfl
  simp only [startRecording, hrec, hf, Option.map_some, ho]
  rw [endLeaderTest_clear (.inl (by simpa using hl)), if_pos (by simp),
    complete_panel (c := c) (by rw [hx]; simpa using hf) ho hs (by rw [hx]; simpa using hslot), settle_kept (.inr (.inl (by simp [hx])))]
  simp [recordingBy, hx]

theorem recordingBy_reports (c : Cmd) (x : State) : (recordingBy c x).reports = x.reports ++ [.recordEntered] := by
  simp only [recordingBy, recordIndex, autoIndex, notify_reports, State.onMech_reports]
  (repeat' split) <;> simp

/-- R17, R81: what entering RECORD by the host's command leaves. -/
theorem recordingBy_keeps (c : Cmd) {x : State} (h : x.mech.state = .recPause) :
    (recordingBy c x).mech = { (setState .record none false x).mech with inFlight := none } ∧
    (recordingBy c x).servo = (setState .record none false x).servo ∧ (recordingBy c x).pos = (setState .record none false x).pos ∧
    (recordingBy c x).mark.list = x.mark.list ∧ (recordingBy c x).mark.search = x.mark.search ∧
    (recordingBy c x).mark.writer = (if x.link.settings.indexStart = true ∧ x.mark.writer = .idle then
      .writing .index 0 .panel 0 none true else x.mark.writer) ∧
    (recordingBy c x).tuner = x.tuner ∧ (recordingBy c x).clock = x.clock ∧ (recordingBy c x).sched = x.sched := by
  have hs : (setState .record none false x).sched = x.sched := setState_sched _ _ _ _ (.inr (.inl rfl))
  have hw : (setState .record none false x).mark.writer = x.mark.writer := setState_writer (by simp [h])
  simp only [recordingBy, recordIndex, autoIndex, notify_mech, notify_servo, notify_pos, notify_mark, notify_tuner, notify_clock,
    notify_sched, report_link, State.onMark_link, setState_link_settings, State.onMech_mech, State.onMech_servo, State.onMech_pos,
    State.onMech_mark, State.onMech_tuner, State.onMech_clock, State.onMech_sched]
  by_cases hi : x.link.settings.indexStart = true <;> by_cases hidle : x.mark.writer = .idle <;>
    simp [hi, hidle, hs, hw]

theorem recordingBy_mem {c : Cmd} {x : State} (h : x.mech.state = .recPause) (hr : x.roomFor 3) :
    .mechDone c.what .panel .record ∈ (recordingBy c x).link.notices := by
  have hl := setState_length (m := .record) (j := none) (b := false) (s := x) (by simp [h])
  have hi (y : State) : (recordIndex (some .panel) y).link = y.link := by
    simp only [recordIndex, autoIndex]; (repeat' split) <;> rfl
  rw [recordingBy, notify_room]
  · simp
  · simp only [State.roomFor, State.onMech_link, hi, report_link, State.onMark_link] at *
    omega

/-! ## The frames of a backspace -/

/-- R40, R53, R75: a replayed pulse of the backspace, as it reaches SERVO, POS and MARK. -/
theorem replayedPulse_backspace {duty interval env : Nat} {phase : Int} {m : Motion} {s : State} (hs : s.mech.state = .recPause)
    (hm : s.pos.motion = some m) (hr : m.forward = false) (hsearch : s.mark.search = none) (hw : s.mark.writer = .idle)
    (hread : s.mark.reader.phase ≠ .inRun) (hh : s.sched.holder = none) (hlo : - counterLimit s.std < s.pos.counter)
    (hhi : s.pos.counter ≤ counterLimit s.std) : ∃ v p k, replayedPulse duty phase interval env s =
      junctionTest { s with servo := v, pos := p, mark := k } ∧ p.counter = s.pos.counter - 1 ∧ p.motion = some m ∧
      k.list = s.mark.list ∧ k.writer = .idle ∧ k.search = none := by
  have hread' (now : Nat) (p : Int) (d : Duty) : (Reader.pulse false now p d s.mark.reader).2 = [] := by
    cases d <;> simp only [Reader.pulse]
    all_goals first | rw [if_neg (by simp [hread])] | (split <;> rfl)
  have hclamp : s.clampCounter (s.pos.counter - 1) = s.pos.counter - 1 := by
    simp only [State.clampCounter, clampInt]
    rw [if_neg (by omega), if_neg (by omega)]
  obtain ⟨v, p, hy, hpc, hpm⟩ : ∃ v p, servoPulse phase interval s = { s with servo := v, pos := p } ∧ p.counter = s.pos.counter ∧
      p.motion = s.pos.motion := ⟨_, _, servoPulse_keeps phase interval s (by simp [hs]), rfl, rfl⟩
  let q : Pos := (countPulse false { s with servo := v, pos := p }).pos
  have hq : countPulse false { s with servo := v, pos := p } = { s with servo := v, pos := q } := rfl
  have hqc : q.counter = s.pos.counter - 1 := by
    have h : q.counter = s.clampCounter (p.counter - 1) := rfl
    rw [h, hpc, hclamp]
  have hmark (x : State) (hx : x.mark = s.mark) : markReplayed false (dutyClass duty) x =
      (x.onMark fun k => { k with reader := (Reader.pulse false x.now (pulsePosition false x.pos.counter) (dutyClass duty) s.mark.reader).1,
                                  headDuty := k.writer.replayDuty }, []) := by
    simp only [markReplayed, hx, hw]
    rw [hread']
  let k : Mark := { s.mark with
    reader := (Reader.pulse false s.now (pulsePosition false q.counter) (dutyClass duty) s.mark.reader).1,
    headDuty := s.mark.writer.replayDuty }
  refine ⟨v, q, k, ?_, hqc, hpm.trans hm, rfl, hw, hsearch⟩
  have hmem (b a : Int) (x : State) (hx : x.mech.state = .recPause) : memoryTest b a x = x := by
    simp only [memoryTest, hx, crossesTarget]
    split <;> simp_all
  have hafter (b a : Int) (x : State) (h1 : x.mech.state = .recPause) (h2 : x.mark.search = none) (h3 : x.sched.holder = none) :
      afterCount b a x = junctionTest x := by
    simp only [afterCount, hmem b a x h1, searchCounter, h2, skipTest, h3]
  have hpulse (x : State) (hx : x.mark.search = none) : searchPulse x = x := by simp [searchPulse, hx]
  simp only [replayedPulse, hs, hm, motionPulse, hr]
  rw [if_neg (by simp), if_neg (by simp), hy, hq, hpulse { s with servo := v, pos := q } hsearch, hmark { s with servo := v, pos := q } rfl]
  exact hafter _ _ { s with servo := v, pos := q, mark := k } hs hsearch hh

theorem exec_replayed {duty interval env : Nat} {phase : Int} {s : State} (h : s.pins.resetLow = false) :
    exec (.controlPulseReplayed duty phase interval env) s = .next (finish (replayedPulse duty phase interval env s)) :=
  congrArg Host.Outcome.next (run_high _ _ h)

/-- R16: a backspace ends 30 frames back. -/
theorem junctionTest_backspace {x : State} (hj : x.mech.junction = some .backspace) :
    junctionTest x = if x.pos.counter ≤ x.mech.junctionAt - 30 then junctionRest x else x := by
  simp only [junctionTest, hj]
  rfl

/-- R16: the start leader ends a backspace. -/
theorem exec_startLeader_backspace {s : State} (h : s.pins.resetLow = false) (hs : s.mech.state = .recPause)
    (hj : s.mech.junction = some .backspace) : exec (.startLeaderCovered true) s =
      .next (finish (junctionRest (s.onPins fun p => { p with leaderStart := true }))) := by
  refine congrArg Host.Outcome.next ((run_high _ (s.onPins fun p => { p with leaderStart := true }) h).trans ?_)
  have h1 : (s.onPins fun p => { p with leaderStart := true }).mech.state = .recPause := hs
  have h2 : (s.onPins fun p => { p with leaderStart := true }).mech.junction = some .backspace := hj
  simp only [if_true, startLeaderCovered, h1, h2]

end Sys2Proof.Machine

/-!
Sys2Proof/Proofs/CamArrival: the movements and junction operations of O8, from the steps of their ends.
-/

namespace Sys2Proof.Machine

/-- R1: the codes of the shifts' positions, from below. -/
theorem shiftCode_spec {target : MState} {code : CamCode}
    (h : (target, code) ∈ [(MState.play, (4 : CamCode)), (.cue, 4), (.recPause, 4), (.review, 5), (.fwind, 6), (.rwind, 6)]) :
    camOf target = code ∧ ¬ code ≤ 3 ∧ target ≠ .halt := by
  simp only [List.mem_cons, Prod.mk.injEq, List.not_mem_nil, or_false] at h
  rcases h with ⟨rfl, rfl⟩ | ⟨rfl, rfl⟩ | ⟨rfl, rfl⟩ | ⟨rfl, rfl⟩ | ⟨rfl, rfl⟩ | ⟨rfl, rfl⟩ <;> simp [camOf]

theorem motionCode_spec {target : MState} {code : CamCode}
    (h : (target, code) ∈ [(MState.play, (4 : CamCode)), (.cue, 4), (.review, 5), (.fwind, 6), (.rwind, 6)]) :
    target ∈ [MState.play, .cue, .review, .fwind, .rwind] ∧ target ≠ .record ∧ inSession target = false ∧ target.threaded = true ∧
      target ≠ .halt := by
  simp only [List.mem_cons, Prod.mk.injEq, List.not_mem_nil, or_false] at h
  rcases h with ⟨rfl, rfl⟩ | ⟨rfl, rfl⟩ | ⟨rfl, rfl⟩ | ⟨rfl, rfl⟩ | ⟨rfl, rfl⟩ <;> simp [inSession, MState.threaded]

/-- R68, R83, R39: a motion entered at a quiet movement's end says nothing. -/
theorem arrivedIn_link {m : MState} (code : CamCode) {s : State} (h : s.Quiet) (hm : inSession m = false) :
    (arrivedIn m code s).link = s.link := (setState_quiet none false (quiet_camAt code h) hm).1

/-- Settles O8: each clause by the step of its movement's or operation's end. -/
theorem camArrivalEndsTheMovement : Obligations.CamArrivalEndsTheMovement := by
  refine ⟨fun code c s h hc hn hr => exec_camPasses h hc hn hr, fun target code c s hm h hs ht hc hf => ?_,
    fun target code c s hm h hs ht hc hf ho hsil hslot hl hmo hw href hroom => ?_, fun c s h hs ht hc hf hl => ?_, ?_, ?_, ?_, ?_⟩
  · obtain ⟨hcam, hlt, hhalt⟩ := shiftCode_spec hm
    refine ⟨_, exec_threadingGoesOn hhalt h hs ht hc, ?_⟩
    simp [State.closed, startShift, driveCam, aimAt, moveEnded, motorOff, camAt, hcam, hf, setState_sched, hs, State.now]
    exact fun hle => absurd hle hlt
  · obtain ⟨hmem, hrec, hses, -⟩ := motionCode_spec hm
    refine ⟨_, exec_motionReached hmem h hs ht hc hl hf ho hsil hslot, ?_⟩
    have hlink := arrivedIn_link code ⟨hmo, hw, href⟩ hses
    have hnote : (notify (.mechDone c.what .panel target) ((arrivedIn target code s).onMech fun k => { k with inFlight := none })).link.notices =
        s.link.notices ++ [.mechDone c.what .panel target] := by
      rw [notify_room (by simpa [State.roomFor, hlink] using hroom)]
      simp [hlink]
    simp [State.closed, hnote, arrivedIn_sched target code (s := s) (by simp [hs])]
    simp [arrivedIn, moveEnded, motorOff, camAt]
  · refine ⟨_, exec_lockWaitBegins h hs ht hc hl, ?_⟩
    simp [State.closed, moveEnded, motorOff, camAt, setState_sched, hs, hf, reelOf, setState_junctionAt, setState_servo_gate, State.now, motionOf]
    intro hg
    simp [hg, gateTimer]
  · intro m target code c s hm h hs ht hc hf ho hsil hslot hown hrr hsb hmo hw href hn hroom
    have hq : s.Quiet := ⟨hmo, hw, href⟩
    have hpart (x : State) (hx : camArrived (camAt code s) = freed c target x) (hxs : x.sched = s.sched) (hxr : x.reports = [])
        (hxl : x.link.notices = s.link.notices) : ∃ d, exec (.camTargetReached code) s = .next (ended d (freed c target x)) ∧
          (ended d (freed c target x)).link.notices = s.link.notices ++ [.mechDone c.what .panel target] ∧
          (ended d (freed c target x)).mech.inFlight = none ∧ (ended d (freed c target x)).mech.owner = .none ∧
          (ended d (freed c target x)).sched.slots = s.sched.slots ∧ (ended d (freed c target x)).sched.holder = none := by
      obtain ⟨d, hd⟩ := exec_freed h hc hx hxs hxr hn
      refine ⟨d, hd, ?_⟩
      have hnote : (freed c target x).link.notices = s.link.notices ++ [.mechDone c.what .panel target] := by
        rw [freed, report_link, notify_room (by simpa [State.roomFor, hxl] using hroom)]
        simp [hxl]
      simp [ended, State.closed, hnote]
      simp [freed, hxs, hn.2]
    simp only [List.mem_cons, Prod.mk.injEq, List.not_mem_nil, or_false] at hm
    refine ⟨fun he hin => ?_, fun hin => ?_⟩
    · rcases hm with ⟨rfl, rfl, rfl⟩ | ⟨rfl, rfl, rfl⟩ | ⟨rfl, rfl, rfl⟩ | ⟨rfl, rfl, rfl⟩ <;> cases he
      exact exec_ejectWaits h hs hc hin
    · have hsettled (m' : MState) (code' : CamCode) (hm' : inSession m' = false) (hrec : s.mech.state ≠ .record) :
          (settledIn m' code' s).sched = s.sched ∧ (settledIn m' code' s).reports = [] ∧
            (settledIn m' code' s).link.notices = s.link.notices := by
        refine ⟨arrivedIn_sched m' code' hrec, by simp [settledIn, arrivedIn, moveEnded, motorOff, camAt, h.2], ?_⟩
        rw [settledIn, State.onMech_link, arrivedIn_link code' hq hm']
      rcases hm with ⟨rfl, rfl, rfl⟩ | ⟨rfl, rfl, rfl⟩ | ⟨rfl, rfl, rfl⟩ | ⟨rfl, rfl, rfl⟩
      · obtain ⟨k1, k2, k3⟩ := hsettled .halt 3 rfl (by simp [hs])
        obtain ⟨d, hd, h1, h2, h3, h4, h5⟩ := hpart _ (camArrived_halt (.inl hs) ht hf ho hsil hslot hown) k1 k2 k3
        refine ⟨_, hd, ?_, ?_, ?_, ?_, ?_, ?_, h2, h3, h1, ?_, ?_, ?_, ?_, h4, h5, ?_⟩ <;>
          simp [ended, State.closed, freed, settledIn, arrivedIn, moveEnded, motorOff, camAt, reelOf]
      · obtain ⟨k1, k2, k3⟩ := hsettled .halt 3 rfl (by simp [hs])
        obtain ⟨d, hd, h1, h2, h3, h4, h5⟩ := hpart _ (camArrived_halt (.inr hs) ht hf ho hsil hslot hown) k1 k2 k3
        refine ⟨_, hd, ?_, ?_, ?_, ?_, ?_, ?_, h2, h3, h1, ?_, ?_, ?_, ?_, h4, h5, ?_⟩ <;>
          simp [ended, State.closed, freed, settledIn, arrivedIn, moveEnded, motorOff, camAt, reelOf]
      · obtain ⟨k1, k2, k3⟩ := hsettled .idle 1 rfl (by simp [hs])
        obtain ⟨d, hd, h1, h2, h3, h4, h5⟩ := hpart _ (camArrived_idle hs ht hf ho hsil hslot hown hrr hsb) k1 k2 k3
        refine ⟨_, hd, ?_, ?_, ?_, ?_, ?_, ?_, h2, h3, h1, ?_, ?_, ?_, ?_, h4, h5, ?_⟩ <;>
          simp [ended, State.closed, freed, settledIn, arrivedIn, moveEnded, motorOff, camAt, reelOf]
      · obtain ⟨k1, k2, k3⟩ := emptied_keeps hs h.2 hq
        obtain ⟨d, hd, h1, h2, h3, h4, h5⟩ := hpart _ (camArrived_empty hs (hin rfl) hf ho hsil hslot hown hrr hsb) k1 k2 k3
        refine ⟨_, hd, ?_, ?_, ?_, ?_, ?_, ?_, h2, h3, h1, ?_, ?_, ?_, ?_, h4, h5, ?_⟩ <;>
          simp [ended, State.closed, freed, emptied, emptiedFrom, emptyEffects, standardCurrent, markEmptied, posEmptied, moveEnded, motorOff, camAt, reelOf]
  · intro target code c d s hm h hs ht hc hf ho hsil hrp hmo hw href hh hroom
    obtain ⟨hmem, hrec, hses, hthr, hhalt⟩ := motionCode_spec hm
    have hlink := arrivedIn_link code ⟨hmo, hw, href⟩ hses
    have hsched := arrivedIn_sched target code (s := s) (by simp [hs])
    refine ⟨fun hslot hstop hd hown hl => ?_, fun hfor hl hse => ?_⟩
    · let z : State := notify (.mechDone c.what .panel target) ((arrivedIn target code s).onMech fun k => { k with inFlight := none })
      have hz : z.link.notices = s.link.notices ++ [.mechDone c.what .panel target] := by
        have h1 : ((arrivedIn target code s).onMech fun k => { k with inFlight := none }).roomFor 1 := by
          simp only [State.roomFor, State.onMech_link, hlink] at *; omega
        exact (notify_room h1).trans (by rw [State.onMech_link, hlink])
      have hclose : closeInFlight (.done (arrivedIn target code s).mech.state) (arrivedIn target code s) = z := by
        rw [closeInFlight_panel (c := c) (by simpa [arrivedIn, moveEnded, motorOff, camAt] using hf) ho hsil]
        simp [closingNotice, ho, arrivedIn, z]
      have hrun := runSlot_stop_shifts (d := d) (s := z) (by simpa [z, arrivedIn, moveEnded, motorOff, camAt] using hslot) hstop
        (by simpa [z, arrivedIn] using ⟨hthr, hhalt⟩) (by simpa [z, arrivedIn, moveEnded, motorOff, camAt] using hrp)
        (by simpa [z, arrivedIn, moveEnded, motorOff, camAt] using hown)
      refine ⟨_, (exec_reachMotion hmem h hs ht hc (fun _ => hl)).trans (by
        rw [complete, hclose, hrun, settle_kept (.inl (by simp)), finish_closed _ (by
          simp [startShift, driveCam, aimAt, z, arrivedIn, moveEnded, motorOff, camAt, h.2])]), ?_⟩
      have hpre := take_of_prefix (startShift_prefix .halt false (z.onMech fun m => { m with slot := none, fault := .none }))
      have hzs : (startShift .halt false (z.onMech fun m => { m with slot := none, fault := .none })).sched = s.sched := by
        rw [startShift_sched _ _ _ (.inl (by simpa [z, arrivedIn] using hrec))]
        simpa [z] using hsched
      simp only [State.onMech_link, hz, List.length_append, List.length_singleton] at hpre
      simp [State.closed, hpre, hzs]
      simp [startShift, driveCam, aimAt, camOf, reelOf, z, arrivedIn, moveEnded, motorOff, camAt, State.now]
    · have hfor' : target ∈ [MState.play, .cue, .fwind] := hfor
      refine ⟨_, exec_reachCovered hfor' h hs ht hc hl hf ho hsil hh hse, ?_⟩
      have hnote := leaderDiscards_notices c (x := arrivedIn target code s) (by simpa [State.roomFor, hlink] using hroom)
      have hst : (arrivedIn target code s).mech.state = target := by simp [arrivedIn]
      have hls := leaderDiscards_sched c (x := arrivedIn target code s) (.inl (by rw [hst]; exact hrec))
      rw [hlink, hst] at hnote
      simp [State.closed, hnote, hls, hsched]
      simp [leaderDiscards, leaderTold, because, startShift, driveCam, aimAt, camOf, reelOf, arrivedIn, moveEnded, motorOff, camAt, State.now]
  · intro j c v phase s h hs hj hw hf ho hsil hslot hse hh hv hd hg hp
    obtain ⟨hlock, hcap, -, -⟩ := drumPg_locks (s := s) hd hg hp
    obtain ⟨v', p, hx, hpc, -⟩ := drumPg_keeps (phase := phase) hd
    have hx' := exec_drumPg (phase := phase) h.1
    have hmech : (drumPg phase s).mech = s.mech := by rw [hx]
    have hcount : (drumPg phase s).pos.counter = s.pos.counter := by rw [hx]; exact hpc
    refine ⟨fun hwait => ?_, fun hlk _ hroom => ?_⟩
    · have hbl : (drumPg phase s).servo.bothLocked = false ∨ (j = .preRoll ∧ (drumPg phase s).pos.counter < (drumPg phase s).mech.junctionAt + 30) := by
        rw [hcount, hmech]
        refine hwait.imp_left fun hne => ?_
        simp [Servo.bothLocked, hlock, hcap, hne]
      rw [junctionTest_waits (by rw [hmech]; exact hj) hw hbl, finish_closed _ (by rw [hx]; exact h.2)] at hx'
      refine ⟨_, hx', hlock, ?_⟩
      rw [hx]
      exact ⟨rfl, ⟨rfl, rfl, rfl, rfl, rfl, rfl, rfl, rfl⟩, rfl, rfl, hpc⟩
    · have hboth : (drumPg phase s).servo.bothLocked = true := by simp [Servo.bothLocked, hlock, hcap, hlk]
      have hst : (drumPg phase s).mech.state = .recPause := by rw [hmech]; exact hs
      have hroom' : (drumPg phase s).roomFor 3 := by rw [hx]; exact hroom
      refine ⟨fun hpaused hframes hl hguard => ?_, fun hpaused hlw => ?_⟩
      · have hguard' : (drumPg phase s).guardSpan = none := by
          rw [← hguard, hx]
          simp [State.guardSpan, State.spans, State.std, hpc]
        rw [junctionTest_records (by rw [hmech]; exact hj) hw hboth (by rw [hmech]; exact hf) hpaused
            (by rw [hmech, hcount]; exact hframes),
          startRecording_panel (by rw [hmech]; exact hf) ho hsil (by rw [hmech]; exact hslot) (by rw [hx]; exact hl) hguard'] at hx'
        obtain ⟨k1, k2, k3, k4, k5, k6, k7, k8, k9⟩ := recordingBy_keeps c hst
        have hmem := recordingBy_mem (c := c) hst hroom'
        have hrep := recordingBy_reports c (drumPg phase s)
        rw [finish_deaf false _ (by rw [k9, hx]; exact hh) (fun _ => by rw [k5, hx]; exact hse)
          (by rw [hrep, hx]; simp [h.2]) (by rw [hrep, hx]; simp [h.2, Report.deaf])] at hx'
        refine ⟨_, hx', ?_⟩
        simp [State.closed, k1, k2, k3, k4, k6, k7, k8, k9, hmem, setState_servo_gate, gateTimer, reelOf, motionOf, State.now]
        rw [hx]
        simp [hpc]
      · subst hlw
        rw [junctionTest_rests (by rw [hmech]; exact hj) hboth (by rw [hmech]; exact hf) hpaused,
          junctionRest_panel (by rw [hmech]; exact hf) ho hsil (by rw [hmech]; exact hslot),
          finish_closed _ (by rw [hx]; simp [restedIn, h.2])] at hx'
        have hmem := restedIn_mem (c := c) hst hroom'
        refine ⟨_, hx', ?_⟩
        simp [State.closed, hmem]
        rw [hx]
        simp [restedIn, setState_servo_gate, gateTimer, reelOf, motionOf, setState_sched, hs, hpc]
  · intro c m duty interval env phase s h hs hj hf ho hsil hslot hse hh hw hread hm hfor hlo hhi hroom held
    obtain ⟨v, p, k, hx, hpc, hpm, hkl, hkw, hks⟩ :=
      replayedPulse_backspace (duty := duty) (phase := phase) (interval := interval) (env := env) hs hm hfor hse hw hread hh hlo hhi
    have hx' := exec_replayed (duty := duty) (phase := phase) (interval := interval) (env := env) h.1
    rw [hx] at hx'
    have hrest (x : State) (h1 : x.mech = s.mech) (h2 : x.sched = s.sched) (h3 : x.mark.list = s.mark.list) (h4 : x.reports = [])
        (h5 : x.link = s.link) (h6 : x.tuner = s.tuner) (h7 : x.clock = s.clock) :
        finish (junctionRest x) = (restedIn c x).closed ∧ held (restedIn c x).closed := by
      have hmem := restedIn_mem (c := c) (x := x) (by rw [h1]; exact hs) (by rw [State.roomFor, h5]; exact hroom)
      rw [junctionRest_panel (by rw [h1]; exact hf) ho hsil (by rw [h1]; exact hslot), finish_closed _ (by simp [restedIn, h4])]
      refine ⟨rfl, ?_⟩
      simp [held, State.closed, hmem]
      simp [restedIn, reelOf, motionOf, setState_sched, h1, h2, h3, h6, h7, hs]
    refine ⟨fun hreach => ?_, fun hshort => ?_, ?_⟩
    · rw [junctionTest_backspace (by exact hj), if_pos (by simp only [hpc]; exact hreach)] at hx'
      obtain ⟨hfin, hheld⟩ := hrest { s with servo := v, pos := p, mark := k } rfl rfl hkl h.2 rfl rfl rfl
      rw [hfin] at hx'
      exact ⟨_, hx', by simp [State.closed, restedIn, hpc], hheld⟩
    · rw [junctionTest_backspace (by exact hj), if_neg (by simp only [hpc]; omega), finish_closed _ (by exact h.2)] at hx'
      exact ⟨_, hx', hpc, rfl, hkl, rfl, rfl, rfl, rfl, rfl, rfl, rfl, rfl⟩
    · obtain ⟨hfin, hheld⟩ := hrest (s.onPins fun p => { p with leaderStart := true }) rfl rfl rfl h.2 rfl rfl rfl
      exact ⟨_, (exec_startLeader_backspace h.1 hs hj).trans (by rw [hfin]), by simp [State.closed, restedIn], hheld⟩

end Sys2Proof.Machine

/-!
Sys2Proof/Proofs/Closing: the state at the end of a step, block by block: the rest timers follow, LINK may begin a frame, and all else stays.
-/

namespace Sys2Proof.Machine

/-! ## The end of a step -/

@[simp] theorem closed_mech (x : State) : x.closed.mech = { x.mech with still := stillFollow x, halt := haltFollow x } := rfl
@[simp] theorem closed_pins (x : State) : x.closed.pins = x.pins := rfl
@[simp] theorem closed_servo (x : State) : x.closed.servo = x.servo := rfl
@[simp] theorem closed_pos (x : State) : x.closed.pos = x.pos := rfl
@[simp] theorem closed_mark (x : State) : x.closed.mark = x.mark := rfl
@[simp] theorem closed_tuner (x : State) : x.closed.tuner = x.tuner := rfl
@[simp] theorem closed_ldd (x : State) : x.closed.ldd = x.ldd := rfl
@[simp] theorem closed_clock (x : State) : x.closed.clock = x.clock := rfl
@[simp] theorem closed_sched (x : State) : x.closed.sched = x.sched := rfl
@[simp] theorem closed_box (x : State) : x.closed.box = x.box := rfl
@[simp] theorem closed_pwr (x : State) : x.closed.pwr = x.pwr := rfl
@[simp] theorem closed_reports (x : State) : x.closed.reports = x.reports := rfl
@[simp] theorem closed_pending (x : State) : x.closed.pending = x.pending := rfl
@[simp] theorem closed_link_reply (x : State) : x.closed.link.reply = x.link.reply := rfl
@[simp] theorem closed_link_notices (x : State) : x.closed.link.notices = x.link.notices := rfl
@[simp] theorem closed_link_holding (x : State) : x.closed.link.holding = x.link.holding := rfl
@[simp] theorem closed_link_overflow (x : State) : x.closed.link.overflow = x.link.overflow := rfl
@[simp] theorem closed_link_signalOk (x : State) : x.closed.link.signalOk = x.link.signalOk := rfl
@[simp] theorem closed_link_tapeEnd (x : State) : x.closed.link.tapeEnd = x.link.tapeEnd := rfl
@[simp] theorem closed_link_labelLost (x : State) : x.closed.link.labelLost = x.link.labelLost := rfl
@[simp] theorem closed_link_settings (x : State) : x.closed.link.settings = x.link.settings := rfl
@[simp] theorem closed_link_receiver (x : State) : x.closed.link.receiver = x.link.receiver := rfl
@[simp] theorem closed_link_bootPending (x : State) : x.closed.link.bootPending = x.link.bootPending := rfl
@[simp] theorem closed_link_framing (x : State) : x.closed.link.framing = x.link.framing := rfl
@[simp] theorem closed_link_drop (x : State) : x.closed.link.drop = x.link.drop := rfl
@[simp] theorem closed_link_servoSlip (x : State) : x.closed.link.servoSlip = x.link.servoSlip := rfl

/-! ## The end of a step that works its reports off -/

@[simp] theorem ended_mech (d : Option Nat) (x : State) :
    (ended d x).mech = { x.mech with still := stillFollow x, halt := haltFollow x } := rfl
@[simp] theorem ended_sched (d : Option Nat) (x : State) : (ended d x).sched = { x.sched with due := d } := rfl
@[simp] theorem ended_reports (d : Option Nat) (x : State) : (ended d x).reports = [] := rfl
@[simp] theorem ended_pins (d : Option Nat) (x : State) : (ended d x).pins = x.pins := rfl
@[simp] theorem ended_servo (d : Option Nat) (x : State) : (ended d x).servo = x.servo := rfl
@[simp] theorem ended_pos (d : Option Nat) (x : State) : (ended d x).pos = x.pos := rfl
@[simp] theorem ended_mark (d : Option Nat) (x : State) : (ended d x).mark = x.mark := rfl
@[simp] theorem ended_tuner (d : Option Nat) (x : State) : (ended d x).tuner = x.tuner := rfl
@[simp] theorem ended_ldd (d : Option Nat) (x : State) : (ended d x).ldd = x.ldd := rfl
@[simp] theorem ended_clock (d : Option Nat) (x : State) : (ended d x).clock = x.clock := rfl
@[simp] theorem ended_box (d : Option Nat) (x : State) : (ended d x).box = x.box := rfl
@[simp] theorem ended_pwr (d : Option Nat) (x : State) : (ended d x).pwr = x.pwr := rfl
@[simp] theorem ended_pending (d : Option Nat) (x : State) : (ended d x).pending = x.pending := rfl
@[simp] theorem ended_link_reply (d : Option Nat) (x : State) : (ended d x).link.reply = x.link.reply := rfl
@[simp] theorem ended_link_notices (d : Option Nat) (x : State) : (ended d x).link.notices = x.link.notices := rfl
@[simp] theorem ended_link_holding (d : Option Nat) (x : State) : (ended d x).link.holding = x.link.holding := rfl
@[simp] theorem ended_link_overflow (d : Option Nat) (x : State) : (ended d x).link.overflow = x.link.overflow := rfl
@[simp] theorem ended_link_signalOk (d : Option Nat) (x : State) : (ended d x).link.signalOk = x.link.signalOk := rfl
@[simp] theorem ended_link_tapeEnd (d : Option Nat) (x : State) : (ended d x).link.tapeEnd = x.link.tapeEnd := rfl
@[simp] theorem ended_link_labelLost (d : Option Nat) (x : State) : (ended d x).link.labelLost = x.link.labelLost := rfl
@[simp] theorem ended_link_settings (d : Option Nat) (x : State) : (ended d x).link.settings = x.link.settings := rfl
@[simp] theorem ended_link_receiver (d : Option Nat) (x : State) : (ended d x).link.receiver = x.link.receiver := rfl
@[simp] theorem ended_link_bootPending (d : Option Nat) (x : State) : (ended d x).link.bootPending = x.link.bootPending := rfl
@[simp] theorem ended_link_framing (d : Option Nat) (x : State) : (ended d x).link.framing = x.link.framing := rfl
@[simp] theorem ended_link_drop (d : Option Nat) (x : State) : (ended d x).link.drop = x.link.drop := rfl
@[simp] theorem ended_link_servoSlip (d : Option Nat) (x : State) : (ended d x).link.servoSlip = x.link.servoSlip := rfl

theorem closed_mech_halt (x : State) : x.closed.mech.halt = haltFollow x := rfl
theorem closed_mech_still (x : State) : x.closed.mech.still = stillFollow x := rfl
theorem ended_mech_halt (d : Option Nat) (x : State) : (ended d x).mech.halt = haltFollow x := rfl

/-! ## The end of a step whose reports change nothing -/

/-- The state at the end of a step that has worked its reports off without a trace. -/
def State.workedOff (x : State) : State := ({ x with reports := [] } : State).closed

/-- `finish_deaf`, with the end of the step by its name. -/
theorem finish_workedOff (b : Bool) (x : State) (hh : x.sched.holder = none) (hs : b = false → x.mark.search = none)
    (hl : x.reports.length ≤ 256) (hr : ∀ r ∈ x.reports, r.deaf b = true) : finish x = x.workedOff := finish_deaf b x hh hs hl hr

@[simp] theorem workedOff_mech (x : State) : x.workedOff.mech = { x.mech with still := stillFollow x, halt := haltFollow x } := rfl
@[simp] theorem workedOff_reports (x : State) : x.workedOff.reports = [] := rfl
@[simp] theorem workedOff_pins (x : State) : x.workedOff.pins = x.pins := rfl
@[simp] theorem workedOff_servo (x : State) : x.workedOff.servo = x.servo := rfl
@[simp] theorem workedOff_pos (x : State) : x.workedOff.pos = x.pos := rfl
@[simp] theorem workedOff_mark (x : State) : x.workedOff.mark = x.mark := rfl
@[simp] theorem workedOff_tuner (x : State) : x.workedOff.tuner = x.tuner := rfl
@[simp] theorem workedOff_ldd (x : State) : x.workedOff.ldd = x.ldd := rfl
@[simp] theorem workedOff_clock (x : State) : x.workedOff.clock = x.clock := rfl
@[simp] theorem workedOff_sched (x : State) : x.workedOff.sched = x.sched := rfl
@[simp] theorem workedOff_box (x : State) : x.workedOff.box = x.box := rfl
@[simp] theorem workedOff_pwr (x : State) : x.workedOff.pwr = x.pwr := rfl
@[simp] theorem workedOff_pending (x : State) : x.workedOff.pending = x.pending := rfl
@[simp] theorem workedOff_link_reply (x : State) : x.workedOff.link.reply = x.link.reply := rfl
@[simp] theorem workedOff_link_notices (x : State) : x.workedOff.link.notices = x.link.notices := rfl
@[simp] theorem workedOff_link_holding (x : State) : x.workedOff.link.holding = x.link.holding := rfl
@[simp] theorem workedOff_link_overflow (x : State) : x.workedOff.link.overflow = x.link.overflow := rfl
@[simp] theorem workedOff_link_signalOk (x : State) : x.workedOff.link.signalOk = x.link.signalOk := rfl
@[simp] theorem workedOff_link_tapeEnd (x : State) : x.workedOff.link.tapeEnd = x.link.tapeEnd := rfl
@[simp] theorem workedOff_link_labelLost (x : State) : x.workedOff.link.labelLost = x.link.labelLost := rfl
@[simp] theorem workedOff_link_settings (x : State) : x.workedOff.link.settings = x.link.settings := rfl
@[simp] theorem workedOff_link_receiver (x : State) : x.workedOff.link.receiver = x.link.receiver := rfl
@[simp] theorem workedOff_link_bootPending (x : State) : x.workedOff.link.bootPending = x.link.bootPending := rfl
@[simp] theorem workedOff_link_framing (x : State) : x.workedOff.link.framing = x.link.framing := rfl
@[simp] theorem workedOff_link_drop (x : State) : x.workedOff.link.drop = x.link.drop := rfl
@[simp] theorem workedOff_link_servoSlip (x : State) : x.workedOff.link.servoSlip = x.link.servoSlip := rfl

end Sys2Proof.Machine

/-!
Sys2Proof/Proofs/EventMovements: a movement that an event started comes to its end with no command in flight (R11, R15, R21, R22, R25, R29).
-/

namespace Sys2Proof.Machine

/-! ## The state announced -/

/-- R15: MECH_STATE with the cause of an event's movement, where there is one. -/
def announce (m : MState) (cause : Option StateCause) (x : State) : State :=
  match cause with | none => x | some c => notify (.mechState m c) x

/-- The same as the queue takes it. -/
def announced (m : MState) (cause : Option StateCause) : List Notice :=
  match cause with | none => [] | some c => [.mechState m c]

theorem announce_eq (m : MState) (cause : Option StateCause) {x : State} (h : x.roomFor 1) :
    ∃ l : Link, announce m cause x = (x.onLink fun _ => l) ∧ l.notices = x.link.notices ++ announced m cause ∧
      l.settings = x.link.settings := by
  cases cause with
  | none => exact ⟨x.link, rfl, by simp [announced], rfl⟩
  | some c => exact ⟨(notify (.mechState m c) x).link, rfl, notify_room h, by simp⟩

/-! ## HALT reached -/

/-- R15, R21, R22, R25: what follows in HALT with no command in flight, by the cause of the movement. -/
def haltReached (cause : Option StateCause) (x : State) : State :=
  match cause with
  | none => runSlot x
  | some .endLeader => if x.mech.slot.isSome then runSlot x else afterEndLeader x
  | some .startLeader => if x.mech.slot.isSome then runSlot x else notify (.mechState .halt .startLeader) x
  | some c => runSlot (notify (.mechState .halt c) x)

theorem camArrived_haltEvent {s : State} (hs : s.mech.state = .shifting) (ht : s.mech.target = .halt) (hf : s.mech.inFlight = none) :
    camArrived (camAt 3 s) = settle (haltReached s.mech.cause (settledIn .halt 3 s)) := by
  have h1 : (camAt 3 s).mech.state = .shifting := hs
  have h2 : (camAt 3 s).mech.target = .halt := ht
  have h3 : (camAt 3 s).mech.cause = s.mech.cause := rfl
  have hf' : (settledIn .halt 3 s).mech.inFlight = none := by simpa [settledIn, arrivedIn, moveEnded, motorOff, camAt] using hf
  simp only [camArrived, h1, reachTarget, h2, reachHalt, h3]
  rw [show ((setState .halt none false (moveEnded (camAt 3 s))).onMech fun m => { m with cause := none }) = settledIn .halt 3 s from rfl, hf']
  rfl

/-- R21: after an end leader, where no auto-rewind comes. -/
theorem afterEndLeader_stays {x : State} (hst : x.mech.state = .halt) (hr : x.mech.recoveryPending = false)
    (h : x.link.settings.autoRewind = false ∨ x.mech.owner.isTimer = true ∨ x.pins.leaderStart = true) :
    afterEndLeader x = notify (.mechState .halt .endLeader) x := by
  simp only [afterEndLeader]
  by_cases ha : x.link.settings.autoRewind = true ∧ x.mech.owner.isTimer = false
  · have hl : x.pins.leaderStart = true := by
      rcases h with h | h | h
      · rw [ha.1] at h; exact absurd h (by simp)
      · rw [ha.2] at h; exact absurd h (by simp)
      · exact h
    have hx : execute { what := .rwind, origin := .panel, silent := true } x = (x, .refused .atStart) :=
      execute_refused (by simp [mechChecks, hst, hr, ownerRefuses, ha.2, badFrom, recordForm, forwardTarget, reverseTarget, hl])
    rw [if_pos ha, hx]
  · rw [if_neg ha]

/-- R15: with nothing stored and no auto-rewind, HALT is announced with its cause. -/
theorem haltReached_announces {cause : Option StateCause} {x : State} (hslot : x.mech.slot = none) (hst : x.mech.state = .halt)
    (hr : x.mech.recoveryPending = false)
    (h : cause = some .endLeader → x.link.settings.autoRewind = false ∨ x.mech.owner.isTimer = true ∨ x.pins.leaderStart = true) :
    haltReached cause x = announce .halt cause x := by
  cases cause with
  | none => exact runSlot_none hslot
  | some c =>
    cases c with
    | endLeader => simp [haltReached, hslot, afterEndLeader_stays hst hr (h rfl), announce]
    | startLeader => simp [haltReached, hslot, announce]
    | _ => exact runSlot_none (by simpa using hslot)

/-- R21: the auto-rewind, of the owner PANEL, without reply or closing notice. -/
def autoRewind : Cmd := { what := .rwind, origin := .panel, silent := true }

theorem afterEndLeader_rewinds {x : State} (hst : x.mech.state = .halt) (hr : x.mech.recoveryPending = false)
    (ha : x.link.settings.autoRewind = true) (ho : x.mech.owner.isTimer = false) (hl : x.pins.leaderStart = false) :
    ∃ l, (l = [] ∨ l = [Report.evaluate]) ∧
      afterEndLeader x = (startShift .rwind false (taken l x)).onMech fun m => { m with inFlight := some autoRewind } := by
  have how : x.mech.owner = .none ∨ x.mech.owner = .panel := by
    cases hx : x.mech.owner with
    | timer k => simp [hx, Owner.isTimer] at ho
    | none => exact .inl rfl
    | panel => exact .inr rfl
  obtain ⟨l, hl', he⟩ := claimPanel_eq (s := x) (by simp [hst]) how
  refine ⟨l, hl', ?_⟩
  have hc : mechChecks autoRewind x = none := by
    simp [mechChecks, autoRewind, hst, hr, ownerRefuses, ho, badFrom, recordForm, forwardTarget, reverseTarget, hl]
  have hx : execute autoRewind x = takesTime autoRewind (startShift .rwind false (taken l x)) := by
    rw [execute_passed hc, if_neg (by simp [autoRewind])]
    have : claimPanel autoRewind.origin (clearFault x) = taken l x := he
    rw [this]
    simp [mechWork, autoRewind, goTo, taken, hst]
  simp only [afterEndLeader, ha, ho]
  rw [show ({ what := .rwind, origin := .panel, silent := true } : Cmd) = autoRewind from rfl, hx]
  simp [takesTime]

/-- R15: a stored STOP runs in HALT, announced before it but for a leader's stop. -/
theorem haltReached_stored {cause : Option StateCause} {x : State} {d : Cmd} (hslot : x.mech.slot = some d) :
    haltReached cause x = runSlot (announce .halt (if cause = some .endLeader ∨ cause = some .startLeader then none else cause) x) := by
  cases cause with
  | none => simp [haltReached, announce]
  | some c => cases c <;> simp [haltReached, announce, hslot]

theorem runSlot_stop_unthreads {d : Cmd} {s : State} (h : s.mech.slot = some d) (hw : d.what = .stop)
    (hm : s.mech.state = .halt) (hr : s.mech.recoveryPending = false) (hown : s.mech.owner.isTimer = false) : runSlot s =
      (startUnthread .idle (s.onMech fun m => { m with slot := none, fault := .none })).onMech fun m => { m with inFlight := some d } := by
  refine runSlot_stop h hw (by simp [hm]) hr hown ?_
  simp [mechWork, hw, hm]
  rfl

end Sys2Proof.Machine

/-!
Sys2Proof/Proofs/EventEnds: the ends of O9: HALT after an event's shift, IDLE after an event's or a recovery run's unthreading.
-/

namespace Sys2Proof.Machine

/-! ## What every such end does -/

/-- R11: the owner after settling. -/
def Owner.settled (o : Owner) : Owner := if o = .panel then .none else o

/-- R11: the recorder free where PANEL had it, reports handed on. -/
def ownerSettled (l : List Report) (x : State) : State :=
  { x with mech := { x.mech with owner := x.mech.owner.settled }, reports := x.reports ++ l }

@[simp] theorem ownerSettled_sched (l : List Report) (x : State) : (ownerSettled l x).sched = x.sched := rfl
@[simp] theorem ownerSettled_reports (l : List Report) (x : State) : (ownerSettled l x).reports = x.reports ++ l := rfl
@[simp] theorem taken_sched (l : List Report) (x : State) : (taken l x).sched = x.sched := rfl
@[simp] theorem taken_link (l : List Report) (x : State) : (taken l x).link = x.link := rfl
@[simp] theorem taken_reports (l : List Report) (x : State) : (taken l x).reports = x.reports ++ l := rfl

theorem settle_eq {x : State} (hf : x.mech.inFlight = none) (hm : x.mech.state.settles) :
    ∃ l, (l = [] ∨ l = [Report.evaluate]) ∧ settle x = ownerSettled l x := by
  by_cases ho : x.mech.owner = .panel
  · exact ⟨[.evaluate], .inr rfl, by rw [settle_freed hf hm ho]; simp [ownerSettled, Owner.settled, ho, report, State.onMech]⟩
  · exact ⟨[], .inl rfl, by rw [settle_kept (.inr (.inr ho))]; simp [ownerSettled, Owner.settled, ho]⟩


theorem settledIn_sched (m : MState) (code : CamCode) {s : State} (h : s.mech.state ≠ .record) : (settledIn m code s).sched = s.sched :=
  arrivedIn_sched m code h

theorem settledIn_link {m : MState} (code : CamCode) {s : State} (h : s.Quiet) (hm : inSession m = false) :
    (settledIn m code s).link = s.link := arrivedIn_link code h hm

theorem State.noOccurrence.of_sched {s x : State} (hn : s.noOccurrence) (h : x.sched = s.sched) : x.noOccurrence := by
  rw [State.noOccurrence, h]
  exact hn

theorem Owner.settled_isTimer (o : Owner) : o.settled.isTimer = o.isTimer := by cases o <;> rfl

/-- R20: in HALT with nothing in flight or stored the halt timer starts, unless the owning entry is PREPARING. -/
theorem haltFollow_starts {x : State} (hm : x.mech.state = .halt) (hf : x.mech.inFlight = none) (hs : x.mech.slot = none)
    (ho : x.mech.owner.isTimer = false) (hh : x.mech.halt = none) : haltFollow x = some { elapsed := 0, since := some x.now } := by
  have hsus : haltSuspended x = false := by
    unfold haltSuspended
    split
    next k hk => simp [hk, Owner.isTimer] at ho
    next => rfl
  simp [haltFollow, hm, Mech.quiet, hf, hs, hh, hsus]

theorem quiet_settledIn {m : MState} (code : CamCode) {s : State} (h : s.Quiet) (hm : inSession m = false)
    (hmo : motionOf m none = none) : (settledIn m code s).Quiet := by
  obtain ⟨-, hw, hr⟩ := setState_quiet none false (quiet_camAt code h) hm
  exact ⟨by simp [settledIn, arrivedIn, hmo], hw, hr⟩

theorem State.Quiet.taken {s : State} (h : s.Quiet) (l : List Report) : (Machine.taken l s).Quiet := ⟨h.motion, h.writer, h.reference⟩
theorem State.Quiet.onMech {s : State} (h : s.Quiet) (f : Mech → Mech) : (s.onMech f).Quiet := ⟨h.motion, h.writer, h.reference⟩
theorem State.Quiet.onLink {s : State} (h : s.Quiet) (f : Link → Link) : (s.onLink f).Quiet := ⟨h.motion, h.writer, h.reference⟩
theorem State.Quiet.onPins {s : State} (h : s.Quiet) (f : Pins → Pins) : (s.onPins f).Quiet := ⟨h.motion, h.writer, h.reference⟩

/-- A quiet state's shift or unthreading says nothing. -/
theorem startShift_link {m : MState} {b : Bool} {s : State} (h : s.Quiet) : (startShift m b s).link = s.link := by
  simpa only [startShift, driveCam, aimAt, State.onMech_link] using (setState_quiet none b h rfl).1

theorem startUnthread_link {m : MState} {s : State} (h : s.Quiet) : (startUnthread m s).link = s.link := by
  simpa only [startUnthread, driveCam, aimAt, State.onMech_link] using (setState_quiet none false h rfl).1

theorem startInsert_link {s : State} (h : s.Quiet) : (startInsert s).link = s.link := by
  simpa only [startInsert, driveCam, aimAt, State.onMech_link] using (setState_quiet none false h rfl).1

theorem startInsert_sched {s : State} (h : s.mech.state ≠ .record) : (startInsert s).sched = s.sched := by
  simp only [startInsert, driveCam, aimAt, State.onMech_sched, setState_sched _ _ _ s (.inl h)]

theorem startThread_sched {m : MState} {s : State} (h : s.mech.state ≠ .record) : (startThread m s).sched = s.sched := by
  simp only [startThread, driveCam, aimAt, State.onMech_sched, setState_sched _ _ _ s (.inl h)]

theorem startThread_link {m : MState} {s : State} (h : s.Quiet) : (startThread m s).link = s.link := by
  simpa only [startThread, driveCam, aimAt, State.onMech_link] using (setState_quiet none false h rfl).1

theorem startUnthread_sched (m : MState) {s : State} (h : s.mech.state ≠ .record ∨ s.sched.holder = none) : (startUnthread m s).sched = s.sched := by
  simp only [startUnthread, driveCam, aimAt, State.onMech_sched, setState_sched _ _ _ s (h.imp_right .inr)]

/-! ## HALT -/

/-- R15: an event's shift ends in HALT, announced with its cause. -/
theorem exec_haltAnnounced {s : State} (h : s.hears) (hs : s.mech.state = .shifting) (ht : s.mech.target = .halt)
    (hc : s.mech.camTarget = some 3) (hf : s.mech.inFlight = none) (hr : s.mech.recoveryPending = false) (hq : s.Quiet)
    (hn : s.noOccurrence) (hroom : s.roomFor 1) (hslot : s.mech.slot = none)
    (hend : s.mech.cause = some .endLeader →
        s.link.settings.autoRewind = false ∨ s.mech.owner.isTimer = true ∨ s.pins.leaderStart = true) :
    ∃ (d : Option Nat) (l : List Report) (k : Link), k.notices = s.link.notices ++ announced .halt s.mech.cause ∧
      exec (.camTargetReached 3) s = .next (ended d (ownerSettled l ((settledIn .halt 3 s).onLink fun _ => k))) := by
  have hlink := settledIn_link (m := .halt) 3 hq rfl
  obtain ⟨k, hk, hkn, -⟩ := announce_eq .halt s.mech.cause (x := settledIn .halt 3 s) (by rw [State.roomFor, hlink]; exact hroom)
  have hreach := haltReached_announces (cause := s.mech.cause) (x := settledIn .halt 3 s)
    (by simpa [settledIn, arrivedIn, moveEnded, motorOff, camAt] using hslot) (by simp [settledIn, arrivedIn])
    (by simpa [settledIn, arrivedIn, moveEnded, motorOff, camAt] using hr)
    (by rw [hlink]; simpa [settledIn, arrivedIn, moveEnded, motorOff, camAt] using hend)
  obtain ⟨l, hl, hset⟩ := settle_eq (x := ((settledIn .halt 3 s).onLink fun _ => k))
    (by simpa [settledIn, arrivedIn, moveEnded, motorOff, camAt] using hf) (.inl (by simp [settledIn, arrivedIn]))
  obtain ⟨d, hd⟩ := finish_quiet (ownerSettled l ((settledIn .halt 3 s).onLink fun _ => k))
    (hn.of_sched (by rw [ownerSettled_sched, State.onLink_sched, settledIn_sched .halt 3 (by simp [hs])]))
    (by simpa [ownerSettled, settledIn, arrivedIn, moveEnded, motorOff, camAt, h.2] using hl)
  refine ⟨d, l, k, by rw [hkn, hlink], ?_⟩
  rw [exec_camArrives h hc, camArrived_haltEvent hs ht hf, hreach, hk, hset, hd]
  rfl

/-- R21: after an end leader with auto-rewind the tape is rewound. -/
theorem exec_autoRewinds {s : State} (h : s.hears) (hs : s.mech.state = .shifting) (ht : s.mech.target = .halt)
    (hc : s.mech.camTarget = some 3) (hf : s.mech.inFlight = none) (hr : s.mech.recoveryPending = false) (hq : s.Quiet)
    (hn : s.noOccurrence) (hslot : s.mech.slot = none) (hcause : s.mech.cause = some .endLeader)
    (ha : s.link.settings.autoRewind = true) (ho : s.mech.owner.isTimer = false) (hl : s.pins.leaderStart = false) :
    ∃ (d : Option Nat) (l : List Report), exec (.camTargetReached 3) s =
      .next (ended d ((startShift .rwind false (taken l (settledIn .halt 3 s))).onMech fun m => { m with inFlight := some autoRewind })) := by
  have hlink := settledIn_link (m := .halt) 3 hq rfl
  obtain ⟨l, hlr, he⟩ := afterEndLeader_rewinds (x := settledIn .halt 3 s) (by simp [settledIn, arrivedIn])
    (by simpa [settledIn, arrivedIn, moveEnded, motorOff, camAt] using hr) (by rw [hlink]; exact ha)
    (by simpa [settledIn, arrivedIn, moveEnded, motorOff, camAt] using ho)
    (by simpa [settledIn, arrivedIn, moveEnded, motorOff, camAt] using hl)
  have hreach : haltReached s.mech.cause (settledIn .halt 3 s) = afterEndLeader (settledIn .halt 3 s) := by
    simp only [hcause, haltReached]
    rw [if_neg (by simpa [settledIn, arrivedIn, moveEnded, motorOff, camAt] using hslot)]
  have hsched : (startShift .rwind false (taken l (settledIn .halt 3 s))).sched = s.sched := by
    rw [startShift_sched _ _ _ (.inl (by simp [taken, settledIn, arrivedIn])), taken_sched, settledIn_sched .halt 3 (by simp [hs])]
  obtain ⟨d, hd⟩ := finish_quiet
    ((startShift .rwind false (taken l (settledIn .halt 3 s))).onMech fun m => { m with inFlight := some autoRewind })
    (hn.of_sched (by rw [State.onMech_sched, hsched]))
    (by simpa [startShift, driveCam, aimAt, taken, settledIn, arrivedIn, moveEnded, motorOff, camAt, h.2] using hlr)
  refine ⟨d, l, ?_⟩
  rw [exec_camArrives h hc, camArrived_haltEvent hs ht hf, hreach, he, settle_kept (.inl (by simp)), hd]
  rfl

/-- R15: a stored STOP runs at HALT_POS, what is announced before it told by `announced`. -/
theorem exec_haltStored {s : State} {c : Cmd} (h : s.hears) (hs : s.mech.state = .shifting) (ht : s.mech.target = .halt)
    (hc : s.mech.camTarget = some 3) (hf : s.mech.inFlight = none) (hr : s.mech.recoveryPending = false) (hq : s.Quiet)
    (hroom : s.roomFor 1) (hslot : s.mech.slot = some c) (hw : c.what = .stop) (ho : s.mech.owner.isTimer = false) :
    ∃ k : Link, k.notices = s.link.notices ++
        announced .halt (if s.mech.cause = some .endLeader ∨ s.mech.cause = some .startLeader then none else s.mech.cause) ∧
      exec (.camTargetReached 3) s = .next
        ((startUnthread .idle (((settledIn .halt 3 s).onLink fun _ => k).onMech fun m => { m with slot := none, fault := .none })).onMech
          fun m => { m with inFlight := some c }).closed := by
  have hlink := settledIn_link (m := .halt) 3 hq rfl
  have hx : (settledIn .halt 3 s).mech.slot = some c := by simpa [settledIn, arrivedIn, moveEnded, motorOff, camAt] using hslot
  obtain ⟨k, hk, hkn, -⟩ := announce_eq .halt
    (if s.mech.cause = some .endLeader ∨ s.mech.cause = some .startLeader then none else s.mech.cause)
    (x := settledIn .halt 3 s) (by rw [State.roomFor, hlink]; exact hroom)
  have hrun := runSlot_stop_unthreads (s := ((settledIn .halt 3 s).onLink fun _ => k)) hx hw (by simp [settledIn, arrivedIn])
    (by simpa [settledIn, arrivedIn, moveEnded, motorOff, camAt] using hr)
    (by simpa [settledIn, arrivedIn, moveEnded, motorOff, camAt] using ho)
  refine ⟨k, by rw [hkn, hlink], ?_⟩
  rw [exec_camArrives h hc, camArrived_haltEvent hs ht hf, haltReached_stored hx, hk, hrun, settle_kept (.inl (by simp)),
    finish_closed _ (by simp [startUnthread, driveCam, aimAt, settledIn, arrivedIn, moveEnded, motorOff, camAt, h.2])]

/-! ## IDLE and EJECT -/

/-- What MECH hands on where it settles: an evaluation where PANEL loses the recorder, the end of a recovery run. -/
def restReports (x : State) : List Report :=
  (if x.mech.owner = .panel then [.evaluate] else []) ++ (if x.mech.recoveryRun then [.recoveryEnded] else [])

/-- R11, R29: the recorder free where PANEL had it, and no recovery run under way. -/
def atRest (x : State) : State :=
  { x with mech := { x.mech with owner := x.mech.owner.settled, recoveryRun := false }, reports := x.reports ++ restReports x }

@[simp] theorem atRest_sched (x : State) : (atRest x).sched = x.sched := rfl
@[simp] theorem atRest_link (x : State) : (atRest x).link = x.link := rfl
@[simp] theorem atRest_pwr (x : State) : (atRest x).pwr = x.pwr := rfl

theorem recoveryEnds_eq (x : State) : recoveryEnds x = { x with
    mech := { x.mech with recoveryRun := false }, reports := x.reports ++ (if x.mech.recoveryRun then [.recoveryEnded] else []) } := by
  unfold recoveryEnds
  split
  next => simp [report, State.onMech]
  next h =>
    rw [Bool.not_eq_true] at h
    simp only [List.append_nil]
    rw [← h]

/-- R11, R29: the mechanism settles with nothing stored and no standby stop. -/
theorem settlesAtRest {x : State} (hf : x.mech.inFlight = none) (hm : x.mech.state.settles) (hb : x.mech.standbyStop = false) :
    standbyEnds true (recoveryEnds (settle x)) = atRest x := by
  have hs : settle x = ownerSettled (if x.mech.owner = .panel then [.evaluate] else []) x := by
    by_cases ho : x.mech.owner = .panel
    · rw [settle_freed hf hm ho]; simp [ownerSettled, Owner.settled, ho, report, State.onMech]
    · rw [settle_kept (.inr (.inr ho))]; simp [ownerSettled, Owner.settled, ho]
  rw [hs, recoveryEnds_eq]
  simp [standbyEnds, ownerSettled, hb, atRest, restReports, List.append_assoc]

theorem finish_atRest {x : State} (hn : x.noOccurrence) (hr : x.reports = []) (hm : x.mech.recoveryRun = true → x.pwr.resetMark = false) :
    ∃ d, finish (atRest x) = ended d (atRest x) := by
  have hl : (atRest x).reports = restReports x := by simp [atRest, hr]
  refine finish_harmless true (atRest x) hn (by simp) ?_ fun r h => ?_
  · rw [hl, restReports]; split <;> split <;> simp
  · rw [hl, restReports, List.mem_append] at h
    rcases h with h | h
    · split at h <;> simp at h; exact .inl (by simp [h, Report.idle])
    · split at h
      next hrun => exact .inr ⟨by simpa using h, hm hrun⟩
      next => simp at h

/-- R2, R15: MECH seated by an unthreading, the tab read at the end of a recovery run. -/
def idleAgain (s : State) : State :=
  (if s.mech.recoveryRun then readTab (arrivedIn .idle 1 s) else arrivedIn .idle 1 s).onMech fun m => { m with cause := none }

theorem idleAgain_keeps (s : State) : (idleAgain s).sched = (arrivedIn .idle 1 s).sched ∧ (idleAgain s).link = (arrivedIn .idle 1 s).link ∧
    (idleAgain s).reports = s.reports ∧ (idleAgain s).pwr = s.pwr ∧ (idleAgain s).mech.state = .idle ∧
    (idleAgain s).mech.inFlight = s.mech.inFlight ∧ (idleAgain s).mech.slot = s.mech.slot ∧
    (idleAgain s).mech.standbyStop = s.mech.standbyStop ∧ (idleAgain s).mech.recoveryRun = s.mech.recoveryRun := by
  simp only [idleAgain]
  split <;> simp [readTab, arrivedIn, moveEnded, motorOff, camAt]

/-- R15, R29: an event's unthreading ends in IDLE with its cause. -/
theorem exec_idleAnnounced {s : State} (h : s.hears) (hs : s.mech.state = .unthreading) (ht : s.mech.target = .idle)
    (hc : s.mech.camTarget = some 1) (hf : s.mech.inFlight = none) (hslot : s.mech.slot = none) (hb : s.mech.standbyStop = false)
    (hn : s.noOccurrence) (hm : s.mech.recoveryRun = true → s.pwr.resetMark = false)
    (hcause : s.mech.recoveryRun = true ∨ s.mech.cause = some .rest) :
    ∃ d, exec (.camTargetReached 1) s = .next (ended d (atRest
      (notify (.mechState .idle (if s.mech.recoveryRun then .recovery else .rest)) (idleAgain s)))) := by
  obtain ⟨k1, k2, k3, k4, k5, k6, k7, k8, k9⟩ := idleAgain_keeps s
  have h1 : (camAt 1 s).mech.state = .unthreading := hs
  have h2 : (camAt 1 s).mech.target = .idle := ht
  have h3 : (camAt 1 s).mech.recoveryRun = s.mech.recoveryRun := rfl
  have h4 : (camAt 1 s).mech.cause = s.mech.cause := rfl
  have hwhy : (if s.mech.recoveryRun = true then some StateCause.recovery else s.mech.cause) =
      some (if s.mech.recoveryRun then .recovery else .rest) := by
    rcases hcause with hr | hr
    · simp [hr]
    · simp only [hr]; split <;> rfl
  have hreach : camArrived (camAt 1 s) = standbyEnds true (recoveryEnds (settle (runSlot
      (notify (.mechState .idle (if s.mech.recoveryRun then .recovery else .rest)) (idleAgain s))))) := by
    simp only [camArrived, h1, h2, reachIdle, h3, h4, hwhy]
    rw [show ((if s.mech.recoveryRun = true then readTab (setState .idle none false (moveEnded (camAt 1 s))) else
      setState .idle none false (moveEnded (camAt 1 s))).onMech fun m => { m with cause := none }) = idleAgain s from rfl, k6, hf]
  rw [runSlot_none (by rw [notify_mech, k7, hslot]), settlesAtRest (by rw [notify_mech, k6, hf])
    (.inr (.inl (by rw [notify_mech, k5]))) (by rw [notify_mech, k8, hb])] at hreach
  obtain ⟨d, hd⟩ := finish_atRest (x := notify (.mechState .idle (if s.mech.recoveryRun then .recovery else .rest)) (idleAgain s))
    (hn.of_sched (by rw [notify_sched, k1, arrivedIn_sched _ _ (by simp [hs])])) (by rw [notify_reports, k3, h.2])
    (by rw [notify_mech, k9, notify_pwr, k4]; exact hm)
  exact ⟨d, by rw [exec_camArrives h hc, hreach, hd]⟩

/-- R29: a recovery run that reads EJECT. -/
theorem exec_recoveryEjects {s : State} (h : s.hears) (hs : s.mech.state = .unthreading) (hc : s.mech.camTarget = some 1)
    (hr : s.mech.recoveryRun = true) :
    exec (.camTargetReached 0) s = .next (finish (recoverAtEject (moveEnded (camAt 0 s)))) := by
  rw [exec_camTarget 0 h.1, camReports_eq 0 hc, if_neg (by decide), if_pos ⟨rfl, hr, hs⟩]

/-- R28: MECH without a cassette, at the end of a movement. -/
def emptyAfter (x : State) : State := emptiedFrom (setState .empty none false (moveEnded x))

/-- R28, R29: EMPTY at the end of a recovery run, with nothing in flight or stored. -/
theorem becomeEmpty_recovered {x : State} (hr : x.mech.recoveryRun = true) (hf : x.mech.inFlight = none) (hslot : x.mech.slot = none)
    (hb : x.mech.standbyStop = false) : becomeEmpty x = atRest (notify (.mechState .empty .recovery) (emptyAfter x)) := by
  have hx : (emptyAfter x).mech.inFlight = none ∧ (emptyAfter x).mech.slot = none ∧ (emptyAfter x).mech.state = .empty ∧
      (emptyAfter x).mech.standbyStop = false := by
    simp [emptyAfter, emptiedFrom, emptyEffects, standardCurrent, markEmptied, posEmptied, moveEnded, motorOff, hf, hslot, hb]
  obtain ⟨k1, k2, k3, k4⟩ := hx
  rw [← settlesAtRest (by rw [notify_mech, k1]) (.inr (.inr (by rw [notify_mech, k3]))) (by rw [notify_mech, k4])]
  simp only [becomeEmpty, hr, if_true]
  rw [show ((emptyEffects (setState .empty none false (moveEnded x))).onMech fun m =>
      { m with fault := .none, cause := none, ejectRead := false }) = emptyAfter x from rfl, closeInFlight_none k1,
    runSlot_none (by rw [notify_mech, k2])]

theorem emptyAfter_keeps {x : State} (hs : x.mech.state ≠ .record) (h : x.Quiet) :
    (emptyAfter x).sched = x.sched ∧ (emptyAfter x).reports = x.reports ∧ (emptyAfter x).link.notices = x.link.notices ∧
      (emptyAfter x).pwr = x.pwr ∧ (emptyAfter x).mech.recoveryRun = x.mech.recoveryRun := by
  have hq : (moveEnded x).Quiet := ⟨h.motion, h.writer, h.reference⟩
  refine ⟨?_, ?_, ?_, ?_, ?_⟩
  · rw [emptyAfter, emptiedFrom_sched, setState_sched _ _ _ _ (.inl (by simpa [moveEnded, motorOff] using hs))]
    rfl
  · rw [emptyAfter, emptiedFrom_reports]
    simp [moveEnded, motorOff]
  · rw [emptyAfter, emptiedFrom_notices, (setState_quiet none false hq rfl).1]
    rfl
  all_goals simp [emptyAfter, emptiedFrom, emptyEffects, standardCurrent, markEmptied, posEmptied, moveEnded, motorOff]

theorem idleAgain_link {s : State} (h : s.Quiet) : (idleAgain s).link = s.link :=
  (idleAgain_keeps s).2.1.trans (arrivedIn_link 1 h rfl)

theorem exec_recoveryEmpties {s : State} (h : s.hears) (hs : s.mech.state = .unthreading) (hc : s.mech.camTarget = some 1)
    (hr : s.mech.recoveryRun = true) (hin : s.pins.cassetteIn = false) (hf : s.mech.inFlight = none) (hslot : s.mech.slot = none)
    (hb : s.mech.standbyStop = false) (hq : s.Quiet) (hn : s.noOccurrence) (hm : s.pwr.resetMark = false) :
    ∃ d, exec (.camTargetReached 0) s = .next (ended d (atRest
      (notify (.mechState .empty .recovery) (emptyAfter (moveEnded (camAt 0 s)))))) := by
  obtain ⟨k1, k2, k3, k4, k5⟩ := emptyAfter_keeps (x := moveEnded (camAt 0 s)) (by simp [moveEnded, motorOff, camAt, hs]) (quiet_camAt 0 hq)
  have hbe : recoverAtEject (moveEnded (camAt 0 s)) =
      atRest (notify (.mechState .empty .recovery) (emptyAfter (moveEnded (camAt 0 s)))) := by
    have hin' : (moveEnded (camAt 0 s)).pins.cassetteIn = false := hin
    rw [← becomeEmpty_recovered (by simpa [moveEnded, motorOff, camAt] using hr) (by simpa [moveEnded, motorOff, camAt] using hf)
      (by simpa [moveEnded, motorOff, camAt] using hslot) (by simpa [moveEnded, motorOff, camAt] using hb)]
    rw [recoverAtEject, if_neg (by rw [hin']; decide)]
  obtain ⟨d, hd⟩ := finish_atRest (x := notify (.mechState .empty .recovery) (emptyAfter (moveEnded (camAt 0 s))))
    (hn.of_sched (by rw [notify_sched, k1]; rfl)) (by rw [notify_reports, k2]; exact h.2) (fun _ => by rw [notify_pwr, k4]; exact hm)
  exact ⟨d, by rw [exec_recoveryEjects h hs hc hr, hbe, hd]⟩

theorem exec_recoveryInserts {s : State} (h : s.hears) (hs : s.mech.state = .unthreading) (hc : s.mech.camTarget = some 1)
    (hr : s.mech.recoveryRun = true) (hin : s.pins.cassetteIn = true) :
    exec (.camTargetReached 0) s = .next (startInsert (moveEnded (camAt 0 s))).closed := by
  have hin' : (moveEnded (camAt 0 s)).pins.cassetteIn = true := hin
  have hre : recoverAtEject (moveEnded (camAt 0 s)) = startInsert (moveEnded (camAt 0 s)) := by
    rw [recoverAtEject, if_pos hin']
  rw [exec_recoveryEjects h hs hc hr, hre, finish_closed _ (by simp [startInsert, driveCam, aimAt, moveEnded, motorOff, camAt, h.2])]

end Sys2Proof.Machine

/-!
Sys2Proof/Proofs/EventCauses: O9, from the ends of the movements that an event started.
-/

namespace Sys2Proof.Machine

/-- Settles O9: each clause by the step of its movement's end. -/
theorem eventMovementsSettleWithTheirCause : Obligations.EventMovementsSettleWithTheirCause := by
  refine ⟨fun c s h hs ht hc hf hsb hr hse hw hmo href hn hroom => ⟨fun hslot hend => ?_, fun hslot hcause ha ho hl => ?_, fun hslot hstop hd ho => ?_⟩,
    fun s h hs ht hc hf hslot hsb hse hw hmo href hn hroom hm => ⟨fun hcause => ?_, fun hrun => ⟨fun hin => ?_, fun hin => ?_⟩⟩⟩
  · obtain ⟨d, l, k, hk, he⟩ := exec_haltAnnounced h hs ht hc hf hr ⟨hmo, hw, href⟩ hn hroom hslot hend
    have hsched := settledIn_sched .halt 3 (s := s) (by simp [hs])
    refine ⟨_, he, ?kept, ?_, ?_, ?_, ?_, ?_, ?_, ?_, ?told, fun ho hh => ?halt⟩
    case kept =>
      simp only [ended_sched, ownerSettled_sched, State.onLink_sched, hsched]
      simp [ownerSettled, settledIn, arrivedIn, moveEnded, motorOff, camAt, reelOf, hslot, hn.2]
    case told => exact hk
    case halt =>
      rw [ended_mech_halt, haltFollow_starts] <;>
        simp [ownerSettled, Owner.settled_isTimer, settledIn, arrivedIn, moveEnded, motorOff, camAt, hslot, hf, ho, hh, State.now]
    all_goals simp [ownerSettled, Owner.settled, settledIn, arrivedIn, moveEnded, motorOff, camAt, hf]
  · obtain ⟨d, l, he⟩ := exec_autoRewinds h hs ht hc hf hr ⟨hmo, hw, href⟩ hn hslot hcause ha ho hl
    have hq := quiet_settledIn (m := .halt) 3 (s := s) ⟨hmo, hw, href⟩ rfl rfl
    have hlink : (startShift .rwind false (taken l (settledIn .halt 3 s))).link = s.link := by
      rw [startShift_link (hq.taken l), taken_link, settledIn_link 3 ⟨hmo, hw, href⟩ rfl]
    have hsched : (startShift .rwind false (taken l (settledIn .halt 3 s))).sched = s.sched := by
      rw [startShift_sched _ _ _ (.inl (by simp [taken, settledIn, arrivedIn])), taken_sched, settledIn_sched .halt 3 (by simp [hs])]
    refine ⟨_, he, ?_⟩
    simp only [ended_sched, ended_link_notices, State.onMech_sched, State.onMech_link, hsched, hlink]
    simp [startShift, driveCam, aimAt, camOf, taken, settledIn, arrivedIn, moveEnded, motorOff, camAt, reelOf, hslot, hn.2, autoRewind, State.now]
  · obtain ⟨k, hk, he⟩ := exec_haltStored h hs ht hc hf hr ⟨hmo, hw, href⟩ hroom hslot hstop ho
    have hq := quiet_settledIn (m := .halt) 3 (s := s) ⟨hmo, hw, href⟩ rfl rfl
    have hst : (settledIn .halt 3 s).mech.state = .halt := by simp [settledIn, arrivedIn]
    refine ⟨_, he, ?_⟩
    simp only [closed_sched, closed_link_notices, State.onMech_sched, State.onMech_link]
    rw [startUnthread_sched .idle (.inl (by rw [State.onMech_mech, State.onLink_mech]; simp only [hst]; decide)), State.onMech_sched,
      State.onLink_sched, settledIn_sched .halt 3 (by simp [hs]), startUnthread_link ((hq.onLink _).onMech _), State.onMech_link,
      State.onLink_link, hk]
    simp [startUnthread, driveCam, aimAt, settledIn, arrivedIn, moveEnded, motorOff, camAt, reelOf, hn.2, State.now]
    split <;> rfl
  · obtain ⟨d, he⟩ := exec_idleAnnounced h hs ht hc hf hslot hsb hn hm hcause
    obtain ⟨k1, -, -, -, k5, -⟩ := idleAgain_keeps s
    have hlink := idleAgain_link (s := s) ⟨hmo, hw, href⟩
    have hnote : (notify (.mechState .idle (if s.mech.recoveryRun then .recovery else .rest)) (idleAgain s)).link.notices =
        s.link.notices ++ [.mechState .idle (if s.mech.recoveryRun then .recovery else .rest)] := by
      rw [notify_room (by rw [State.roomFor, hlink]; exact hroom), hlink]
    have hsched : (idleAgain s).sched = s.sched := k1.trans (arrivedIn_sched _ _ (by simp [hs]))
    refine ⟨_, he, ?_⟩
    simp only [ended_sched, ended_link_notices, atRest_sched, notify_sched, hsched, atRest_link, hnote]
    simp only [ended_mech, ended_tuner, ended_clock, ended_pwr, ended_pos, ended_mark, atRest, notify_mech, notify_tuner, notify_clock, notify_pwr, notify_pos, notify_mark, idleAgain]
    cases s.mech.recoveryRun <;>
      simp [Owner.settled, readTab, arrivedIn, moveEnded, motorOff, camAt, reelOf, hf, hslot, hn.2]
  · refine ⟨_, exec_recoveryInserts h hs hc hrun hin, ?_⟩
    have hq := quiet_camAt 0 (s := s) ⟨hmo, hw, href⟩
    simp only [closed_sched, closed_link_notices]
    rw [startInsert_sched (by simp [moveEnded, motorOff, camAt, hs]), startInsert_link hq]
    simp [startInsert, driveCam, aimAt, moveEnded, motorOff, camAt, reelOf, hf, hslot, hn.2, hrun, State.now]
  · obtain ⟨d, he⟩ := exec_recoveryEmpties h hs hc hrun hin hf hslot hsb ⟨hmo, hw, href⟩ hn (hm hrun)
    obtain ⟨k1, -, k3, -⟩ := emptyAfter_keeps (x := moveEnded (camAt 0 s)) (by simp [moveEnded, motorOff, camAt, hs]) (quiet_camAt 0 ⟨hmo, hw, href⟩)
    have hnote : (notify (.mechState .empty .recovery) (emptyAfter (moveEnded (camAt 0 s)))).link.notices =
        s.link.notices ++ [.mechState .empty .recovery] := by
      rw [notify_room (by rw [State.roomFor, k3]; exact hroom), k3]
      rfl
    refine ⟨_, he, ?_⟩
    simp only [ended_sched, ended_link_notices, atRest_sched, notify_sched, k1, atRest_link, hnote]
    simp [atRest, Owner.settled, emptyAfter, emptiedFrom, emptyEffects, standardCurrent, markEmptied, posEmptied, moveEnded, motorOff, camAt, reelOf, hf, hslot,
      hn.2]

end Sys2Proof.Machine

/-!
Sys2Proof/Proofs/Discards: PANEL commands discarded by an event, each told by its notice (R10).
-/

namespace Sys2Proof.Machine

/-- R10: a command whose closing is told by a notice. -/
def Cmd.spoken (c : Cmd) : Prop := c.origin = .panel ∧ c.silent = false

/-- R10: the notices that discard a PANEL command, where there is one. -/
def discards (why : DiscardCause) (o : Option Cmd) : List Notice :=
  match o with | none => [] | some c => [.mechDiscarded c.what .panel why]

@[simp] theorem discards_none (why : DiscardCause) : discards why none = [] := rfl
@[simp] theorem discards_some (why : DiscardCause) (c : Cmd) : discards why (some c) = [.mechDiscarded c.what .panel why] := rfl

theorem discards_length (why : DiscardCause) (o : Option Cmd) : (discards why o).length ≤ 1 := by cases o <;> simp

/-- R204: a notice that finds room, as the queue takes it. -/
theorem notify_eq {n : Notice} {x : State} (h : x.roomFor 1) :
    ∃ k : Link, notify n x = (x.onLink fun _ => k) ∧ k.notices = x.link.notices ++ [n] ∧ k.settings = x.link.settings ∧
      k.tapeEnd = x.link.tapeEnd :=
  ⟨(notify n x).link, rfl, notify_room h, by simp, by simp⟩

theorem onMech_inFlight_none {s : State} (h : s.mech.inFlight = none) : (s.onMech fun m => { m with inFlight := none }) = s := by
  rw [State.onMech, ← h]

theorem onMech_slot_none {s : State} (h : s.mech.slot = none) : (s.onMech fun m => { m with slot := none }) = s := by
  rw [State.onMech, ← h]

/-- R10: the command in flight discarded. -/
theorem closeInFlight_discards {why : DiscardCause} {s : State} (h : ∀ c, s.mech.inFlight = some c → c.spoken)
    (hr : s.roomFor (discards why s.mech.inFlight).length) :
    ∃ k : Link, closeInFlight (.discarded why) s = ((s.onMech fun m => { m with inFlight := none }).onLink fun _ => k) ∧
      k.notices = s.link.notices ++ discards why s.mech.inFlight ∧ k.settings = s.link.settings ∧ k.tapeEnd = s.link.tapeEnd := by
  cases hf : s.mech.inFlight with
  | none => exact ⟨s.link, by rw [closeInFlight_none hf, onMech_inFlight_none hf]; rfl, by simp, rfl, rfl⟩
  | some c =>
    obtain ⟨ho, hs⟩ := h c hf
    obtain ⟨k, hk, h1, h2, h3⟩ := notify_eq (n := .mechDiscarded c.what .panel why) (x := s.onMech fun m => { m with inFlight := none })
      (by simpa [hf, State.roomFor] using hr)
    refine ⟨k, ?_, by simpa using h1, by simpa using h2, by simpa using h3⟩
    rw [closeInFlight_panel hf ho hs, ← hk]
    simp [closingNotice, ho]

/-- R10: the stored command discarded. -/
theorem closeSlot_discards {why : DiscardCause} {s : State} (h : ∀ c, s.mech.slot = some c → c.spoken)
    (hr : s.roomFor (discards why s.mech.slot).length) :
    ∃ k : Link, closeSlot (.discarded why) s = ((s.onMech fun m => { m with slot := none }).onLink fun _ => k) ∧
      k.notices = s.link.notices ++ discards why s.mech.slot ∧ k.settings = s.link.settings ∧ k.tapeEnd = s.link.tapeEnd := by
  cases hf : s.mech.slot with
  | none => exact ⟨s.link, by rw [closeSlot_none hf, onMech_slot_none hf]; rfl, by simp, rfl, rfl⟩
  | some c =>
    obtain ⟨ho, hs⟩ := h c hf
    obtain ⟨k, hk, h1, h2, h3⟩ := notify_eq (n := .mechDiscarded c.what .panel why) (x := s.onMech fun m => { m with slot := none })
      (by simpa [hf, State.roomFor] using hr)
    refine ⟨k, ?_, by simpa using h1, by simpa using h2, by simpa using h3⟩
    rw [closeSlot_panel hf ho hs, ← hk]
    simp [closingNotice, ho]

/-- R4, R23, R24: both discarded. -/
theorem discardBoth_eq {why : DiscardCause} {s : State} (h : ∀ c, s.mech.inFlight = some c → c.spoken)
    (h' : ∀ c, s.mech.slot = some c → c.spoken)
    (hr : s.roomFor ((discards why s.mech.inFlight).length + (discards why s.mech.slot).length)) :
    ∃ k : Link, discardBoth why s = ((s.onMech fun m => { m with inFlight := none, slot := none }).onLink fun _ => k) ∧
      k.notices = s.link.notices ++ discards why s.mech.inFlight ++ discards why s.mech.slot ∧ k.settings = s.link.settings ∧
      k.tapeEnd = s.link.tapeEnd := by
  obtain ⟨k, hk, k1, k2, k3⟩ := closeInFlight_discards (why := why) h (by simp only [State.roomFor] at *; omega)
  obtain ⟨l, hl, l1, l2, l3⟩ := closeSlot_discards (why := why) (s := (s.onMech fun m => { m with inFlight := none }).onLink fun _ => k)
    (by simpa using h') (by simp only [State.roomFor, State.onLink_link, State.onLink_mech, State.onMech_mech, k1, List.length_append] at *; omega)
  refine ⟨l, by rw [discardBoth, hk, hl]; rfl, ?_, ?_, ?_⟩
  · simpa [k1] using l1
  · simpa [k2] using l2
  · simpa [k3] using l3

end Sys2Proof.Machine

/-!
Sys2Proof/Proofs/MovementFaults: a movement that does not arrive in time, and a watched reel that stops (R4, R23).
-/

namespace Sys2Proof.Machine

/-! ## The cam timeout -/

/-- R4: MECH jammed, its commands still to be discarded. -/
def jamEntered (s : State) : State := (setState .jammed none false (moveEnded s)).onMech fun m => { m with fault := .camTimeout, cause := none }

theorem jamEntered_link {s : State} (h : s.Quiet) : (jamEntered s).link = s.link := by
  have hq : (moveEnded s).Quiet := ⟨h.motion, h.writer, h.reference⟩
  simp only [jamEntered, State.onMech_link]
  exact (setState_quiet none false hq rfl).1

theorem jamEntered_sched {s : State} (h : s.mech.state ≠ .record) : (jamEntered s).sched = s.sched := by
  simp only [jamEntered, State.onMech_sched]
  exact setState_sched _ _ _ (moveEnded s) (.inl h)

/-- R4, R24: after a timeout outside a recovery run and a standby stop. -/
def jammedTold (k : Link) (s : State) : State :=
  report (.interrupted (.fault .camTimeout)) (report .faultSched
    (((jamEntered s).onMech fun m => { m with inFlight := none, slot := none }).onLink fun _ => k))

theorem jam_eq {s : State} (hq : s.Quiet) (h : ∀ c, s.mech.inFlight = some c → c.spoken) (hslot : s.mech.slot = none)
    (hr : s.mech.recoveryRun = false) (hb : s.mech.standbyStop = false) (hroom : s.roomFor 2) :
    ∃ k : Link, jam s = jammedTold k s ∧
      k.notices = s.link.notices ++ discards .camTimeout s.mech.inFlight ++ [.mechFault .camTimeout .jammed] := by
  have hl := jamEntered_link hq
  have hm : (jamEntered s).mech.inFlight = s.mech.inFlight ∧ (jamEntered s).mech.slot = none ∧ (jamEntered s).mech.recoveryRun = false ∧
      (jamEntered s).mech.standbyStop = false := by
    simp [jamEntered, moveEnded, motorOff, hslot, hr, hb]
  obtain ⟨m1, m2, m3, m4⟩ := hm
  have hlen := discards_length .camTimeout s.mech.inFlight
  obtain ⟨k, hk, k1, -, -⟩ := discardBoth_eq (why := .camTimeout) (s := jamEntered s) (by rw [m1]; exact h) (by simp [m2])
    (by simp only [State.roomFor, m1, m2, hl, discards_none, List.length_nil] at *; omega)
  rw [m1, m2, hl] at k1
  obtain ⟨k', hk', k2, -, -⟩ := notify_eq (n := .mechFault .camTimeout .jammed)
    (x := ((jamEntered s).onMech fun m => { m with inFlight := none, slot := none }).onLink fun _ => k)
    (by simp only [State.roomFor, State.onLink_link, k1, List.length_append, discards_none, List.length_nil] at *; omega)
  refine ⟨k', ?_, by rw [k2]; simp [k1]⟩
  simp only [jam]
  rw [show (setState .jammed none false (moveEnded s)).onMech (fun m => { m with fault := .camTimeout, cause := none }) = jamEntered s from rfl,
    hk, hk']
  simp only [recoveryEnds, report_mech, State.onLink_mech, State.onMech_mech, m3, Bool.false_eq_true, if_false, standbyEnds, m4]
  rfl

theorem exec_camTimeout {s : State} (h : s.hears) {t0 : Nat} (ht : s.mech.camTimer = some t0) :
    exec .camTimeout s = .next (finish
      (if camTimeoutLength s.mech.state * 32768 ≤ (s.now - t0) * 1000 then jam s else s)) := by
  have he : exec .camTimeout s = .next (run camTimeout s) := rfl
  rw [he, run_high _ _ h.1]
  by_cases hd : camTimeoutLength s.mech.state * 32768 ≤ (s.now - t0) * 1000 <;>
    simp [camTimeout, ht, Timer.due, passed, Config.cyclesPerSecond, hd]

/-- R4: a timeout that has come jams the mechanism. -/
theorem exec_camTimeout_jams {s : State} (h : s.hears) {t0 : Nat} (ht : s.mech.camTimer = some t0)
    (hd : camTimeoutLength s.mech.state * 32768 ≤ (s.now - t0) * 1000) (hq : s.Quiet)
    (hc : ∀ c, s.mech.inFlight = some c → c.spoken) (hslot : s.mech.slot = none)
    (hr : s.mech.recoveryRun = false) (hb : s.mech.standbyStop = false) (hroom : s.roomFor 2) (hm : s.mech.state ≠ .record)
    (hh : s.sched.holder = none) (hse : s.mark.search = none) :
    ∃ k : Link, exec .camTimeout s = .next (jammedTold k s).workedOff ∧
      k.notices = s.link.notices ++ discards .camTimeout s.mech.inFlight ++ [.mechFault .camTimeout .jammed] := by
  obtain ⟨k, hk, hn⟩ := jam_eq hq hc hslot hr hb hroom
  have hrep : (jammedTold k s).reports = [.faultSched, .interrupted (.fault .camTimeout)] := by
    simp [jammedTold, jamEntered, moveEnded, motorOff, h.2]
  refine ⟨k, ?_, hn⟩
  rw [exec_camTimeout h ht, if_pos hd, hk, finish_workedOff false]
  · simp only [jammedTold, report_sched, State.onLink_sched, State.onMech_sched, jamEntered_sched hm, hh]
  · simp [jammedTold, jamEntered, moveEnded, motorOff, hse]
  · simp [hrep]
  · simp [hrep, Report.deaf]

/-! ## The reel stall -/

theorem exec_reelStall {s : State} (h : s.hears) : exec .reelStall s = .next (finish (reelStall s)) :=
  congrArg Host.Outcome.next (run_high _ _ h.1)

theorem stalled_iff {s : State} {x : Motion} (hx : s.pos.motion = some x) :
    stalled s = true ↔ stallThreshold s.mech.stall * 32 < s.now - s.mech.stall.last := by
  simp only [stalled, hx, Option.isSome_some, Bool.true_and]
  exact decide_eq_true_iff

theorem exec_reelStall_not {s : State} (h : s.hears) (hs : stalled s = false) : exec .reelStall s = .next s.closed := by
  rw [exec_reelStall h, reelStall, if_neg (by simp [hs]), finish_closed _ h.2]

/-- R23: MECH at a stall, both commands discarded and the fault told, with the reports to SCHED and MARK. -/
def stalledTold (k : Link) (s : State) : State :=
  report (.interrupted (.fault .reelStall)) (report .faultSched ((s.onMech fun m =>
    { m with reel := .off, recAmp := false, inFlight := none, slot := none, fault := .reelStall, cause := none }).onLink fun _ => k))

theorem reelStall_eq {s : State} (hs : stalled s = true) (h : ∀ c, s.mech.inFlight = some c → c.spoken)
    (h' : ∀ c, s.mech.slot = some c → c.spoken)
    (hroom : s.roomFor ((discards .reelStall s.mech.inFlight).length + (discards .reelStall s.mech.slot).length + 1)) :
    ∃ k : Link, reelStall s = startUnthread .idle (stalledTold k s) ∧
      k.notices = s.link.notices ++ discards .reelStall s.mech.inFlight ++ discards .reelStall s.mech.slot ++
        [.mechFault .reelStall s.mech.state] ∧ k.settings = s.link.settings := by
  obtain ⟨k, hk, k1, k2, -⟩ := discardBoth_eq (why := .reelStall) (s := s.onMech fun m => { m with reel := .off, recAmp := false })
    h h' (by simp only [State.roomFor, State.onMech_link, State.onMech_mech] at *; omega)
  simp only [State.onMech_link, State.onMech_mech] at k1 k2
  obtain ⟨l, hl, l1, l2, -⟩ := notify_eq (n := .mechFault .reelStall s.mech.state)
    (x := (((s.onMech fun m => { m with reel := .off, recAmp := false }).onMech fun m =>
      { m with inFlight := none, slot := none }).onLink fun _ => k).onMech fun m => { m with fault := .reelStall, cause := none })
    (by simp only [State.roomFor, State.onLink_link, State.onMech_link, k1, List.length_append] at *; omega)
  refine ⟨l, ?_, by simpa [k1] using l1, by simpa [k2] using l2⟩
  simp only [reelStall, if_pos hs, hk, hl]
  rfl

/-- R23: a stall unthreads the mechanism. -/
theorem exec_reelStall_unthreads {s : State} (h : s.hears) (hs : stalled s = true) (hc : ∀ c, s.mech.inFlight = some c → c.spoken)
    (hc' : ∀ c, s.mech.slot = some c → c.spoken) (hroom : s.roomFor 3) (hh : s.sched.holder = none) (hse : s.mark.search = none) :
    ∃ k : Link, exec .reelStall s = .next (startUnthread .idle (stalledTold k s)).workedOff ∧
      k.notices = s.link.notices ++ discards .reelStall s.mech.inFlight ++ discards .reelStall s.mech.slot ++
        [.mechFault .reelStall s.mech.state] ∧ k.settings = s.link.settings ∧
      (startUnthread .idle (stalledTold k s)).sched = s.sched := by
  have hlen := discards_length .reelStall s.mech.inFlight
  have hlen' := discards_length .reelStall s.mech.slot
  obtain ⟨k, hk, hn, hset⟩ := reelStall_eq hs hc hc' (by simp only [State.roomFor] at *; omega)
  have hsched : (startUnthread .idle (stalledTold k s)).sched = s.sched := startUnthread_sched .idle (s := stalledTold k s) (.inr hh)
  have hrep : (startUnthread .idle (stalledTold k s)).reports = [.faultSched, .interrupted (.fault .reelStall)] := by
    simp [startUnthread, driveCam, aimAt, stalledTold, h.2]
  refine ⟨k, ?_, hn, hset, hsched⟩
  rw [exec_reelStall h, hk, finish_workedOff false]
  · rw [hsched, hh]
  · simp [startUnthread, driveCam, aimAt, stalledTold, hse]
  · simp [hrep]
  · simp [hrep, Report.deaf]

/-- R68: without COUNTER notices the end of a motion says nothing. -/
theorem motionEnd_link {s : State} (h : s.link.settings.counterNotices = false) : (motionEnd s).link = s.link := by
  unfold motionEnd
  split
  · rfl
  · simp [counterNotice, h]

/-! ## O10 -/

theorem timeoutLength_spec {m : MState} {ms : Nat}
    (h : (m, ms) ∈ [(MState.inserting, 3000), (.threading, 4000), (.unthreading, 4000), (.ejecting, 3000), (.shifting, 1500)]) :
    camTimeoutLength m = ms ∧ m ≠ .record := by
  simp only [List.mem_cons, Prod.mk.injEq, List.not_mem_nil, or_false] at h
  rcases h with ⟨rfl, rfl⟩ | ⟨rfl, rfl⟩ | ⟨rfl, rfl⟩ | ⟨rfl, rfl⟩ | ⟨rfl, rfl⟩ <;> exact ⟨rfl, by decide⟩

/-- Settles O10: the timeout by `jam`, the stall by its threshold. -/
theorem movementTimeoutsAndReelStallsEndInFault : Obligations.MovementTimeoutsAndReelStallsEndInFault := by
  refine ⟨fun m ms t0 s hm h hs ht => ⟨fun hlt => ?_, fun hge hc hslot hr hb hse hh hmo hw href hroom => ?_⟩,
    fun s m j x h hs hj hmj hx => ⟨fun hle => ?_, fun hgt hc hc' hse hh hw href hcn hroom => ?_⟩, fun s h hmo => ?_⟩
  · obtain ⟨hlen, -⟩ := timeoutLength_spec hm
    rw [exec_camTimeout h ht, hs, hlen, if_neg (by omega), finish_closed _ h.2]
  · obtain ⟨hlen, hrec⟩ := timeoutLength_spec hm
    obtain ⟨k, he, hn⟩ := exec_camTimeout_jams h ht (by rw [hs, hlen]; exact hge) ⟨hmo, hw, href⟩ hc hslot hr hb hroom (by rw [hs]; exact hrec) hh hse
    refine ⟨_, he, ?_⟩
    have hsched := jamEntered_sched (s := s) (by rw [hs]; exact hrec)
    simp only [workedOff_sched, workedOff_link_notices, jammedTold, report_sched, report_link, State.onLink_sched, State.onLink_link, State.onMech_sched, hsched, hn]
    simp [jamEntered, moveEnded, motorOff, reelOf] <;> rfl
  · refine exec_reelStall_not h ?_
    rw [← Bool.not_eq_true, stalled_iff hx]
    exact Nat.not_lt.mpr hle
  · have hst : stalled s = true := (stalled_iff hx).mpr hgt
    obtain ⟨k, he, hn, hset, hsched⟩ := exec_reelStall_unthreads h hst hc hc' hroom hh hse
    have hlink : (startUnthread .idle (stalledTold k s)).link = k := by
      simp only [startUnthread, driveCam, aimAt, State.onMech_link]
      rw [(setState_says (m := .unthreading) none false (s := stalledTold k s) hw href rfl).1, motionEnd_link (hset ▸ hcn)]
      rfl
    refine ⟨_, he, ?_⟩
    simp only [workedOff_sched, workedOff_link_notices, hsched, hlink, hn, hs]
    simp [startUnthread, driveCam, aimAt, stalledTold, reelOf, motionOf, State.now] <;> rfl
  · exact exec_reelStall_not h (by simp [stalled, hmo])

end Sys2Proof.Machine

/-!
Sys2Proof/Proofs/Leaders: a covered leader ends the motion toward it (R16, R17, R21, R22).
-/

namespace Sys2Proof.Machine

/-- A step whose one report comes to nothing. -/
theorem finish_one {r : Report} {x : State} (hx : x.reports = [r]) (h : handleReport r (x.nextReport []) = x.nextReport []) :
    finish x = x.workedOff := by
  have hd : drain drainFuel x = x.nextReport [] := by
    rw [drainFuel, drain_one 255 r x hx (by rw [h]; rfl), h]
  rw [finish, hd]
  rfl

/-! ## The end leader -/

/-- R10, R21: a forward motion told ended, with the reports to SCHED and MARK. -/
def leaderReported (k : Link) (x : State) : State :=
  report .leaderSearch (report .leaderSched ((x.onMech fun m => { m with reel := .off, recAmp := false, inFlight := none }).onLink fun _ => k))

@[simp] theorem leaderReported_sched (k : Link) (x : State) : (leaderReported k x).sched = x.sched := rfl
@[simp] theorem leaderReported_link (k : Link) (x : State) : (leaderReported k x).link = k := rfl

/-- R21: the state a covered end leader leaves. -/
def leaderStopped (k : Link) (x : State) : State := because .endLeader (startShift .halt false (leaderReported k x))

theorem endLeaderStop_eq {x : State} (h : ∀ c, x.mech.inFlight = some c → c.spoken) (hroom : x.roomFor 2) :
    ∃ k : Link, endLeaderStop x = leaderStopped k x ∧
      k.notices = x.link.notices ++ discards .endLeader x.mech.inFlight ++ [.tapeEnd x.mech.state] ∧ k.tapeEnd = true ∧
      k.settings = x.link.settings := by
  have hlen := discards_length .endLeader x.mech.inFlight
  obtain ⟨k, hk, k1, k2, -⟩ := closeInFlight_discards (why := .endLeader) (s := x.onMech fun m => { m with reel := .off, recAmp := false })
    h (by simp only [State.roomFor, State.onMech_link, State.onMech_mech] at *; omega)
  simp only [State.onMech_link, State.onMech_mech] at k1 k2
  obtain ⟨l, hl, l1, l2, l3⟩ := notify_eq (n := .tapeEnd x.mech.state)
    (x := (((x.onMech fun m => { m with reel := .off, recAmp := false }).onMech fun m => { m with inFlight := none }).onLink fun _ => k).onLink
      fun l => { l with tapeEnd := true })
    (by simp only [State.roomFor, State.onLink_link, k1, List.length_append] at *; omega)
  refine ⟨l, ?_, by simpa [k1] using l1, by simpa using l3, by simpa [k2] using l2⟩
  simp only [endLeaderStop, hk, hl]
  rfl

theorem leaderStopped_sched (k : Link) {x : State} (h : x.sched.holder = none) : (leaderStopped k x).sched = x.sched := by
  simp only [leaderStopped, because, State.onMech_sched]
  rw [startShift_sched _ _ (leaderReported k x) (.inr (by rw [leaderReported_sched, h])), leaderReported_sched]

theorem leaderStopped_notices (k : Link) (x : State) : k.notices <+: (leaderStopped k x).link.notices := by
  have h := startShift_prefix .halt false (leaderReported k x)
  simpa only [leaderStopped, because, State.onMech_link, leaderReported_link] using h

/-- R21: the end leader covered in a forward motion. -/
theorem exec_endLeader {s : State} (h : s.hears) (hf : inForward s = true) (hc : ∀ c, s.mech.inFlight = some c → c.spoken)
    (hroom : s.roomFor 2) (hh : s.sched.holder = none) (hse : s.mark.search = none) :
    ∃ k : Link, exec (.endLeaderCovered true) s =
        .next (leaderStopped k (s.onPins fun p => { p with leaderEnd := true })).workedOff ∧
      k.notices = s.link.notices ++ discards .endLeader s.mech.inFlight ++ [.tapeEnd s.mech.state] ∧ k.tapeEnd = true := by
  obtain ⟨k, hk, hn, ht, -⟩ := endLeaderStop_eq (x := s.onPins fun p => { p with leaderEnd := true }) hc hroom
  have he : exec (.endLeaderCovered true) s = .next (finish (endLeaderTest (s.onPins fun p => { p with leaderEnd := true }))) :=
    congrArg Host.Outcome.next (run_high _ _ h.1)
  have htest : endLeaderTest (s.onPins fun p => { p with leaderEnd := true }) =
      endLeaderStop (s.onPins fun p => { p with leaderEnd := true }) := by
    have : inForward (s.onPins fun p => { p with leaderEnd := true }) = true := hf
    simp [endLeaderTest, this]
  have hrep : (leaderStopped k (s.onPins fun p => { p with leaderEnd := true })).reports = [.leaderSched, .leaderSearch] := by
    simp [leaderStopped, leaderReported, because, startShift, driveCam, aimAt, h.2]
  refine ⟨k, ?_, hn, ht⟩
  rw [he, htest, hk, finish_workedOff false]
  · rw [leaderStopped_sched]
    · exact hh
    · exact hh
  · simp [leaderStopped, leaderReported, because, startShift, driveCam, aimAt, hse]
  · simp [hrep]
  · simp [hrep, Report.deaf]

/-! ## The start leader -/

/-- R68: the last COUNTER notice of a motion, where these are enabled. -/
def lastCounter (s : State) : List Notice :=
  if s.link.settings.counterNotices = true ∧ s.pos.motion.isSome = true then [.counter s.pos.counter s.pos.approx s.pos.source] else []

theorem motionEnd_notices {s : State} (h : s.roomFor 1) : (motionEnd s).link.notices = s.link.notices ++ lastCounter s := by
  cases hm : s.pos.motion with
  | none => simp [motionEnd, lastCounter, hm]
  | some m =>
    cases hc : s.link.settings.counterNotices with
    | false => simp [motionEnd, lastCounter, hm, counterNotice, hc]
    | true => simpa [motionEnd, lastCounter, hm, counterNotice, hc] using notify_room h

/-- R22: REVIEW or RWIND stopped, with the report to MARK. -/
def reverseStopped (x : State) : State := report .leaderSearch (x.onMech fun m => { m with reel := .off })

theorem exec_startLeader {s : State} (h : s.hears) (hs : s.mech.state ∈ [MState.review, .rwind]) (hse : s.mark.search = none) :
    exec (.startLeaderCovered true) s = .next (because .startLeader (startShift .halt false
      (reverseStopped (s.onPins fun p => { p with leaderStart := true })))).workedOff := by
  have he : exec (.startLeaderCovered true) s =
      .next (finish (Machine.startLeaderCovered (s.onPins fun p => { p with leaderStart := true }))) :=
    congrArg Host.Outcome.next (run_high _ _ h.1)
  have hstop : Machine.startLeaderCovered (s.onPins fun p => { p with leaderStart := true }) = because .startLeader (startShift .halt false
      (reverseStopped (s.onPins fun p => { p with leaderStart := true }))) := by
    simp only [List.mem_cons, List.not_mem_nil, or_false] at hs
    rcases hs with hs | hs <;> simp only [Machine.startLeaderCovered, State.onPins_mech, hs] <;> rfl
  rw [he, hstop, finish_one (r := .leaderSearch)]
  · simp [because, startShift, driveCam, aimAt, reverseStopped, h.2]
  · exact searchLeader_free _ (by simp [State.nextReport, because, startShift, driveCam, aimAt, reverseStopped, hse])

/-! ## O12 -/

theorem leaderEnds_spec {s : State} {j : Option Junction} (hj : s.mech.junction = j)
    (h : s.mech.state ∈ [MState.play, .record, .cue, .fwind] ∧ j = none ∧ s.mech.inFlight = none ∨
      s.mech.state = .recPause ∧ (j = some .lockWait ∨ j = some .preRoll) ∧
        ∃ c, s.mech.inFlight = some c ∧ c.origin = .panel ∧ c.silent = false) :
    inForward s = true ∧ ∀ c, s.mech.inFlight = some c → c.spoken := by
  rcases h with ⟨hm, hj', hf⟩ | ⟨hm, hj', c, hf, hc⟩
  · refine ⟨?_, by simp [hf]⟩
    simp only [List.mem_cons, List.not_mem_nil, or_false] at hm
    rcases hm with hm | hm | hm | hm <;> simp [inForward, hm, motionOf]
  · refine ⟨?_, fun d hd => ?_⟩
    · rcases hj' with rfl | rfl <;> simp [inForward, hm, hj, motionOf]
    · rw [hf] at hd
      cases hd
      exact hc

/-- Settles O12: the forward motions by `endLeaderStop`, the reverse ones by the report to MARK alone. -/
theorem coveredLeadersEndTheMotion : Obligations.CoveredLeadersEndTheMotion := by
  refine ⟨fun s j h hj hm hse hh hw hroom => ?_, fun s h hs hse hw href hroom => ?_, fun s h => ⟨?_, ?_⟩⟩
  · obtain ⟨hfor, hc⟩ := leaderEnds_spec hj hm
    obtain ⟨k, he, hn, ht⟩ := exec_endLeader h hfor hc hroom hh hse
    have hpre := take_of_prefix (leaderStopped_notices k (s.onPins fun p => { p with leaderEnd := true }))
    have hlen : k.notices.length = s.link.notices.length + (discards .endLeader s.mech.inFlight).length + 1 := by
      rw [hn]; simp only [List.length_append, List.length_singleton]
    rw [hlen, hn] at hpre
    have hsched := leaderStopped_sched k (x := s.onPins fun p => { p with leaderEnd := true }) hh
    refine ⟨_, he, ?_, ?_, ?_, ?_, ?_, ?_, ?_, ?_, ?_, ?_, ?_, ?_, ?_, by rw [workedOff_link_notices]; exact hpre, ?_, ?_, ?_, by rw [workedOff_sched, hsched]; rfl, ?_, ?_⟩ <;>
      simp [leaderStopped, leaderReported, because, startShift, driveCam, aimAt, camOf, reelOf, setState_servo_gate, gateTimer, ht, State.now]
  · have hsched : (startShift .halt false (reverseStopped (s.onPins fun p => { p with leaderStart := true }))).sched = s.sched := by
      rw [startShift_sched _ _ _ (.inl ?_)]
      · rfl
      · simp only [List.mem_cons, List.not_mem_nil, or_false] at hs
        rcases hs with hs | hs <;> simp [reverseStopped, hs]
    have hlink := (setState_says (m := .shifting) none false (s := reverseStopped (s.onPins fun p => { p with leaderStart := true })) hw href rfl).1
    have hnote := motionEnd_notices (s := reverseStopped (s.onPins fun p => { p with leaderStart := true })) hroom
    refine ⟨_, exec_startLeader h hs hse, ?_⟩
    have hlink' : (startShift .halt false (reverseStopped (s.onPins fun p => { p with leaderStart := true }))).link.notices =
        s.link.notices ++ lastCounter s := by
      rw [startShift, driveCam, aimAt, State.onMech_link, State.onMech_link, hlink, hnote]
      rfl
    simp only [workedOff_sched, workedOff_link_notices, because, State.onMech_sched, State.onMech_link, hsched, hlink']
    simp [reverseStopped, startShift, driveCam, aimAt, camOf, reelOf, State.now] <;> rfl
  · exact congrArg Host.Outcome.next (run_closed _ _ h.1 h.2)
  · exact congrArg Host.Outcome.next (run_closed _ _ h.1 h.2)

end Sys2Proof.Machine

/-!
Sys2Proof/Proofs/RestTimers: the still timer and the halt timer (R19, R20).
-/

namespace Sys2Proof.Machine

/-! ## What a step leaves of the rest timers -/

theorem Owner.isTimer_false_iff (o : Owner) : o.isTimer = false ↔ ∀ k, o ≠ .timer k := by cases o <;> simp [Owner.isTimer]

theorem quiet_iff (m : Mech) : m.quiet = true ↔ m.inFlight = none ∧ m.slot = none := by simp [Mech.quiet]

theorem haltSuspended_iff (s : State) : haltSuspended s = true ↔
    ∃ k, s.mech.owner = .timer k ∧ (s.sched.slots.getD (k - 1) Slot.reset).state = .preparing := by
  unfold haltSuspended
  cases s.mech.owner <;> simp

theorem stillFollow_isSome (s : State) : (stillFollow s).isSome = true ↔
    (s.mech.state = .still ∨ s.mech.state = .recPause) ∧ s.mech.inFlight = none ∧ s.mech.slot = none ∧ ∀ k, s.mech.owner ≠ .timer k := by
  unfold stillFollow
  split
  next h =>
    obtain ⟨hm, hq, ho⟩ := h
    obtain ⟨hf, hs⟩ := (quiet_iff _).mp hq
    have hall := (Owner.isTimer_false_iff _).mp ho
    cases s.mech.still <;> simpa [hm, hf, hs] using hall
  next h =>
    simp only [Option.isSome_none, Bool.false_eq_true, false_iff]
    rintro ⟨hm, hf, hs, ho⟩
    exact h ⟨hm, (quiet_iff _).mpr ⟨hf, hs⟩, (Owner.isTimer_false_iff _).mpr ho⟩

theorem haltFollow_isSome (s : State) : (haltFollow s).isSome = true ↔ s.mech.state = .halt ∧ s.mech.inFlight = none ∧ s.mech.slot = none := by
  unfold haltFollow
  split
  next h =>
    obtain ⟨hm, hq⟩ := h
    obtain ⟨hf, hs⟩ := (quiet_iff _).mp hq
    simp only [hm, hf, hs]
    (repeat' split) <;> simp
  next h =>
    simp only [Option.isSome_none, Bool.false_eq_true, false_iff]
    rintro ⟨hm, hf, hs⟩
    exact h ⟨hm, (quiet_iff _).mpr ⟨hf, hs⟩⟩

/-- R20: the halt timer stands while it is suspended, and only then. -/
theorem haltFollow_since {s : State} {h : HaltCount} (hh : haltFollow s = some h) : h.since = none ↔ haltSuspended s = true := by
  by_cases hrun : s.mech.state = .halt ∧ s.mech.quiet = true
  · simp only [haltFollow, hrun, and_self, if_true] at hh
    cases hx : s.mech.halt with
    | none =>
      simp only [hx, Option.some.injEq] at hh
      subst hh
      simp
    | some c =>
      simp only [hx] at hh
      cases hc : c.since <;> simp only [hc, Option.some.injEq] at hh <;> subst hh <;> cases haltSuspended s <;> simp [hc]
  · simp [haltFollow, hrun] at hh

/-! ## The expiries -/

theorem run_ends (f : State → State) {s : State} (h : s.pins.resetLow = false) : ∃ x : State, run f s = x.closed :=
  ⟨drain drainFuel (f s), run_high f s h⟩

theorem exec_ends (i : Instr) {s : State} (h : s.pins.resetLow = false) (hi : i ≠ .resetLineLow) : ∃ x : State, exec i s = .next x.closed := by
  have ends (f : State → State) (he : exec i s = .next (run f s)) : ∃ x : State, exec i s = .next x.closed := by
    obtain ⟨x, hx⟩ := run_ends f h
    exact ⟨x, by rw [he, hx]⟩
  have pin (p : Pins → Pins) (f : State → State) (he : exec i s = .next (runPin p f s)) (hp : (p s.pins).resetLow = s.pins.resetLow) :
      ∃ x : State, exec i s = .next x.closed := by
    obtain ⟨x, hx⟩ := run_ends f (s := s.onPins p) (hp.trans h)
    exact ⟨x, by rw [he, runPin, hx]⟩
  have clock (f : State → State) (he : exec i s = .next (runClock f s)) : ∃ x : State, exec i s = .next x.closed := by
    refine ⟨drain drainFuel (f s), ?_⟩
    rw [he, runClock, if_neg (by simp [h])]
    rfl
  have reset (y : State) (he : exec i s = .next (finish y)) : ∃ x : State, exec i s = .next x.closed := ⟨drain drainFuel y, he⟩
  cases i with
  | resetLineLow => exact absurd rfl hi
  | powerOnReset | pinReset => exact reset _ rfl
  | secondBoundary => exact clock _ rfl
  | camTargetReached _ | cassetteInClose _ | cassetteInOpen | endLeaderCovered _ | startLeaderCovered _ | supGoodRise | supplyFailure =>
    exact pin _ _ rfl rfl
  | _ => exact ends _ rfl

theorem exec_stillTimer {s : State} (h : s.hears) : exec .stillTimerExpiry s = .next (finish (stillTimeout s)) :=
  congrArg Host.Outcome.next (run_high _ _ h.1)

theorem exec_haltTimer {s : State} (h : s.hears) : exec .haltTimerExpiry s = .next (finish (haltTimeout s)) :=
  congrArg Host.Outcome.next (run_high _ _ h.1)

theorem Timer.due_some (ms now t : Nat) : Timer.due ms now (some t) = decide (ms * 32768 ≤ (now - t) * 1000) := rfl

theorem haltDue_some {s : State} {e t0 : Nat} (h : s.mech.halt = some { elapsed := e, since := some t0 }) :
    haltDue s = decide (180000 * 32768 ≤ (e + (s.now - t0)) * 1000) := by
  simp only [haltDue, h]
  rfl

/-! ## O13 -/

/-- Settles O13: the expiries by their lengths, the timers after a step by `stillFollow` and `haltFollow`. -/
theorem restTimersReleaseTheTape : Obligations.RestTimersReleaseTheTape := by
  refine ⟨fun s t0 h ht hm => ⟨fun hlt => ?_, fun hge => ?_⟩, fun s e t0 h ht hm => ⟨fun hlt => ?_, fun hge => ?_⟩,
    fun s h h1 h2 => ⟨?_, ?_⟩, fun i s h hi => ?_, fun s hf hs => ⟨fun hm ho => ?_, fun hm => ?_⟩,
    fun s ht hf ho hl => ⟨fun hm hst => ?_, fun hm => ?_⟩⟩
  · have hd : s.mech.still.due Config.stillTime s.now = false := by
      rw [ht, Config.stillTime, Timer.due_some, decide_eq_false_iff_not]; omega
    rw [exec_stillTimer h, stillTimeout, hd, if_neg (by decide), finish_closed _ h.2]
  · have hd : s.mech.still.due Config.stillTime s.now = true := by
      rw [ht, Config.stillTime, Timer.due_some, decide_eq_true_iff]; exact hge
    have hrec : s.mech.state ≠ .record := by rcases hm with hm | hm <;> simp [hm]
    refine ⟨_, by rw [exec_stillTimer h, stillTimeout, hd, if_pos rfl, finish_closed _ (by simp [because, startShift, driveCam, aimAt, h.2])], ?_⟩
    simp only [closed_sched, because, State.onMech_sched, startShift_sched _ _ s (.inl hrec)]
    simp [startShift, driveCam, aimAt, camOf, State.now, stillFollow]
  · have hd : haltDue s = false := by rw [haltDue_some ht, decide_eq_false_iff_not]; omega
    rw [exec_haltTimer h, haltTimeout, hd, if_neg (by decide), finish_closed _ h.2]
  · have hd : haltDue s = true := by rw [haltDue_some ht, decide_eq_true_iff]; exact hge
    refine ⟨_, by rw [exec_haltTimer h, haltTimeout, hd, if_pos rfl, finish_closed _ (by simp [because, startUnthread, driveCam, aimAt, h.2])], ?_⟩
    simp only [closed_sched, because, State.onMech_sched, startUnthread_sched .idle (s := s) (.inl (by simp [hm]))]
    simp [startUnthread, driveCam, aimAt, State.now, haltFollow]
  · rw [exec_stillTimer h, stillTimeout, h1, if_neg (by simp [Timer.due]), finish_closed _ h.2]
  · rw [exec_haltTimer h, haltTimeout, haltDue, h2, if_neg (by simp), finish_closed _ h.2]
  · obtain ⟨x, hx⟩ := exec_ends i h.1 hi
    refine ⟨_, hx, stillFollow_isSome x, haltFollow_isSome x, fun c hc => ?_⟩
    rw [haltFollow_since hc, haltSuspended_iff]
    rfl
  · simp only [closed_mech_still, stillFollow, hm, ho, (quiet_iff _).mpr ⟨hf, hs⟩, and_self, if_true]
    cases s.mech.still <;> rfl
  · refine ⟨fun hn => ?_, fun hy => ?_⟩
    · have hsus : haltSuspended s = false := by rw [← Bool.not_eq_true, haltSuspended_iff]; exact hn
      simp only [closed_mech_halt, haltFollow, hm, (quiet_iff _).mpr ⟨hf, hs⟩, hsus, and_self, if_true]
      refine ⟨fun h => ?_, fun e h => ?_, fun e x h => ?_⟩ <;> simp [h]
    · have hsus : haltSuspended s = true := (haltSuspended_iff s).mpr hy
      simp only [closed_mech_halt, haltFollow, hm, (quiet_iff _).mpr ⟨hf, hs⟩, hsus, and_self, if_true]
      refine ⟨fun h => ?_, fun e h => ?_, fun e x h => ?_⟩ <;> simp [h]
  · have he := exec_atOnce (i := .pause) (w := .pause) (target := .still) (by simp [atOnceRows]) ht hf hm ho
      (by simp [forwardTarget]) (by simp [reverseTarget])
    refine ⟨_, he, by simp [State.answered], ?_⟩
    rw [closed_mech_still]
    simp [stillFollow, State.answered, quiet_iff, hf.2.2.1, hf.2.2.2.1, ho, Owner.isTimer, hst, State.now]
  · have he := exec_atOnce (i := .play) (w := .play) (target := .play) (by simp [atOnceRows]) ht hf hm ho
      (fun _ => hl) (by simp [reverseTarget])
    refine ⟨_, he, by simp [State.answered], ?_⟩
    rw [closed_mech_still]
    simp [stillFollow, State.answered]

end Sys2Proof.Machine

/-!
Sys2Proof/Proofs/ServoFaults: the timers of the loops and of recording raise their faults, and the tape is taken to HALT (R24, R33 to R42).
-/

namespace Sys2Proof.Machine

/-! ## SERVO on the way to HALT -/

/-- R39: a stopped drum stays so through a change of reference. -/
theorem testReference_servo_drum {s : State} (h : s.servo.drum.state = .stopped) :
    (testReference s).servo.drum.state = .stopped ∧ (testReference s).servo.drum.heldOff = s.servo.drum.heldOff := by
  unfold testReference; simp only []; split <;> simp [h, Drum.rereferenced]

/-- R33: on entering SHIFTING the capstan stops. -/
theorem shifting_servo_capstan (b : Bool) (s : State) : (setState .shifting none b s).servo.capstan = Capstan.reset := by
  rw [setState_servo, servoEnter_eq, loopsFollow_servo_capstan, testReference_servo_capstan]
  simp [servoFollows, phaseFollow, playFollow, sessionFollow, capstanDemand, Capstan.demand, Capstan.setPhase, Capstan.reset]

/-- R33: a drum held off stays stopped and held on the fault's own move. -/
theorem shifting_servo_drum {s : State} (h : s.servo.drum.heldOff = true) :
    (setState .shifting none true s).servo.drum.state = .stopped ∧ (setState .shifting none true s).servo.drum.heldOff = true := by
  have hf : (servoFollows s.mech.state true (published .shifting none s)).servo.drum.state = .stopped ∧
      (servoFollows s.mech.state true (published .shifting none s)).servo.drum.heldOff = true := by
    have hd : (playFollow s.mech.state .shifting (sessionFollow .shifting (published .shifting none s))).servo.drum = s.servo.drum := by
      simp only [playFollow, sessionFollow, State.onServo_servo, published_servo]
      (repeat' split) <;> rfl
    simp [servoFollows, phaseFollow, published_mech_state, hd, h, unholds, Drum.demand, drumRuns, Drum.halted, Drum.moved]
  obtain ⟨h1, h2⟩ := hf
  rw [setState_servo, servoEnter_eq, loopsFollow_servo_drum]
  exact ⟨(testReference_servo_drum h1).1, (testReference_servo_drum h1).2.trans h2⟩

/-! ## A servo fault in a threaded state -/

/-- R24: MECH at a servo fault, told and both commands discarded, with the reports to SCHED and MARK. -/
def faultTold (f : FaultCode) (k : Link) (y : State) : State :=
  ((report (.interrupted (.fault f)) (report .faultSched (y.onMech fun m => { m with fault := f, recAmp := false, reel := .off, cause := none }))).onMech
    fun m => { m with inFlight := none, slot := none }).onLink fun _ => k

@[simp] theorem faultTold_sched (f : FaultCode) (k : Link) (y : State) : (faultTold f k y).sched = y.sched := rfl
@[simp] theorem faultTold_link (f : FaultCode) (k : Link) (y : State) : (faultTold f k y).link = k := rfl
@[simp] theorem faultTold_servo (f : FaultCode) (k : Link) (y : State) : (faultTold f k y).servo = y.servo := rfl

theorem servoFault_eq {f : FaultCode} {y : State} (hm : y.mech.state.threaded = true) (hh : y.mech.state ≠ .halt)
    (hc : ∀ c, y.mech.inFlight = some c → c.spoken) (hslot : y.mech.slot = none)
    (hr : y.roomFor (1 + (discards f.discard y.mech.inFlight).length)) :
    ∃ k : Link, servoFault f y = startShift .halt true (faultTold f k y) ∧
      k.notices = y.link.notices ++ [.mechFault f y.mech.state] ++ discards f.discard y.mech.inFlight := by
  obtain ⟨k, hk, k1, -, -⟩ := notify_eq (n := .mechFault f y.mech.state)
    (x := y.onMech fun m => { m with fault := f, recAmp := false, reel := .off, cause := none })
    (by simp only [State.roomFor, State.onMech_link] at *; omega)
  obtain ⟨l, hl, l1, -, -⟩ := discardBoth_eq (why := f.discard)
    (s := report (.interrupted (.fault f)) (report .faultSched ((y.onMech fun m =>
      { m with fault := f, recAmp := false, reel := .off, cause := none }).onLink fun _ => k)))
    hc (by simp [hslot]) (by
      simp only [State.roomFor, report_link, report_mech, State.onLink_link, State.onLink_mech, State.onMech_mech, hslot, k1, State.onMech_link,
        List.length_append, List.length_singleton, discards_none, List.length_nil] at *
      omega)
  refine ⟨l, ?_, by simpa [hslot, k1] using l1⟩
  have hmove (x : State) (hx : x.mech.state = y.mech.state) : faultMove x = startShift .halt true x := by
    unfold faultMove
    rw [hx]
    split <;> simp_all [MState.threaded]
  simp only [servoFault, hm, or_true, if_true, hk, hl]
  rw [hmove _ (by simp)]
  rfl

theorem finish_servoFault {f : FaultCode} {y : State} (hm : y.mech.state.threaded = true) (hh : y.mech.state ≠ .halt)
    (hc : ∀ c, y.mech.inFlight = some c → c.spoken) (hslot : y.mech.slot = none)
    (hr : y.roomFor (1 + (discards f.discard y.mech.inFlight).length)) (hrep : y.reports = []) (hold : y.sched.holder = none)
    (hse : y.mark.search = none) :
    ∃ k : Link, finish (servoFault f y) = (startShift .halt true (faultTold f k y)).workedOff ∧
      (startShift .halt true (faultTold f k y)).link.notices.take (y.link.notices.length + 1 + (discards f.discard y.mech.inFlight).length) =
        y.link.notices ++ [.mechFault f y.mech.state] ++ discards f.discard y.mech.inFlight ∧
      (startShift .halt true (faultTold f k y)).sched = y.sched := by
  obtain ⟨k, hk, hn⟩ := servoFault_eq hm hh hc hslot hr
  have hsched : (startShift .halt true (faultTold f k y)).sched = y.sched :=
    (startShift_sched _ _ (faultTold f k y) (.inr hold)).trans (faultTold_sched f k y)
  have hreports : (startShift .halt true (faultTold f k y)).reports = [.faultSched, .interrupted (.fault f)] := by
    simp [startShift, driveCam, aimAt, faultTold, hrep]
  have hpre := startShift_prefix .halt true (faultTold f k y)
  rw [faultTold_link] at hpre
  have htake := take_of_prefix hpre
  have hlen : k.notices.length = y.link.notices.length + 1 + (discards f.discard y.mech.inFlight).length := by
    rw [hn]; simp only [List.length_append, List.length_singleton]
  rw [hlen, hn] at htake
  refine ⟨k, ?_, htake, hsched⟩
  rw [hk, finish_workedOff false]
  · rw [hsched, hold]
  · simp [startShift, driveCam, aimAt, faultTold, hse]
  · simp [hreports]
  · simp [hreports, Report.deaf]

/-! ## The loops at their faults -/

/-- R33, R35: the drum halted and held. -/
def drumHeld (s : State) : State := loopsFollow (s.onServo fun v => { v with drum := { v.drum.halted with heldOff := true } })

/-- R37: the capstan stopped. -/
def capstanOff (s : State) : State := loopsFollow (s.onServo fun v => { v with capstan := Capstan.reset })

/-- The state a loop's fault or timer leaves before the fault is told: SERVO's alone, and POS's run of pulses. -/
structure LoopsOnly (s y : State) : Prop where
  mech : y.mech = s.mech
  mark : y.mark = s.mark
  link : y.link = s.link
  sched : y.sched = s.sched
  tuner : y.tuner = s.tuner
  clock : y.clock = s.clock
  box : y.box = s.box
  pwr : y.pwr = s.pwr
  reports : y.reports = s.reports
  counter : y.pos.counter = s.pos.counter

theorem loopsOnly_onServo (f : Servo → Servo) (s : State) : LoopsOnly s (s.onServo f) := ⟨rfl, rfl, rfl, rfl, rfl, rfl, rfl, rfl, rfl, rfl⟩

theorem loopsOnly_loopsFollow {s y : State} (h : LoopsOnly s y) : LoopsOnly s (loopsFollow y) := by
  obtain ⟨h1, h2, h3, h4, h5, h6, h7, h8, h9, h10⟩ := h
  constructor <;> simp [*]

/-- What O16 says of the shift a servo fault makes, with the PANEL command in flight discarded. -/
structure FaultShift (f : FaultCode) (s t : State) : Prop where
  mech : t.mech.state = .shifting ∧ t.mech.target = .halt ∧ t.mech.camTarget = some 3 ∧ t.mech.camTimer = some s.now ∧ t.mech.fault = f ∧
    t.mech.reel = .off ∧ t.mech.recAmp = false ∧ t.mech.junction = none ∧ t.mech.inFlight = none
  capstan : t.servo.capstan = Capstan.reset
  gate : t.servo.gate = none
  told : t.link.notices.take (s.link.notices.length + 1 + (discards f.discard s.mech.inFlight).length) =
    s.link.notices ++ [.mechFault f s.mech.state] ++ discards f.discard s.mech.inFlight
  counter : t.pos.counter = s.pos.counter
  kept : t.tuner = s.tuner ∧ t.clock = s.clock ∧ t.sched = s.sched ∧ t.box = s.box ∧ t.pwr = s.pwr

theorem servoFault_shifts {f : FaultCode} {s y : State} (hy : LoopsOnly s y) (hm : s.mech.state.threaded = true) (hh : s.mech.state ≠ .halt)
    (hc : ∀ c, s.mech.inFlight = some c → c.spoken) (hslot : s.mech.slot = none)
    (hr : s.roomFor (1 + (discards f.discard s.mech.inFlight).length)) (hrep : s.reports = []) (hold : s.sched.holder = none)
    (hse : s.mark.search = none) :
    ∃ t, finish (servoFault f y) = t ∧ FaultShift f s t ∧
      (y.servo.drum.heldOff = true → t.servo.drum.state = .stopped ∧ t.servo.drum.heldOff = true) := by
  obtain ⟨h1, h2, h3, h4, h5, h6, h7, h8, h9, h10⟩ := hy
  obtain ⟨k, hk, hn, hs⟩ := finish_servoFault (f := f) (y := y) (by rw [h1]; exact hm) (by rw [h1]; exact hh) (by rw [h1]; exact hc)
    (by rw [h1]; exact hslot) (by rw [State.roomFor, h3, h1]; exact hr) (by rw [h9, hrep]) (by rw [h4, hold]) (by rw [h2, hse])
  rw [h1, h3] at hn
  have hservo : (startShift .halt true (faultTold f k y)).servo = (setState .shifting none true (faultTold f k y)).servo := by
    simp only [startShift, driveCam, aimAt, State.onMech_servo]
  refine ⟨_, hk, ⟨?_, ?_, ?_, by rw [workedOff_link_notices]; exact hn, ?_, ?_⟩, fun hd => ?_⟩
  · simp [startShift, driveCam, aimAt, camOf, reelOf, faultTold, State.now, h6]
  · rw [workedOff_servo, hservo, shifting_servo_capstan]
  · rw [workedOff_servo, hservo, setState_servo_gate]
    rfl
  · simp [startShift, driveCam, aimAt, faultTold, h10]
  · refine ⟨?_, ?_, by rw [workedOff_sched, hs, h4], ?_, ?_⟩ <;> simp [startShift, driveCam, aimAt, faultTold, h5, h6, h7, h8]
  · rw [workedOff_servo, hservo]
    exact shifting_servo_drum (by rw [faultTold_servo]; exact hd)

/-! ## O16 -/

/-- R35, R37, R42: the three timers, each with its length, its fault and the state it leaves before the fault is told. -/
theorem loopTimer_spec {s : State} {i : Instr} {f : FaultCode} {ms t0 : Nat}
    (hi : (i = .drumLockTimeout ∧ f = .drum ∧ ms = 3000 ∧ s.servo.drum.timer = some t0) ∨
      (i = .capstanLockTimeout ∧ f = .capstan ∧ ms = 1000 ∧ s.servo.capstan.timer = some t0) ∨
      (i = .recordGuardTimeout ∧ f = .servo ∧ ms = 2000 ∧ s.servo.guard = some t0)) (h : s.pins.resetLow = false) :
    ∃ y, LoopsOnly s y ∧ (f = .drum → y.servo.drum.heldOff = true) ∧
      exec i s = .next (finish (if ms * 32768 ≤ (s.now - t0) * 1000 then servoFault f y else s)) := by
  have due (ms : Nat) : Timer.due ms s.now (some t0) = decide (ms * 32768 ≤ (s.now - t0) * 1000) := rfl
  have ends (g : State → State) (he : exec i s = .next (run g s)) : exec i s = .next (finish (g s)) := by rw [he, run_high _ _ h]
  rcases hi with ⟨rfl, rfl, rfl, ht⟩ | ⟨rfl, rfl, rfl, ht⟩ | ⟨rfl, rfl, rfl, ht⟩
  · refine ⟨drumHeld s, loopsOnly_loopsFollow (loopsOnly_onServo _ s), fun _ => by simp [drumHeld], ?_⟩
    rw [ends drumLockTimeout rfl, drumLockTimeout, ht, Config.drumLockTime, due]
    simp only [decide_eq_true_iff]
    rfl
  · refine ⟨capstanOff s, loopsOnly_loopsFollow (loopsOnly_onServo _ s), by simp, ?_⟩
    rw [ends capstanLockTimeout rfl, capstanLockTimeout, ht, Config.capstanLockTime, due]
    simp only [decide_eq_true_iff]
    rfl
  · refine ⟨s.onServo fun v => { v with guard := none }, loopsOnly_onServo _ s, by simp, ?_⟩
    rw [ends guardTimeout rfl, guardTimeout, ht, Config.guardTime, due]
    simp only [decide_eq_true_iff]

/-- R41: the gate's expiry. -/
theorem exec_gate {s : State} {t0 : Nat} (h : s.pins.resetLow = false) (hg : s.servo.gate = some t0) :
    exec .recordGateTimeout s = .next (finish (if 3000 * 32768 ≤ (s.now - t0) * 1000 then
      (if s.servo.drum.state ≠ .locked then servoFault .drum (drumHeld (s.onServo fun v => { v with gate := none }))
        else if s.servo.capstan.state ≠ .locked then servoFault .capstan (capstanOff (s.onServo fun v => { v with gate := none }))
        else s.onServo fun v => { v with gate := none }) else s)) := by
  have he : exec .recordGateTimeout s = .next (finish (gateTimeout s)) := congrArg Host.Outcome.next (run_high _ _ h)
  have due (ms : Nat) : Timer.due ms s.now (some t0) = decide (ms * 32768 ≤ (s.now - t0) * 1000) := rfl
  rw [he, gateTimeout, hg, Config.gateTime, due]
  simp only [decide_eq_true_iff]
  rfl

theorem loopsOnly_gate {s : State} (g : State → State) (hg : ∀ x, LoopsOnly x (g x)) : LoopsOnly s (g (s.onServo fun v => { v with gate := none })) := by
  obtain ⟨h1, h2, h3, h4, h5, h6, h7, h8, h9, h10⟩ := hg (s.onServo fun v => { v with gate := none })
  exact ⟨h1, h2, h3, h4, h5, h6, h7, h8, h9, h10⟩

/-- Settles O16: each timer by its length and the fault it raises. -/
theorem loopTimersRaiseServoFaults : Obligations.LoopTimersRaiseServoFaults := by
  refine ⟨fun s i f ms t0 h hi => ⟨fun hlt => ?_, fun hge hm hh hf hslot hse hold hroom => ?_⟩,
    fun s t0 c h hg hm hj => ⟨fun hlt => ?_, fun hge hboth => ?_, fun hge hf ho hsil hslot hse hold hroom => ?_⟩⟩
  · obtain ⟨y, -, -, he⟩ := loopTimer_spec hi h.1
    rw [he, if_neg (by omega), finish_closed _ h.2]
  · obtain ⟨y, hy, hd, he⟩ := loopTimer_spec hi h.1
    obtain ⟨t, ht, ⟨hmech, hcap, -, htold, hcount, hkept⟩, hdrum⟩ := servoFault_shifts (f := f) hy hm hh (by simp [hf]) hslot
      (by simpa [hf] using hroom) h.2 hold hse
    obtain ⟨m1, m2, m3, m4, m5, m6, m7, m8, -⟩ := hmech
    rw [hf] at htold
    rw [if_pos hge, ht] at he
    exact ⟨t, he, m1, m2, m3, m4, m5, m6, m7, m8, hcap, fun hfd => hdrum (hd hfd), by simpa using htold, hcount, hkept⟩
  · rw [exec_gate h.1 hg, if_neg (by omega), finish_closed _ h.2]
  · simp only [Servo.bothLocked, Bool.and_eq_true, decide_eq_true_iff] at hboth
    rw [exec_gate h.1 hg, if_pos hge, if_neg (by simp [hboth.1]), if_neg (by simp [hboth.2])]
    exact congrArg Host.Outcome.next (finish_closed _ h.2)
  · have faults (f : FaultCode) (y : State) (hy : LoopsOnly s y) (hd : f = .drum → y.servo.drum.heldOff = true)
        (he : exec .recordGateTimeout s = .next (finish (servoFault f y))) : ∃ t, exec .recordGateTimeout s = .next t ∧ FaultShift f s t ∧
          (f = .drum → t.servo.drum.state = .stopped ∧ t.servo.drum.heldOff = true) := by
      obtain ⟨t, ht, hshift, hdrum⟩ := servoFault_shifts (f := f) hy (by simp [hm, MState.threaded]) (by simp [hm])
        (by simp [hf, Cmd.spoken, ho, hsil]) hslot (by simpa [hf] using hroom) h.2 hold hse
      exact ⟨t, by rw [he, ht], hshift, fun hfd => hdrum (hd hfd)⟩
    have hx := exec_gate h.1 hg
    rw [if_pos hge] at hx
    refine ⟨fun hdrum => ?_, fun hdrum hcap => ?_⟩
    · rw [if_pos hdrum] at hx
      obtain ⟨t, he, ⟨hmech, hcapstan, hgate, htold, hcount, hkept⟩, hd⟩ := faults .drum _ (loopsOnly_gate drumHeld fun x => loopsOnly_loopsFollow (loopsOnly_onServo _ x))
        (fun _ => by simp [drumHeld]) hx
      obtain ⟨m1, m2, -, -, m5, m6, m7, m8, m9⟩ := hmech
      obtain ⟨k1, k2, k3, -⟩ := hkept
      rw [hf, hm] at htold
      exact ⟨t, he, m1, m2, m5, m8, m9, m7, m6, hgate, hcapstan, hd, by simpa [FaultCode.discard] using htold, hcount, k1, k2, k3⟩
    · rw [if_neg (by simp [hdrum]), if_pos hcap] at hx
      obtain ⟨t, he, ⟨hmech, hcapstan, hgate, htold, hcount, hkept⟩, hd⟩ := faults .capstan _ (loopsOnly_gate capstanOff fun x => loopsOnly_loopsFollow (loopsOnly_onServo _ x))
        (by simp) hx
      obtain ⟨m1, m2, -, -, m5, m6, m7, m8, m9⟩ := hmech
      obtain ⟨k1, k2, k3, -⟩ := hkept
      rw [hf, hm] at htold
      exact ⟨t, he, m1, m2, m5, m8, m9, m7, m6, hgate, hcapstan, hd, by simpa [FaultCode.discard] using htold, hcount, k1, k2, k3⟩

end Sys2Proof.Machine

/-!
Sys2Proof/Proofs/Insertion: the cassette-in switch, the seating of a cassette and the ways back to EMPTY (R2, R5, R27, R28).
-/

namespace Sys2Proof.Machine

/-! ## The switch -/

theorem exec_switchOpens {s : State} (h : s.hears) (hp : s.pwr.power ≠ .standby)
    (hk : (cassetteOpened (s.onPins fun p => { p with cassetteIn := false, tabSwitch := false })).pwr = s.pwr) :
    exec .cassetteInOpen s = .next (finish (cassetteOpened (s.onPins fun p => { p with cassetteIn := false, tabSwitch := false }))) := by
  have he : exec .cassetteInOpen s =
      .next (finish (cassetteWake (cassetteOpened (s.onPins fun p => { p with cassetteIn := false, tabSwitch := false })))) :=
    congrArg Host.Outcome.next (run_high _ _ h.1)
  rw [he, cassetteWake, if_neg (by simp [State.inStandby, hk, hp])]

theorem exec_switchCloses (tab : Bool) {s : State} (h : s.hears) (hp : s.pwr.power ≠ .standby)
    (hk : (cassetteClosed (s.onPins fun p => { p with cassetteIn := true, tabSwitch := tab })).pwr = s.pwr) :
    exec (.cassetteInClose tab) s =
      .next (finish (cassetteClosed (s.onPins fun p => { p with cassetteIn := true, tabSwitch := tab }))) := by
  have he : exec (.cassetteInClose tab) s =
      .next (finish (cassetteWake (cassetteClosed (s.onPins fun p => { p with cassetteIn := true, tabSwitch := tab })))) :=
    congrArg Host.Outcome.next (run_high _ _ h.1)
  rw [he, cassetteWake, if_neg (by simp [State.inStandby, hk, hp])]

/-! ## The seating -/

/-- R2, R27: MECH seated by an insertion, its notice still to be sent. -/
def seatedIn (s : State) : State := (seatEffects (readTab (arrivedIn .idle 1 s))).onMech fun m => { m with cause := none }

/-- R27, R29: the notice of a seating. -/
def seatedTold (s : State) : State := notify (.mechState .idle (if s.mech.recoveryRun then .recovery else .inserted)) (seatedIn s)

theorem seatedIn_link {s : State} (h : s.Quiet) : (seatedIn s).link = s.link := by
  simp only [seatedIn, seatEffects, trackingInserted, markEmptied, posInserted, readTab, State.onMech_link, State.onServo_link,
    State.onMark_link, State.onPos_link, arrivedIn_link 1 h (m := .idle) rfl]

theorem seatedIn_sched {s : State} (h : s.mech.state ≠ .record) : (seatedIn s).sched = s.sched := by
  simp only [seatedIn, seatEffects, trackingInserted, markEmptied, posInserted, readTab, State.onMech_sched, State.onServo_sched,
    State.onMark_sched, State.onPos_sched, arrivedIn_sched .idle 1 h]

/-- What a seating leaves (R27, R70, R78). -/
theorem seatedIn_facts (s : State) : (seatedIn s).mech.state = .idle ∧ (seatedIn s).mech.inFlight = s.mech.inFlight ∧
    (seatedIn s).mech.slot = s.mech.slot ∧ (seatedIn s).mech.standbyStop = s.mech.standbyStop ∧
    (seatedIn s).mech.recoveryRun = s.mech.recoveryRun ∧ (seatedIn s).mech.owner = s.mech.owner ∧
    (seatedIn s).mech.fault = s.mech.fault ∧ (seatedIn s).mech.motor = .off ∧ (seatedIn s).mech.camTarget = none ∧
    (seatedIn s).mech.camTimer = none ∧ (seatedIn s).mech.tab = s.pins.tabSwitch ∧ (seatedIn s).reports = s.reports ∧
    (seatedIn s).mark.list = [] ∧ (seatedIn s).servo.tracking.pending = some 0 ∧ (seatedIn s).servo.tracking.manual = 0 ∧
    (seatedIn s).pos = { Pos.reset with target := if s.mech.recoveryRun then none else s.pos.target } ∧
    (seatedIn s).tuner = s.tuner ∧ (seatedIn s).clock = s.clock ∧ (seatedIn s).pwr = s.pwr := by
  simp [seatedIn, seatEffects, trackingInserted, markEmptied, posInserted, readTab, arrivedIn, moveEnded, motorOff, camAt, Tracking.zero]

theorem exec_seats {s : State} (h : s.hears) (hs : s.mech.state = .inserting) (hc : s.mech.camTarget = some 1)
    (hslot : s.mech.slot = none) (hb : s.mech.standbyStop = false) :
    exec (.camTargetReached 1) s = .next (finish (standbyEnds true (recoveryEnds (settle
      (if s.mech.recoveryRun then seatedTold s else autoplay (seatedTold s)))))) := by
  obtain ⟨-, -, k3, k4, k5, -⟩ := seatedIn_facts s
  have h1 : (camAt 1 s).mech.state = .inserting := hs
  have h2 : (camAt 1 s).mech.recoveryRun = s.mech.recoveryRun ∧ (camAt 1 s).mech.standbyStop = false ∧ (camAt 1 s).mech.slot = none :=
    ⟨rfl, hb, hslot⟩
  obtain ⟨r1, r2, r3⟩ := h2
  have hslot' : (seatedTold s).mech.slot = none := by rw [seatedTold, notify_mech, k3, hslot]
  have hseat : camArrived (camAt 1 s) = standbyEnds true (recoveryEnds (settle
      (if s.mech.recoveryRun then seatedTold s else autoplay (seatedTold s)))) := by
    simp only [camArrived, h1, seated, r1, r2, r3]
    rw [show notify (.mechState .idle (if s.mech.recoveryRun = true then .recovery else .inserted))
      ((seatEffects (readTab (setState .idle none false (moveEnded (camAt 1 s))))).onMech fun m => { m with cause := none }) = seatedTold s from rfl,
      runSlot_none hslot']
    cases s.mech.recoveryRun <;> rfl
  rw [exec_camArrives h hc, hseat]

/-- R27: without autoplay the cassette rests. -/
theorem autoplay_not {x : State} (h : x.link.settings.autoplay = false ∨ x.mech.tab = true ∨ x.mech.owner ≠ .none) : autoplay x = x := by
  unfold autoplay
  rw [if_neg]
  rintro ⟨-, h1, h2, h3, -⟩
  rcases h with h | h | h
  · rw [h] at h1; cases h1
  · rw [h] at h2; cases h2
  · exact h h3

/-- R27, R29: at rest after a seating. -/
theorem seatedTold_rests {s : State} (hf : s.mech.inFlight = none) (hb : s.mech.standbyStop = false) :
    standbyEnds true (recoveryEnds (settle (seatedTold s))) = atRest (seatedTold s) := by
  obtain ⟨k1, k2, -, k4, -⟩ := seatedIn_facts s
  exact settlesAtRest (by rw [seatedTold, notify_mech, k2, hf]) (.inr (.inl (by rw [seatedTold, notify_mech, k1]))) (by rw [seatedTold, notify_mech, k4, hb])

theorem seatedTold_notices {s : State} (hq : s.Quiet) (hroom : s.roomFor 1) : (seatedTold s).link.notices =
    s.link.notices ++ [.mechState .idle (if s.mech.recoveryRun then .recovery else .inserted)] := by
  rw [seatedTold, notify_room (by rw [State.roomFor, seatedIn_link hq]; exact hroom), seatedIn_link hq]

/-- R27: the autoplay threads for PLAY, the recorder with PANEL. -/
theorem autoplay_threads {x : State} (hm : x.mech.state = .idle) (hr : x.mech.recoveryPending = false) (hf : x.mech.inFlight = none)
    (hs : x.mech.slot = none) (ha : x.link.settings.autoplay = true) (ht : x.mech.tab = false) (ho : x.mech.owner = .none)
    (hl : x.pins.leaderEnd = false) : ∃ l, (l = [] ∨ l = [Report.evaluate]) ∧
      autoplay x = (startThread .play (taken l x)).onMech fun m => { m with inFlight := some { what := .play, origin := .panel } } := by
  have hc : mechChecks (panelCmd .play false false) x = none := by
    simp [mechChecks, panelCmd, hm, hr, ownerRefuses, ho, Owner.isTimer, badFrom, recordForm, forwardTarget, reverseTarget, hl]
  obtain ⟨l, hl', he⟩ := execute_taken false (w := .play) (by simp) (by simp [hm]) (.inl ho) hc
  refine ⟨l, hl', ?_⟩
  have hx : execute { what := .play, origin := .panel } x = mechWork (panelCmd .play false false) (taken l x) := he
  unfold autoplay
  rw [if_pos (by simp [hf, hs, ha, ht, ho]), hx]
  simp [mechWork, panelCmd, taken, hm, goTo, takesTime]

/-! ## POS and the tracking on the way into THREADING -/

theorem published_threading_pos {s : State} (h : s.Quiet) : (published .threading none s).pos = { s.pos with coast := none } := by
  have hm : motionEnd s = s := by simp [motionEnd, h.motion]
  have hc : coastFollow MState.threading.onDrum s = s.onPos fun p => { p with coast := none } := rfl
  have hl (a b : MState) (x : State) (hx : x.mark.writer = .idle) : markLeave a b x = x := by simp [markLeave, hx]
  simp only [published, hm, hc]
  rw [hl _ _ _ (by split <;> simp [h.writer])]
  split <;> simp [readerClear]

theorem servoFollows_reference (m : MState) (b : Bool) (s : State) : (servoFollows m b s).servo.reference = s.servo.reference := by
  simp only [servoFollows, phaseFollow, playFollow, sessionFollow, State.onServo_servo]
  (repeat' split) <;> rfl

theorem servoFollows_tracking (m : MState) (b : Bool) (s : State) :
    (servoFollows m b s).servo.tracking = s.servo.tracking.enter m s.mech.state := by
  have h (x : State) : (playFollow m s.mech.state (sessionFollow s.mech.state x)).servo.tracking = x.servo.tracking := by
    simp only [playFollow, sessionFollow, State.onServo_servo]
    (repeat' split) <;> rfl
  simp [servoFollows, phaseFollow, h]

/-- R64: outside PLAY and RECORD no identification run goes on. -/
theorem loopsFollow_pos {s : State} (hm : s.mech.state ≠ .play ∧ s.mech.state ≠ .record) :
    (loopsFollow s).pos = { s.pos with candidate := none, run := 0 } := by
  simp [loopsFollow, attempts, hm, runClear]

/-- R40, R64: entering THREADING without a motion ends an overshoot and the identification run. -/
theorem threading_pos {s : State} (h : s.Quiet) :
    (setState .threading none false s).pos = { s.pos with coast := none, candidate := none, run := 0 } := by
  have hmo : motionOf .threading none = none := rfl
  have hm : (servoFollows s.mech.state false (published .threading none s)).mech.state = .threading := published_mech_state _ _ s
  have hr : testReference (servoFollows s.mech.state false (published .threading none s)) =
      servoFollows s.mech.state false (published .threading none s) :=
    testReference_quiet (by rw [servoFollows_reference, published_servo, h.reference]) (by rw [hm]; rfl)
  have hp : (servoFollows s.mech.state false (published .threading none s)).pos = { s.pos with coast := none } := published_threading_pos h
  rw [setState_eq, hmo]
  simp only [servoEnter_eq, hr]
  rw [loopsFollow_pos (by simp [hm]), hp]

theorem threading_tracking (s : State) : (setState .threading none false s).servo.tracking.pending = s.servo.tracking.pending ∧
    (setState .threading none false s).servo.tracking.manual = s.servo.tracking.manual := by
  have ht : (setState .threading none false s).servo.tracking = s.servo.tracking.enter s.mech.state .threading := by
    rw [setState_servo, servoEnter_eq, loopsFollow_servo_tracking, testReference_servo_tracking, servoFollows_tracking, published_mech_state,
      published_servo]
  rw [ht]
  unfold Tracking.enter
  split <;> simp [Tracking.idle]

end Sys2Proof.Machine

/-!
Sys2Proof/Proofs/CassetteSwitch: O11: the switch, the seating, and the ways back to EMPTY.
-/

namespace Sys2Proof.Machine

/-! ## The seating's steps -/

theorem quiet_seatedTold {s : State} (h : s.Quiet) : (seatedTold s).Quiet := by
  obtain ⟨-, hw, hr⟩ := setState_quiet (m := .idle) none false (quiet_camAt 1 h) rfl
  refine ⟨?_, ?_, ?_⟩
  · simp [seatedTold, seatedIn, seatEffects, trackingInserted, markEmptied, posInserted, Pos.reset]
  · simpa [seatedTold, seatedIn, seatEffects, trackingInserted, markEmptied, posInserted, readTab, arrivedIn] using hw
  · simpa [seatedTold, seatedIn, seatEffects, trackingInserted, markEmptied, posInserted, readTab, arrivedIn] using hr

/-- R27: a seating without autoplay. -/
theorem exec_seats_rests {s : State} (h : s.hears) (hs : s.mech.state = .inserting) (hc : s.mech.camTarget = some 1)
    (hf : s.mech.inFlight = none) (hslot : s.mech.slot = none) (hb : s.mech.standbyStop = false) (hr : s.mech.recoveryRun = false)
    (ho : s.mech.owner ≠ .panel)
    (ha : s.link.settings.autoplay = false ∨ s.pins.tabSwitch = true ∨ s.mech.owner ≠ .none) (hq : s.Quiet) :
    exec (.camTargetReached 1) s = .next (atRest (seatedTold s)).closed := by
  obtain ⟨-, -, -, -, k5, k6, -, -, -, -, k11, k12, -⟩ := seatedIn_facts s
  have hnot : autoplay (seatedTold s) = seatedTold s := by
    refine autoplay_not ?_
    rw [seatedTold, notify_mech, k11, k6, notify_link_settings, seatedIn_link hq]
    exact ha
  rw [exec_seats h hs hc hslot hb, hr, if_neg (by decide), hnot, seatedTold_rests hf hb, finish_closed]
  simp [atRest, restReports, seatedTold, k12, h.2, k6, ho, k5, hr]

/-- R29: a recovery run that seats a cassette. -/
theorem exec_seats_recovered {s : State} (h : s.hears) (hs : s.mech.state = .inserting) (hc : s.mech.camTarget = some 1)
    (hf : s.mech.inFlight = none) (hslot : s.mech.slot = none) (hb : s.mech.standbyStop = false) (hr : s.mech.recoveryRun = true)
    (ho : s.mech.owner ≠ .panel) (hm : s.pwr.resetMark = false) (hh : s.sched.holder = none) :
    exec (.camTargetReached 1) s = .next (atRest (seatedTold s)).workedOff := by
  obtain ⟨-, -, -, -, k5, k6, -, -, -, -, k11, k12, -, -, -, -, -, -, k19⟩ := seatedIn_facts s
  have hsched := seatedIn_sched (s := s) (by simp [hs])
  rw [exec_seats h hs hc hslot hb, hr, if_pos rfl, seatedTold_rests hf hb, finish_one (r := .recoveryEnded)]
  · simp [atRest, restReports, seatedTold, k12, h.2, k6, ho, k5, hr]
  · have h1 : ((atRest (seatedTold s)).nextReport []).pwr.resetMark = false := by simp [State.nextReport, seatedTold, k19, hm]
    have h2 : ((atRest (seatedTold s)).nextReport []).sched.holder = none := by simp [State.nextReport, seatedTold, hsched, hh]
    simp [handleReport, powerRecovered, h1, prepare, h2]

/-- R27: a seating that plays. -/
theorem exec_seats_plays {s : State} (h : s.hears) (hs : s.mech.state = .inserting) (hc : s.mech.camTarget = some 1)
    (hf : s.mech.inFlight = none) (hslot : s.mech.slot = none) (hb : s.mech.standbyStop = false) (hr : s.mech.recoveryRun = false)
    (ho : s.mech.owner = .none) (ha : s.link.settings.autoplay = true) (ht : s.pins.tabSwitch = false) (hl : s.pins.leaderEnd = false)
    (hp : s.mech.recoveryPending = false) (hn : s.noOccurrence) (hq : s.Quiet) :
    ∃ (d : Option Nat) (l : List Report), exec (.camTargetReached 1) s = .next (ended d ((startThread .play (taken l (seatedTold s))).onMech
      fun m => { m with inFlight := some { what := .play, origin := .panel } })) := by
  obtain ⟨k1, k2, k3, k4, k5, k6, -, -, -, -, k11, k12, -⟩ := seatedIn_facts s
  have hsched := seatedIn_sched (s := s) (by simp [hs])
  obtain ⟨l, hl', he⟩ := autoplay_threads (x := seatedTold s) (by simp [seatedTold, k1])
    (by simpa [seatedTold, seatedIn, seatEffects, trackingInserted, markEmptied, posInserted, readTab, arrivedIn, moveEnded, motorOff, camAt] using hp)
    (by simp [seatedTold, k2, hf]) (by simp [seatedTold, k3, hslot])
    (by rw [seatedTold, notify_link_settings, seatedIn_link hq]; exact ha) (by simp [seatedTold, k11, ht]) (by simp [seatedTold, k6, ho])
    (by simpa [seatedTold, seatedIn, seatEffects, trackingInserted, markEmptied, posInserted, readTab, arrivedIn, moveEnded, motorOff, camAt] using hl)
  have hts : (startThread .play (taken l (seatedTold s))).sched = s.sched := by
    rw [startThread_sched (by simp [taken, seatedTold, k1]), taken_sched, seatedTold, notify_sched, hsched]
  obtain ⟨d, hd⟩ := finish_quiet ((startThread .play (taken l (seatedTold s))).onMech fun m =>
      { m with inFlight := some { what := .play, origin := .panel } })
    (hn.of_sched (by rw [State.onMech_sched, hts]))
    (by simpa [startThread, driveCam, aimAt, seatedTold, k12, h.2] using hl')
  have hrest : standbyEnds true (recoveryEnds (settle ((startThread .play (taken l (seatedTold s))).onMech fun m =>
      { m with inFlight := some { what := .play, origin := .panel } }))) =
      (startThread .play (taken l (seatedTold s))).onMech fun m => { m with inFlight := some { what := .play, origin := .panel } } := by
    rw [settle_kept (.inl (by simp))]
    simp [recoveryEnds, standbyEnds, startThread, driveCam, aimAt, taken, seatedTold, k5, hr, k4, hb]
  exact ⟨d, l, by rw [exec_seats h hs hc hslot hb, hr, if_neg (by decide), he, hrest, hd]; rfl⟩

theorem startThread_cleared {m : MState} {x : State} (hq : x.Quiet) {g : Option Int} (hp : x.pos = { Pos.reset with target := g }) :
    (startThread m x).pos = { Pos.reset with target := g } ∧
    (startThread m x).servo.tracking.pending = x.servo.tracking.pending ∧ (startThread m x).servo.tracking.manual = x.servo.tracking.manual := by
  simp only [startThread, driveCam, aimAt, State.onMech_pos, State.onMech_servo, threading_pos hq, hp, threading_tracking x]
  simp [Pos.reset]

/-! ## EMPTY -/

/-- R28: what EMPTY leaves. -/
theorem emptyAfter_facts (x : State) : (emptyAfter x).mech.state = .empty ∧ (emptyAfter x).mech.tab = false ∧ (emptyAfter x).mech.fault = .none ∧
    (emptyAfter x).mech.motor = .off ∧ (emptyAfter x).mech.reel = .off ∧ (emptyAfter x).mech.recAmp = false ∧
    (emptyAfter x).mech.camTarget = none ∧ (emptyAfter x).mech.camTimer = none ∧
    (emptyAfter x).mech.inFlight = x.mech.inFlight ∧ (emptyAfter x).mech.slot = x.mech.slot ∧ (emptyAfter x).mech.owner = x.mech.owner ∧
    (emptyAfter x).mech.lastCode = x.mech.lastCode ∧ (emptyAfter x).mech.recoveryRun = x.mech.recoveryRun ∧
    (emptyAfter x).mech.standbyStop = x.mech.standbyStop ∧ (emptyAfter x).pins = x.pins ∧ (emptyAfter x).pos = Pos.reset ∧
    (emptyAfter x).mark.list = [] ∧ (emptyAfter x).tuner = x.tuner ∧ (emptyAfter x).clock = x.clock ∧ (emptyAfter x).pwr = x.pwr ∧
    (emptyAfter x).reports = x.reports ∧
    (emptyAfter x).link.settings = { x.link.settings with currentStd := x.link.settings.pendingStd,
                                                          recordSpeed := x.link.settings.recordSpeed.legal x.link.settings.pendingStd } := by
  simp [emptyAfter, emptiedFrom, emptyEffects, standardCurrent, markEmptied, posEmptied, moveEnded, motorOff, reelOf]

theorem emptyAfter_sched {x : State} (h : x.mech.state ≠ .record) : (emptyAfter x).sched = x.sched := by
  rw [emptyAfter, emptiedFrom_sched, setState_sched _ _ _ _ (.inl (by simpa [moveEnded, motorOff] using h))]
  rfl

/-- R10, R28: EMPTY outside a recovery run, with nothing stored, under the owner NONE; a command in flight is closed. -/
theorem becomeEmpty_plain {x : State} (hr : x.mech.recoveryRun = false) (hslot : x.mech.slot = none) (hb : x.mech.standbyStop = false)
    (ho : x.mech.owner = .none) :
    (x.mech.inFlight = none → becomeEmpty x = emptyAfter x) ∧
    (∀ c, x.mech.inFlight = some c → c.spoken →
      becomeEmpty x = notify (.mechDone c.what .panel .empty) ((emptyAfter x).onMech fun m => { m with inFlight := none })) := by
  obtain ⟨-, -, -, -, -, -, -, -, k9, k10, k11, -, k13, k14, -⟩ := emptyAfter_facts x
  have hbe : becomeEmpty x = standbyEnds true (recoveryEnds (settle (runSlot (closeInFlight (.done .empty) (emptyAfter x))))) := by
    simp only [becomeEmpty, hr, Bool.false_eq_true, if_false]
    rfl
  have rests (y : State) (h1 : y.mech.owner = .none) (h2 : y.mech.recoveryRun = false) (h3 : y.mech.standbyStop = false)
      (h4 : y.mech.slot = none) : standbyEnds true (recoveryEnds (settle (runSlot y))) = y := by
    rw [runSlot_none h4, settle_kept (.inr (.inr (by simp [h1])))]
    simp [recoveryEnds, standbyEnds, h2, h3]
  refine ⟨fun hf => ?_, fun c hf hc => ?_⟩
  · rw [hbe, closeInFlight_none (by rw [k9, hf]), rests _ (by rw [k11, ho]) (by rw [k13, hr]) (by rw [k14, hb]) (by rw [k10, hslot])]
  · rw [hbe, closeInFlight_panel (by rw [k9, hf]) hc.1 hc.2,
      rests _ (by simp [k11, ho]) (by simp [k13, hr]) (by simp [k14, hb]) (by simp [k10, hslot])]
    simp [closingNotice, hc.1]

/-! ## EJECT in JAMMED -/

/-- R5: EJECT is taken from JAMMED. -/
theorem exec_ejectJammed {s : State} (ht : s.takes) (hf : s.deckFree) (hs : s.mech.state = .jammed) (ho : s.mech.owner = .none)
    {r : State × ExecResult} (h : mechWork (panelCmd .eject false false) s = r) (hr : r.1.reports = []) :
    exec .eject s = .next ((mechAnswer r).1.answered 1 (mechAnswer r).2.result (mechAnswer r).2.reason (mechAnswer r).2.data).closed := by
  have hc : mechChecks (panelCmd .eject false false) s = none := by
    simp [mechChecks, panelCmd, hs, hf.1, ownerRefuses, ho, Owner.isTimer, badFrom, recordForm, forwardTarget, reverseTarget]
  refine exec_submitted (i := .eject) (w := .eject) (p := false) (c := false) (by simp [mechForms]) ht hf.2.2.2.2.2 (by simp [cancelsTimer]) ?_ hr
  rw [submit_free _ hf, execute_passed hc, if_pos (.inr rfl), clearFault, if_pos hs, h]

theorem mechWork_ejectJammed {s : State} (hs : s.mech.state = .jammed) : mechWork (panelCmd .eject false false) s =
    if s.pins.cam = 0 ∧ s.pins.cassetteIn = false then (freedAtOnce s, .done) else takesTime (panelCmd .eject false false) (ejectWork s) := by
  simp [mechWork, panelCmd, hs]

theorem ejectWork_jammed {s : State} (hs : s.mech.state = .jammed) : ejectWork s =
    if s.pins.cam = 0 then (motorOff (startEject (readCam s))).onMech fun m => { m with ejectRead := true }
    else if s.pins.cam = 1 then startEject (readCam s) else startUnthread .empty (readCam s) := by
  simp only [ejectWork, hs]

theorem cassetteOpened_jammed {x : State} (hs : x.mech.state = .jammed) :
    cassetteOpened x = if x.pins.cam = 0 then becomeEmpty (readCam x) else x := by
  simp only [cassetteOpened, hs]

theorem freedAtOnce_eq {s : State} (ho : s.mech.owner = .none) :
    freedAtOnce s = (emptyEffects (setState .empty none false (readCam s))).onMech fun m => { m with fault := .none } := by
  rw [freedAtOnce, settle_kept (.inr (.inr (by simp [emptyEffects, standardCurrent, markEmptied, posEmptied, readCam, ho])))]

/-! ## O11 -/

/-- Settles O11: the switch by `cassetteClosed` and `cassetteOpened`, the seating by what it leaves, EMPTY by `emptyAfter`. -/
theorem cassetteSwitchSeatsAndFrees : Obligations.CassetteSwitchSeatsAndFrees := by
  refine ⟨fun tab s h hp hs => ⟨fun hg => ?_, fun hg => ?_⟩,
    fun s h hs hc hf hslot hb hmo hw href hroom => ⟨fun hr ho ha => ?_, fun hr ho ha ht hl hp hn => ?_, fun hr ho hm hh => ?_⟩,
    fun s h hp hs => ?_, fun s h hp hs he hf hslot ho hr hb hmo hw href hroom => ?_, fun s ht hf hs ho => ?_⟩
  · have hcl : cassetteClosed (s.onPins fun p => { p with cassetteIn := true, tabSwitch := tab }) =
        s.onPins fun p => { p with cassetteIn := true, tabSwitch := tab } := by
      have : (s.onPins fun p => { p with cassetteIn := true, tabSwitch := tab }).supplyGood = false := hg
      simp [cassetteClosed, hs, this]
    rw [exec_switchCloses tab h hp (by rw [hcl]; rfl), hcl, finish_closed _ (by exact h.2)]
  · have hcl : cassetteClosed (s.onPins fun p => { p with cassetteIn := true, tabSwitch := tab }) =
        startInsert (s.onPins fun p => { p with cassetteIn := true, tabSwitch := tab }) := by
      have : (s.onPins fun p => { p with cassetteIn := true, tabSwitch := tab }).supplyGood = true := hg
      simp [cassetteClosed, hs, this]
    refine ⟨_, by rw [exec_switchCloses tab h hp (by rw [hcl]; simp [startInsert, driveCam, aimAt]), hcl,
      finish_closed _ (by simp [startInsert, driveCam, aimAt, h.2])], ?_⟩
    simp only [closed_sched, startInsert_sched (s := s.onPins fun p => { p with cassetteIn := true, tabSwitch := tab }) (by simp [hs])]
    simp [startInsert, driveCam, aimAt, State.now]
    intro hlast
    simp [hlast]
  · obtain ⟨k1, k2, k3, k4, k5, k6, k7, k8, k9, k10, k11, k12, k13, k14, k15, k16, k17, k18, k19⟩ := seatedIn_facts s
    have hsched := seatedIn_sched (s := s) (by simp [hs])
    have hnote := seatedTold_notices ⟨hmo, hw, href⟩ hroom
    rw [hr, if_neg (by decide)] at hnote
    refine ⟨_, exec_seats_rests h hs hc hf hslot hb hr ho ha ⟨hmo, hw, href⟩, ⟨?_, ?_, ?_, ?_, ?_, by rw [closed_link_notices, atRest_link, hnote], ?_, ?_, ?_, ?_⟩, ?_⟩ <;>
      simp [atRest, seatedTold, Owner.settled, *]
  · obtain ⟨k1, k2, k3, k4, k5, k6, k7, k8, k9, k10, k11, k12, k13, k14, k15, k16, k17, k18, k19⟩ := seatedIn_facts s
    obtain ⟨d, l, he⟩ := exec_seats_plays h hs hc hf hslot hb hr ho ha ht hl hp hn ⟨hmo, hw, href⟩
    have hq := (quiet_seatedTold (s := s) ⟨hmo, hw, href⟩).taken l
    have hnote := seatedTold_notices ⟨hmo, hw, href⟩ hroom
    rw [hr, if_neg (by decide)] at hnote
    have hpos : (taken l (seatedTold s)).pos = { Pos.reset with target := s.pos.target } := by
      simp [taken, seatedTold, k16, hr]
    obtain ⟨p1, p2, p3⟩ := startThread_cleared (m := .play) hq hpos
    have hsched : (startThread .play (taken l (seatedTold s))).sched = s.sched := by
      rw [startThread_sched (by simp [taken, seatedTold, k1]), taken_sched, seatedTold, notify_sched, seatedIn_sched (by simp [hs])]
    refine ⟨_, he, ⟨?_, ?_, ?_, ?_, ?_, ?_, ?_, ?_, ?_, ?_⟩, ?_⟩
    · simp [startThread, driveCam, aimAt, taken, seatedTold, k11]
    · rw [ended_pos, State.onMech_pos, p1]
    · simp [startThread, driveCam, aimAt, taken, seatedTold, k13]
    · rw [ended_servo, State.onMech_servo, p2]
      simp [taken, seatedTold, k14]
    · rw [ended_servo, State.onMech_servo, p3]
      simp [taken, seatedTold, k15]
    · rw [ended_link_notices, State.onMech_link, startThread_link hq, taken_link, hnote]
    · simp [startThread, driveCam, aimAt, taken, seatedTold, k17]
    · simp [startThread, driveCam, aimAt, taken, seatedTold, k18]
    · rw [ended_sched, State.onMech_sched, hsched]
    · simp [startThread, driveCam, aimAt, taken, seatedTold, k19]
    · simp [startThread, driveCam, aimAt, taken, seatedTold, k18, State.now]
  · obtain ⟨k1, k2, k3, k4, k5, k6, k7, k8, k9, k10, k11, k12, k13, k14, k15, k16, k17, k18, k19⟩ := seatedIn_facts s
    have hsched := seatedIn_sched (s := s) (by simp [hs])
    have hnote := seatedTold_notices ⟨hmo, hw, href⟩ hroom
    rw [hr, if_pos rfl] at hnote
    refine ⟨_, exec_seats_recovered h hs hc hf hslot hb hr ho hm hh, ⟨?_, ?_, ?_, ?_, ?_, by rw [workedOff_link_notices, atRest_link, hnote], ?_, ?_, ?_, ?_⟩, ?_, ?_⟩ <;>
      simp [atRest, seatedTold, Owner.settled, *]
  · have hop : cassetteOpened (s.onPins fun p => { p with cassetteIn := false, tabSwitch := false }) =
        (startEject (s.onPins fun p => { p with cassetteIn := false, tabSwitch := false })).onMech fun m => { m with motor := .rev } := by
      simp [cassetteOpened, hs]
    refine ⟨_, by rw [exec_switchOpens h hp (by rw [hop]; simp [startEject, driveCam, aimAt]), hop,
      finish_closed _ (by simp [startEject, driveCam, aimAt, h.2])], ?_⟩
    simp [startEject, driveCam, aimAt, State.now, setState_sched, hs]
  · let x : State := s.onPins fun p => { p with cassetteIn := false, tabSwitch := false }
    have hq : x.Quiet := State.Quiet.onPins ⟨hmo, hw, href⟩ _
    obtain ⟨k1, k2, k3, k4, k5, k6, k7, k8, k9, k10, k11, k12, k13, k14, k15, k16, k17, k18, k19, k20, k21, k22⟩ := emptyAfter_facts x
    obtain ⟨-, -, n3, -⟩ := emptyAfter_keeps (x := x) (by simp [x, hs]) hq
    have hsched := emptyAfter_sched (x := x) (by simp [x, hs])
    have hop : cassetteOpened x = notify (.mechDone .eject .panel .empty) ((emptyAfter x).onMech fun m => { m with inFlight := none }) := by
      have : cassetteOpened x = becomeEmpty x := by simp [cassetteOpened, x, hs, he]
      rw [this, (becomeEmpty_plain (x := x) hr hslot hb ho).2 _ hf ⟨rfl, rfl⟩]
    have hnote : (notify (.mechDone .eject .panel .empty) ((emptyAfter x).onMech fun m => { m with inFlight := none })).link.notices =
        s.link.notices ++ [.mechDone .eject .panel .empty] := by
      rw [notify_room (by rw [State.roomFor, State.onMech_link, n3]; exact hroom), State.onMech_link, n3]
      rfl
    refine ⟨_, by rw [exec_switchOpens h hp (by rw [hop]; simp [k20, x]), hop, finish_closed _ (by simp [k21, x, h.2])],
      ?_, ?_, ?_, ?_, ?_, ?_, ?_, ?_, ?_, ?_, ?_, by rw [closed_link_notices, hnote], ?_, ?_, ?_, ?_⟩ <;> simp [*] <;> simp [x, h.1]
  · have hfree := hf
    obtain ⟨hrp, hb, hfl, hslot, -, hse⟩ := hf
    refine ⟨fun hcam hin => ?_, fun hcam hin => ?_, fun hcam => ?_, fun hc0 hc1 => ?_, fun hcam hr => ?_, fun hcam => ?_⟩
    · have hw := mechWork_ejectJammed hs
      rw [if_pos ⟨hcam, hin⟩, freedAtOnce_eq ho] at hw
      refine ⟨_, exec_ejectJammed ht hfree hs ho hw ?_, ?_⟩
      · simp [emptyEffects, standardCurrent, markEmptied, posEmptied, readCam, ht.1.2]
      · simp [mechAnswer, done, State.answered, emptyEffects, standardCurrent, markEmptied, posEmptied, readCam, hcam, hfl, ho, reelOf, setState_sched, hs]
    · have hw := mechWork_ejectJammed hs
      rw [if_neg (by simp [hin]), ejectWork_jammed hs, if_pos hcam] at hw
      refine ⟨_, exec_ejectJammed ht hfree hs ho hw ?_, ?_⟩
      · simp [takesTime, motorOff, startEject, driveCam, aimAt, readCam, ht.1.2]
      · simp [mechAnswer, accepted, State.answered, takesTime, motorOff, startEject, driveCam, aimAt, readCam, hcam, hfl, ho, reelOf, setState_sched, hs, panelCmd, State.now]
    · have hw := mechWork_ejectJammed hs
      rw [if_neg (by simp [hcam]), ejectWork_jammed hs, if_neg (by rw [hcam]; decide), if_pos hcam] at hw
      refine ⟨_, exec_ejectJammed ht hfree hs ho hw ?_, ?_⟩
      · simp [takesTime, startEject, driveCam, aimAt, readCam, ht.1.2]
      · simp [mechAnswer, accepted, State.answered, takesTime, startEject, driveCam, aimAt, readCam, hcam, hfl, ho, reelOf, setState_sched, hs, panelCmd, State.now]
    · have hw := mechWork_ejectJammed hs
      rw [if_neg (fun hz => hc0 hz.1), ejectWork_jammed hs, if_neg hc0, if_neg hc1] at hw
      refine ⟨_, exec_ejectJammed ht hfree hs ho hw ?_, ?_⟩
      · simp [takesTime, startUnthread, driveCam, aimAt, readCam, ht.1.2]
      · simp [mechAnswer, accepted, State.answered, takesTime, startUnthread, driveCam, aimAt, readCam, hfl, ho, reelOf, setState_sched, hs, panelCmd, State.now]
    · let x : State := readCam (s.onPins fun p => { p with cassetteIn := false, tabSwitch := false })
      obtain ⟨k1, k2, k3, k4, k5, k6, k7, k8, k9, k10, k11, k12, k13, k14, k15, k16, k17, k18, k19, k20, k21, k22⟩ := emptyAfter_facts x
      have hsched := emptyAfter_sched (x := x) (by simp [x, readCam, hs])
      have hcode : x.mech.lastCode = some 0 := by simp [x, readCam, hcam]
      have hop : cassetteOpened (s.onPins fun p => { p with cassetteIn := false, tabSwitch := false }) = emptyAfter x := by
        rw [cassetteOpened_jammed (by exact hs), if_pos (by exact hcam), (becomeEmpty_plain (x := x) hr hslot hb ho).1 hfl]
      refine ⟨_, by rw [exec_switchOpens ht.1 ht.2.1 (by rw [hop, k20]; rfl), hop, finish_closed _ (by rw [k21]; exact ht.1.2)], ?_, ?_⟩
      · refine ⟨?_, ?_, ?_, ?_, ?_, ?_, ?_, ?_, ?_, ?_, ?_, ?_, ?_, ?_, ?_⟩ <;> simp [*] <;> simp [x, readCam, hfl, ho]
      · rw [closed_pins, k15]
        rfl
    · have hop : cassetteOpened (s.onPins fun p => { p with cassetteIn := false, tabSwitch := false }) =
          s.onPins fun p => { p with cassetteIn := false, tabSwitch := false } := by
        exact (cassetteOpened_jammed (x := s.onPins fun p => { p with cassetteIn := false, tabSwitch := false }) hs).trans (if_neg hcam)
      rw [exec_switchOpens ht.1 ht.2.1 (by rw [hop]; rfl), hop, finish_closed _ (by exact ht.1.2)]

end Sys2Proof.Machine

/-!
Sys2Proof/Proofs/Settings: STATUS and the settings record (R207 to R209).
-/

namespace Sys2Proof.Machine

/-! ## Bytes -/

theorem byte_mod (n : Nat) : byte (n % 256) = byte n := BitVec.eq_of_toNat_eq (by simp [byte])

/-- The three bytes of a signed counter, from its value modulo 2^24. -/
theorem sbe24_eq (v : Int) : sbe24 v =
    [byte (v % 16777216 / 65536).toNat, byte (v % 16777216 / 256 % 256).toNat, byte (v % 16777216 % 256).toNat] := by
  obtain ⟨n, hn⟩ : ∃ n : Nat, v % 16777216 = n := Int.eq_ofNat_of_zero_le (Int.emod_nonneg v (by decide))
  have hv : (BitVec.ofInt 24 v).toNat = n := by
    rw [BitVec.toNat_ofInt, show ((2 ^ 24 : Nat) : Int) = 16777216 from rfl, hn]
    rfl
  have h1 : ((n : Int) / 65536).toNat = n / 65536 := by omega
  have h2 : ((n : Int) / 256 % 256).toNat = n / 256 % 256 := by omega
  have h3 : ((n : Int) % 256).toNat = n % 256 := by omega
  rw [sbe24, be24, hv, hn, h1, h2, h3, byte_mod, byte_mod]

theorem be16_eq (n : Nat) : be16 n = [byte (n / 256), byte (n % 256)] := by rw [be16, byte_mod]

/-! ## The record -/

theorem standardOf_isSome (n : Nat) : (standardOf n).isSome = decide (n < 2) := by
  match n with
  | 0 | 1 => rfl
  | n + 2 => simp [standardOf]

theorem speedOf_isSome (n : Nat) : (speedOf n).isSome = decide (n < 3) := by
  match n with
  | 0 | 1 | 2 => rfl
  | n + 3 => simp [speedOf]

theorem standardOf_getD {b : Byte} (h : b.toNat < 2) (old : Standard) : (standardOf b.toNat).getD old = if b = 0 then .a else .b := by
  obtain rfl | rfl : b = 0 ∨ b = 1 := by
    obtain h | h : b.toNat = 0 ∨ b.toNat = 1 := by omega
    · exact .inl (BitVec.eq_of_toNat_eq h)
    · exact .inr (BitVec.eq_of_toNat_eq h)
  all_goals rfl

theorem speedOf_getD {b : Byte} (h : b.toNat < 3) (old : Speed) :
    (speedOf b.toNat).getD old = if b = 0 then .s else if b = 1 then .h else .t := by
  obtain rfl | rfl | rfl : b = 0 ∨ b = 1 ∨ b = 2 := by
    obtain h | h | h : b.toNat = 0 ∨ b.toNat = 1 ∨ b.toNat = 2 := by omega
    · exact .inl (BitVec.eq_of_toNat_eq h)
    · exact .inr (.inl (BitVec.eq_of_toNat_eq h))
    · exact .inr (.inr (BitVec.eq_of_toNat_eq h))
  all_goals rfl

/-- R209: what a write is refused for. -/
theorem settingsGood_false_iff (r : SettingsBytes) : settingsGood r = false ↔ 16 ≤ r.mask.toNat ∨ (bitOf r.mask 0 = true ∧ 2 ≤ r.standard.toNat) ∨
    (bitOf r.mask 1 = true ∧ 3 ≤ r.speed.toNat) ∨ (bitOf r.mask 3 = true ∧ 80 < r.feed.toNat) := by
  have hf : decide (r.feed.toNat ≤ Config.presetCount) = false ↔ 80 < r.feed.toNat := decide_eq_false_iff_not.trans Nat.not_le
  simp only [settingsGood, standardOf_isSome, speedOf_isSome, hf, Bool.and_eq_false_iff, Bool.or_eq_false_iff,
    Bool.not_eq_false', decide_eq_false_iff_not, Nat.not_lt]
  tauto

/-- R209: the fields the mask names taken, the others kept. -/
theorem settingsMasked_eq {r : SettingsBytes} (h : settingsGood r = true) (x : Settings) : settingsMasked r x =
    { x with
      pendingStd := if bitOf r.mask 0 then (if r.standard = 0 then Standard.a else .b) else x.pendingStd
      recordSpeed := if bitOf r.mask 1 then (if r.speed = 0 then Speed.s else if r.speed = 1 then .h else .t) else x.recordSpeed
      autoRewind := if bitOf r.mask 2 then bitOf r.switches 0 else x.autoRewind
      autoplay := if bitOf r.mask 2 then bitOf r.switches 1 else x.autoplay
      indexStart := if bitOf r.mask 2 then bitOf r.switches 2 else x.indexStart
      autoClock := if bitOf r.mask 2 then bitOf r.switches 3 else x.autoClock
      keyWake := if bitOf r.mask 2 then bitOf r.switches 4 else x.keyWake
      casWake := if bitOf r.mask 2 then bitOf r.switches 5 else x.casWake
      counterNotices := if bitOf r.mask 2 then bitOf r.switches 6 else x.counterNotices
      remainingNotices := if bitOf r.mask 2 then bitOf r.switches 7 else x.remainingNotices
      boxFeed := if bitOf r.mask 3 then (if r.feed = 0 then none else some r.feed.toNat) else x.boxFeed } := by
  have hbad := mt (settingsGood_false_iff r).mpr (by simp [h])
  simp only [not_or, not_and, Nat.not_le] at hbad
  obtain ⟨-, hstd, hspeed, -⟩ := hbad
  have h0 (hb : bitOf r.mask 0 = true) := standardOf_getD (hstd hb) x.pendingStd
  have h1 (hb : bitOf r.mask 1 = true) := speedOf_getD (hspeed hb) x.recordSpeed
  unfold settingsMasked
  cases b0 : bitOf r.mask 0 <;> cases b1 : bitOf r.mask 1 <;> cases bitOf r.mask 2 <;> cases bitOf r.mask 3 <;> simp [b0, b1, h0, h1]

/-- The current standard after a write (R28, R209). -/
def standardAfter (empty : Prop) [Decidable empty] (new : Standard) (x : Settings) : Standard :=
  if empty ∧ new ≠ x.pendingStd then new else x.currentStd

/-- R28, R208, R209: the record after a write that is taken. -/
theorem settingsWritten_eq {r : SettingsBytes} (h : settingsGood r = true) (m : MState) (x : Settings) :
    settingsWritten (decide (m = .empty)) r x = { settingsMasked r x with
      currentStd := standardAfter (m = .empty) (settingsMasked r x).pendingStd x
      recordSpeed := (settingsMasked r x).recordSpeed.legal (standardAfter (m = .empty) (settingsMasked r x).pendingStd x) } := by
  have hcur : (settingsMasked r x).currentStd = x.currentStd := by rw [settingsMasked_eq h]
  have hcond : (decide (m = .empty) && decide ((settingsMasked r x).pendingStd ≠ x.pendingStd)) = true ↔
      m = .empty ∧ (settingsMasked r x).pendingStd ≠ x.pendingStd := by simp
  by_cases hc : m = .empty ∧ (settingsMasked r x).pendingStd ≠ x.pendingStd
  · simp only [settingsWritten, speedCorrected, if_pos (hcond.mpr hc), standardAfter, if_pos hc]
  · simp only [settingsWritten, speedCorrected, if_neg (mt hcond.mp hc), standardAfter, if_neg hc, hcur]

/-! ## O53 -/

/-- Settles O53: each request by what its block answers. -/
theorem statusRelatchesAndSettingsAreKept : Obligations.StatusRelatchesAndSettingsAreKept := by
  intro s r ht
  refine ⟨⟨?_, ?_, rfl, ?_, ?_, fun hg hb htg => ?_⟩, ?_, rfl, fun hbad => ?_, fun hgood => ?_⟩
  · exact congrArg Host.Outcome.next (run_request_closed .status s ht (by simp) _ rfl ht.1.2)
  · simp [statusData, sbe24_eq, be16]
  · simp [statusData, sbe24_eq]
  · simp [statusData, sbe24_eq]
  · simp [statusData, sbe24_eq, be16_eq]
  · exact congrArg Host.Outcome.next (run_request_closed .settingsRead s ht (by simp) _ rfl ht.1.2)
  · have hw : settingsWrite r s = refuse s .invalidArg := by
      rw [settingsWrite, if_neg (by simp [(settingsGood_false_iff r).mpr hbad])]
    exact congrArg Host.Outcome.next (run_request_closed (.settingsWrite r) s ht (by simp) _ (congrArg some hw) ht.1.2)
  · have hg : settingsGood r = true := by
      rw [← Bool.not_eq_false, settingsGood_false_iff]; exact hgood
    have hw : settingsWrite r s = done (s.onLink fun l => { l with settings := settingsWritten (decide (s.mech.state = .empty)) r l.settings })
        (settingsData (s.onLink fun l => { l with settings := settingsWritten (decide (s.mech.state = .empty)) r l.settings })) := by
      rw [settingsWrite, if_pos hg]
    have hx := run_request_closed (.settingsWrite r) s ht (by simp) _ (congrArg some hw) ht.1.2
    simp only [settingsWritten_eq hg, settingsMasked_eq hg, standardAfter] at hx
    exact congrArg Host.Outcome.next hx

end Sys2Proof.Machine

/-!
Sys2Proof/Proofs/PowerKey: O47 fails in one clause. The power key in ON with the supply up and the deck in HALT starts the standby stop, for
which O47 says that no notice is sent; it does not ask that no motion runs. In a state in HALT with a motion of POS and COUNTER notices
enabled the end of that motion sends its last COUNTER notice (R68).
-/

namespace Sys2Proof.Machine

/-- ON with the supply up, the deck in HALT with a motion of POS not yet ended, COUNTER notices enabled. -/
def haltInMotion : State :=
  { State.reset with
    mech := { State.reset.mech with state := .halt, target := .halt }
    pos := { Pos.reset with motion := some { forward := true, start := 0 } }
    pwr := { State.reset.pwr with power := .on, phase := .up }
    link := { State.reset.link with settings := { State.reset.link.settings with counterNotices := true } } }

/-- R68, R193: the key's standby stop ends the motion, with its last COUNTER notice. -/
theorem powerKey_haltInMotion : ∀ t, exec .powerKeyPress haltInMotion = .next t → t.link.notices = [.counter 0 false .control] := by
  intro t ht
  have he : exec .powerKeyPress haltInMotion = .next (run powerKey haltInMotion) := rfl
  have hn : (run powerKey haltInMotion).link.notices = [.counter 0 false .control] := by decide
  rw [he] at ht
  cases ht
  exact hn

/-- Refutes O47: in `haltInMotion` the key in ON, the deck in HALT, is followed by a COUNTER notice. -/
theorem not_wakesRaiseTheSupplyAndFailuresDropIt : ¬ Obligations.WakesRaiseTheSupplyAndFailuresDropIt := by
  intro h
  obtain ⟨-, -, -, -, -, hon, -⟩ := h haltInMotion 0 ⟨rfl, rfl⟩ reset_noOccurrence rfl
  obtain ⟨t, ht, -, -, -, -, -, hnotices⟩ := (hon rfl rfl).2 rfl rfl rfl rfl rfl
  rw [powerKey_haltInMotion t ht] at hnotices
  exact absurd hnotices (by decide)

end Sys2Proof.Machine

/-!
Sys2Proof/Proofs/PowerRequests: O48 fails in one clause. A CLOCK_SET completed in STANDBY is said to leave PWR as the wake made it where
every entry is EMPTY, DISABLED or DONE. The step of the clock arms a DONE entry anew (R143, R173), and where the new reading has come
to its claim instant the evaluation grants it, which claims power (R194).
-/

namespace Sys2Proof.Machine

/-- A daily entry of 12:00 to 13:00. -/
def dailyNoon : Entry :=
  { enabled := true, repeats := .daily, date := none, weekday := none, start := 720, stop := 780, preset := 1,
    speed := .fixed .s, allowSlower := false, labelFollow := false, policy := .stop, markFlag := false, powerOff := false }

/-- STANDBY with the phase OFF, the daily entry DONE in slot 1, the others EMPTY. -/
def standbyWithDone : State :=
  { State.reset with
    sched := { Sched.reset with
      slots := { Slot.reset with entry := some dailyNoon, state := .done } :: List.replicate 15 Slot.reset } }

/-- 30 s before the entry's start, within its preparation time. -/
def beforeNoon : DateTime := { date := { year := 2000, month := 1, day := 1 }, hour := 11, minute := 59, second := 30 }

theorem standbyWithDone_noOccurrence : standbyWithDone.noOccurrence := by
  refine ⟨fun t ht => ?_, rfl⟩
  rcases List.mem_cons.mp ht with rfl | ht
  · rfl
  · rw [List.eq_of_mem_replicate ht]; rfl

theorem standbyWithDone_atRest : ∀ c ∈ standbyWithDone.sched.slots, c.state ∈ [EntryState.empty, .disabled, .done] := by
  intro c hc
  rcases List.mem_cons.mp hc with rfl | hc
  · decide
  · rw [List.eq_of_mem_replicate hc]; decide

set_option maxRecDepth 4000 in
/-- R173, R194: the entry is armed, granted, and claims power: TIMER_ON. -/
theorem clockSet_standbyWithDone :
    (run (arrive (.request (.clockSet (some beforeNoon) none))) standbyWithDone).pwr.power = .timerOn := by decide

theorem exec_clockSet_request (time : Option DateTime) (trim : Option Int) (s : State) :
    exec (.clockSet time trim) s = .next (run (arrive (.request (.clockSet time trim))) s) := rfl

/-- Refutes O48: in `standbyWithDone` the CLOCK_SET is followed by TIMER_ON, where the wake leaves STANDBY. -/
theorem not_powerRequestsActByStateAndPhase : ¬ Obligations.PowerRequestsActByStateAndPhase := by
  intro h
  obtain ⟨-, hwake, -⟩ := h
  obtain ⟨-, -, -, hentries⟩ := hwake standbyWithDone 0 0 0 false .line .unchanged none none
    ⟨false, false, false, false, false, 0, 0, 0, 0, [], 0, 0⟩ (some beforeNoon)
    ⟨false, false, false, false, false, false, 0, none, none, 0, 0, 0, 0, 0, 0, 0⟩ beforeNoon
    ⟨0, false, false, false, false, false, 0, 0, 0, 0, 0, 0, 0, 0, 0, 0, 0, []⟩ ⟨0, 0, 0, 0, 0⟩
    ⟨rfl, rfl⟩ rfl rfl rfl standbyWithDone_noOccurrence rfl (.inl rfl)
  obtain ⟨t, ht, hpwr, -⟩ := hentries standbyWithDone_atRest _ (.tail _ (.tail _ (.tail _ (.tail _ (.head _)))))
  have hpower : t.pwr.power = .standby := by rw [hpwr]; rfl
  rw [exec_clockSet_request] at ht
  rw [← Host.Outcome.next.inj ht, clockSet_standbyWithDone] at hpower
  exact absurd hpower (by decide)

end Sys2Proof.Machine

/-!
Sys2Proof/Proofs/RecordedFrames: in RECORD a reference frame edge counts one written pulse, removes the mark it writes over, and under
PANEL is stopped by the guard of a known span (O29).
-/

namespace Sys2Proof.Machine

/-- RECORD under PANEL with nothing else under way: no command, search, junction operation, MARK write, holder or memory-stop target,
and the record guard not yet met. -/
structure State.RecordsAlone (s : State) : Prop where
  record   : s.mech.state = .record
  speed    : s.servo.pendingSpeed = none
  junction : s.mech.junction = none
  panel    : s.mech.owner = .panel
  free     : s.mech.inFlight = none
  search   : s.mark.search = none
  writer   : s.mark.writer = .idle
  holder   : s.sched.holder = none
  target   : s.pos.target = none
  guarded  : s.mark.guardDone = false
  reports  : s.reports = []

theorem State.RecordsAlone.onServo {s : State} (h : s.RecordsAlone) {f : Servo → Servo} (hp : (f s.servo).pendingSpeed = none) :
    (s.onServo f).RecordsAlone :=
  ⟨h.record, hp, h.junction, h.panel, h.free, h.search, h.writer, h.holder, h.target, h.guarded, h.reports⟩

/-- R40, R43, R45: in RECORD the boundary takes the tracking offset alone; the envelope is not sampled. -/
theorem frameBoundary_record (env : Nat) {s : State} (hs : s.mech.state = .record) (hp : s.servo.pendingSpeed = none) :
    frameBoundary env s = s.onServo fun x => { x with tracking := x.tracking.boundary .record } := by
  simp [frameBoundary, speedBoundary, hp, samples, hs]

/-- R16, R17, R25, R60, R89, R165: a counted frame that no target, search, skip or junction operation waits for. -/
theorem afterCount_idle {before after : Int} {x : State} (hm : crossesTarget x.mech.state x.pos.target before after = false)
    (hsearch : x.mark.search = none) (hh : x.sched.holder = none) (hj : x.mech.junction = none) : afterCount before after x = x := by
  simp [afterCount, memoryTest, hm, searchCounter, hsearch, skipTest, hh, junctionTest, hj]

/-- R52: the counter after a frame, forward or back. -/
def stepped (forward : Bool) (v : Int) : Int := if forward then v + 1 else v - 1

/-- R52: within the limits a frame moves the counter by one. -/
theorem countFrame_within (forward : Bool) {x : State} (hlo : - counterLimit x.std ≤ stepped forward x.pos.counter)
    (hhi : stepped forward x.pos.counter ≤ counterLimit x.std) :
    countFrame forward x = x.onPos fun p => { p with counter := stepped forward x.pos.counter } := by
  have hclamp : x.clampCounter (stepped forward x.pos.counter) = stepped forward x.pos.counter := by
    simp only [State.clampCounter, clampInt]
    rw [if_neg (by omega), if_neg (by omega)]
  simp only [countFrame]
  rw [show (if forward = true then x.pos.counter + 1 else x.pos.counter - 1) = stepped forward x.pos.counter from rfl, hclamp]
  simp [State.onPos]

theorem countPulse_within (forward : Bool) {x : State} (hlo : - counterLimit x.std ≤ stepped forward x.pos.counter)
    (hhi : stepped forward x.pos.counter ≤ counterLimit x.std) : countPulse forward x = x.onPos fun p =>
      { p with source := .control, gapSum := 0, gap := some x.now, counter := stepped forward x.pos.counter } := by
  exact countFrame_within forward (x := x.onPos fun p => { p with source := .control, gapSum := 0, gap := some x.now }) hlo hhi

/-- R40, R53, R78: the frame counted and the mark that starts there removed, before the guard is tested. -/
def frameWritten (env : Nat) (s : State) : State := markWritten (countPulse true (frameBoundary env s))

/-- R78: the list after the frame has been written. -/
def listWritten (s : State) : List MarkEntry := s.mark.list.filter fun e => decide (e.pos ≠ s.pos.counter + 1)

theorem frameWritten_eq (env : Nat) {s : State} (h : s.RecordsAlone) (hhi : s.pos.counter < counterLimit s.std)
    (hlo : - counterLimit s.std ≤ s.pos.counter) :
    frameWritten env s = (((s.onServo fun x => { x with tracking := x.tracking.boundary .record }).onPos fun p =>
        { p with source := .control, gapSum := 0, gap := some s.now, counter := s.pos.counter + 1 }).onMark fun m =>
      { m with headDuty := some Writer.idle.recordDuty, list := listWritten s }) := by
  have hcount : countPulse true (frameBoundary env s) = (s.onServo fun x => { x with tracking := x.tracking.boundary .record }).onPos
      fun p => { p with source := .control, gapSum := 0, gap := some s.now, counter := s.pos.counter + 1 } := by
    rw [frameBoundary_record env h.record h.speed]
    exact countPulse_within true (show - counterLimit s.std ≤ s.pos.counter + 1 by omega)
      (show s.pos.counter + 1 ≤ counterLimit s.std by omega)
  rw [frameWritten, hcount, markWritten]
  simp only [State.onMark, State.onPos, State.onServo, h.writer]
  rfl

/-- R86: the known span whose guard extent the written frame enters. -/
def spanEntered (s : State) : Option Span :=
  (spansFrom (counterLimit s.std) none (listWritten s)).find? fun p =>
    decide (p.first - 24 ≤ s.pos.counter + 1) && decide (s.pos.counter + 1 ≤ p.last)

theorem frameWritten_guardSpan (env : Nat) {s : State} (h : s.RecordsAlone) (hhi : s.pos.counter < counterLimit s.std)
    (hlo : - counterLimit s.std ≤ s.pos.counter) : (frameWritten env s).guardSpan = spanEntered s := by
  rw [frameWritten_eq env h hhi hlo]; rfl

theorem frameWritten_alone (env : Nat) {s : State} (h : s.RecordsAlone) (hhi : s.pos.counter < counterLimit s.std)
    (hlo : - counterLimit s.std ≤ s.pos.counter) : (frameWritten env s).RecordsAlone := by
  rw [frameWritten_eq env h hhi hlo]
  exact ⟨h.record, h.speed, h.junction, h.panel, h.free, h.search, h.writer, h.holder, h.target, h.guarded, h.reports⟩

/-- R25, R86: the protect stop at a span. -/
def stoppedAt (p : Span) (x : State) : State :=
  because .protectStop (startShift .halt false
    (notify (.protectStop x.pos.counter p.first p.ending) (x.onMark fun m => { m with guardDone := true })))

theorem stoppedAt_sched (p : Span) {x : State} (h : x.sched.holder = none) : (stoppedAt p x).sched = x.sched := by
  rw [stoppedAt, because, State.onMech_sched, startShift_sched _ _ _ (.inr (by simp [h]))]
  simp

theorem stoppedAt_mech (p : Span) (x : State) : (stoppedAt p x).mech.state = .shifting ∧ (stoppedAt p x).mech.target = .halt ∧
    (stoppedAt p x).mech.camTarget = some 3 ∧ (stoppedAt p x).mech.recAmp = false ∧ (stoppedAt p x).mech.reel = .off ∧
    (stoppedAt p x).mech.cause = some .protectStop ∧ (stoppedAt p x).mech.junction = none := by
  refine ⟨?_, ?_, ?_, ?_, ?_, ?_, ?_⟩ <;> simp [stoppedAt, because, startShift, driveCam, aimAt, camOf, reelOf]

theorem stoppedAt_keeps (p : Span) (x : State) : (stoppedAt p x).pos.counter = x.pos.counter ∧
    (stoppedAt p x).mark.list = x.mark.list ∧ (stoppedAt p x).mark.search = x.mark.search ∧
    (stoppedAt p x).tuner = x.tuner ∧ (stoppedAt p x).clock = x.clock ∧ (stoppedAt p x).box = x.box ∧
    (stoppedAt p x).pwr = x.pwr ∧ (stoppedAt p x).reports = x.reports := by
  refine ⟨?_, ?_, ?_, ?_, ?_, ?_, ?_, ?_⟩ <;> simp [stoppedAt, because, startShift, driveCam, aimAt]

/-- R86: what the record guard makes of a written frame under PANEL. -/
def guardedAt (g : Option Span) (x : State) : State := match g with | none => x | some p => stoppedAt p x

theorem recordGuard_panel {x : State} (h : x.RecordsAlone) : recordGuard x = guardedAt x.guardSpan x := by
  simp only [recordGuard, h.record, h.guarded, and_self, if_true]
  split
  · next hg => rw [hg]; rfl
  · next p hg =>
    rw [hg]
    simp only [h.panel, guardedAt, stoppedAt, protectStop]
    rw [closeInFlight_none (by simp [h.free])]

theorem guardedAt_idle (g : Option Span) {before after : Int} {x : State} (h : x.RecordsAlone) :
    junctionTest (afterCount before after (guardedAt g x)) = guardedAt g x := by
  have hrest (y : State) (hm : crossesTarget y.mech.state y.pos.target before after = false) (hsearch : y.mark.search = none)
      (hh : y.sched.holder = none) (hj : y.mech.junction = none) : junctionTest (afterCount before after y) = y := by
    rw [afterCount_idle hm hsearch hh hj]; simp [junctionTest, hj]
  cases g with
  | none => exact hrest x (by simp [crossesTarget, h.target]) h.search h.holder h.junction
  | some p =>
    have hsched := stoppedAt_sched p h.holder
    obtain ⟨hm, -, -, -, -, -, hj⟩ := stoppedAt_mech p x
    obtain ⟨-, -, hsearch, -⟩ := stoppedAt_keeps p x
    refine hrest _ ?_ (hsearch.trans h.search) (hsched ▸ h.holder) hj
    show crossesTarget (stoppedAt p x).mech.state _ _ _ = false
    rw [hm]
    simp only [crossesTarget]
    split <;> rfl

theorem referenceEdge_record (env : Nat) {s : State} (h : s.RecordsAlone) (hhi : s.pos.counter < counterLimit s.std)
    (hlo : - counterLimit s.std ≤ s.pos.counter) :
    referenceEdge env s = guardedAt (spanEntered s) (frameWritten env s) := by
  have hstate : (frameBoundary env s).mech.state = .record := by rw [frameBoundary_record env h.record h.speed]; exact h.record
  have halone := frameWritten_alone env h hhi hlo
  simp only [referenceEdge, hstate, if_true, writtenPulse]
  rw [show markWritten (countPulse true (frameBoundary env s)) = frameWritten env s from rfl, recordGuard_panel halone,
    frameWritten_guardSpan env h hhi hlo, guardedAt_idle _ halone]

theorem exec_internalEdge (env : Nat) {s : State} (h : s.pins.resetLow = false) :
    exec (.internalFrameEdge env) s = .next (finish (internalEdge env s)) := by
  have he : exec (.internalFrameEdge env) s = .next (run (internalEdge env) s) := rfl
  rw [he, run, if_neg (by simp [h])]

theorem exec_vsync (src : Source) (interval env : Nat) {s : State} (h : s.pins.resetLow = false) :
    exec (.vsyncPulse src interval env) s = .next (finish (vsync src interval env s)) := by
  have he : exec (.vsyncPulse src interval env) s = .next (run (vsync src interval env) s) := rfl
  rw [he, run, if_neg (by simp [h])]

theorem frameWritten_keeps (env : Nat) {s : State} (h : s.RecordsAlone) (hhi : s.pos.counter < counterLimit s.std)
    (hlo : - counterLimit s.std ≤ s.pos.counter) :
    (frameWritten env s).pos.counter = s.pos.counter + 1 ∧ (frameWritten env s).mark.list = listWritten s ∧
      (frameWritten env s).mech = s.mech ∧ (frameWritten env s).link = s.link ∧ (frameWritten env s).tuner = s.tuner ∧
      (frameWritten env s).clock = s.clock ∧ (frameWritten env s).sched = s.sched ∧ (frameWritten env s).box = s.box ∧
      (frameWritten env s).pwr = s.pwr := by
  rw [frameWritten_eq env h hhi hlo]
  exact ⟨rfl, rfl, rfl, rfl, rfl, rfl, rfl, rfl, rfl⟩

theorem stoppedAt_notices (p : Span) {x : State} (h : x.roomFor 1) :
    (stoppedAt p x).link.notices.take (x.link.notices.length + 1) =
      x.link.notices ++ [.protectStop x.pos.counter p.first p.ending] := by
  let y := notify (.protectStop x.pos.counter p.first p.ending) (x.onMark fun m => { m with guardDone := true })
  have hy : y.link.notices = x.link.notices ++ [.protectStop x.pos.counter p.first p.ending] :=
    notify_room (s := x.onMark fun m => { m with guardDone := true }) h
  have hpre : y.link.notices <+: (stoppedAt p x).link.notices := startShift_prefix .halt false y
  have htake := take_of_prefix hpre
  rw [hy, List.length_append] at htake
  exact htake

/-- What a reference frame edge of RECORD leaves, as O29 says it. -/
def EdgeWritten (s t : State) : Prop :=
  t.pos.counter = s.pos.counter + 1 ∧ t.mark.list = listWritten s ∧
    (spanEntered s = none → t.mech.state = .record ∧ t.mech.recAmp = s.mech.recAmp ∧ t.link.notices = s.link.notices) ∧
    (∀ p, spanEntered s = some p → t.mech.state = .shifting ∧ t.mech.target = .halt ∧ t.mech.camTarget = some 3 ∧
      t.mech.recAmp = false ∧ t.mech.reel = .off ∧ t.mech.cause = some .protectStop ∧
      t.link.notices.take (s.link.notices.length + 1) = s.link.notices ++
        [.protectStop (s.pos.counter + 1) p.first (if p.opened then none else some p.last)]) ∧
    t.tuner = s.tuner ∧ t.clock = s.clock ∧ t.sched = s.sched ∧ t.box = s.box ∧ t.pwr = s.pwr

theorem finish_referenceEdge (env : Nat) {s : State} (h : s.RecordsAlone) (hroom : s.roomFor 1)
    (hhi : s.pos.counter < counterLimit s.std) (hlo : - counterLimit s.std ≤ s.pos.counter) :
    EdgeWritten s (finish (referenceEdge env s)) := by
  have halone := frameWritten_alone env h hhi hlo
  obtain ⟨hcounter, hlist, hmech, hlink, htuner, hclock, hsch, hbox, hpwr⟩ := frameWritten_keeps env h hhi hlo
  rw [referenceEdge_record env h hhi hlo]
  unfold EdgeWritten
  generalize frameWritten env s = x at *
  cases hg : spanEntered s with
  | none =>
    rw [guardedAt, finish_workedOff true x halone.holder (by simp) (by simp [halone.reports]) (by simp [halone.reports])]
    refine ⟨hcounter, hlist, fun _ => ⟨halone.record, ?_, ?_⟩, fun p hp => absurd hp (by simp), htuner, hclock, hsch, hbox, hpwr⟩
    · rw [workedOff_mech, hmech]
    · rw [workedOff_link_notices, hlink]
  | some p =>
    have hsched := stoppedAt_sched p halone.holder
    have hnotices := stoppedAt_notices p (x := x) (by simpa only [State.roomFor, hlink] using hroom)
    obtain ⟨hstate, htarget, hcam, hamp, hreel, hcause, -⟩ := stoppedAt_mech p x
    obtain ⟨kcounter, klist, -, ktuner, kclock, kbox, kpwr, kreports⟩ := stoppedAt_keeps p x
    rw [hlink, hcounter] at hnotices
    simp only [guardedAt]
    generalize stoppedAt p x = y at *
    have hreports : y.reports = [] := kreports.trans halone.reports
    rw [finish_workedOff true y (by rw [hsched]; exact halone.holder) (by simp) (by simp [hreports]) (by simp [hreports])]
    refine ⟨kcounter.trans hcounter, klist.trans hlist, fun hn => absurd hn (by simp), ?_, ktuner.trans htuner,
      kclock.trans hclock, hsched.trans hsch, kbox.trans hbox, kpwr.trans hpwr⟩
    intro q hq
    obtain rfl := Option.some.inj hq
    exact ⟨hstate, htarget, hcam, hamp, hreel, hcause, hnotices⟩

/-- R38: SERVO at a good sync pulse of the source whose sync is present. -/
def goodSync (src : Source) (std : Standard) (interval now : Nat) (v : Servo) : Servo :=
  { v.setSync src ((v.sync src).pulse std interval now) with refCount := (v.refCount + 1) % 2 }

@[simp] theorem goodSync_pendingSpeed (src : Source) (std : Standard) (interval now : Nat) (v : Servo) :
    (goodSync src std interval now v).pendingSpeed = v.pendingSpeed := by cases src <;> rfl

theorem Sync.pulse_present {std : Standard} {interval now t0 : Nat} {y : Sync} (hp : y.present = true) (ht : y.timer = some t0)
    (hi : syncGood std interval = true) : (y.pulse std interval now).present = true := by
  simp [Sync.pulse, ht, hi, hp]

/-- R38: the source's good pulse leaves the reference as it is, and counts toward the next edge. -/
theorem syncPulse_good {src : Source} {interval t0 : Nat} {s : State} (hs : s.mech.state = .record)
    (href : s.servo.reference = (match src with | .tuner => .tuner | .line => .line)) (hsel : s.tuner.selected = src)
    (hp : (s.servo.sync src).present = true) (ht : (s.servo.sync src).timer = some t0) (hi : syncGood s.std interval = true) :
    syncPulse src interval s =
      (s.onServo (goodSync src s.std interval s.now), decide ((s.servo.refCount + 1) % 2 = 0)) := by
  have hpulse := Sync.pulse_present (now := s.now) hp ht hi
  have hkeeps : testReference (s.onServo fun v => v.setSync src ((v.sync src).pulse s.std interval s.now)) =
      s.onServo fun v => v.setSync src ((v.sync src).pulse s.std interval s.now) := by
    rw [testReference]
    refine if_pos ?_
    cases src <;> simp_all [wantedReference, State.onServo, Servo.setSync, Servo.sync]
  have href' : refIs src s.servo.reference = true := by cases src <;> rw [href] <;> rfl
  have hcounts : (refIs src s.servo.reference && refIs src (s.onServo fun v =>
      v.setSync src ((v.sync src).pulse s.std interval s.now)).servo.reference) = true := by
    rw [Bool.and_eq_true]
    refine ⟨href', ?_⟩
    cases src <;> exact href'
  simp only [syncPulse]
  rw [hkeeps, if_pos hcounts]
  cases src <;> rfl

/-- Settles O29: an edge of RECORD writes one frame, by either reference; the pulse between two edges counts alone. -/
theorem recordingCountsFramesAndStopsAtASpan : Obligations.RecordingCountsFramesAndStopsAtASpan := by
  unfold Obligations.RecordingCountsFramesAndStopsAtASpan
  intro s m env interval t0 src hh hs hspeed hj hm ho hf hsearch hw hholder htarget hguard hroom hhi hlo
  have halone : s.RecordsAlone := ⟨hs, hspeed, hj, ho, hf, hsearch, hw, hholder, htarget, hguard, hh.2⟩
  have hsession : inSession s.mech.state = true := by rw [hs]; rfl
  refine ⟨fun href => ⟨_, exec_internalEdge env hh.1, ?_⟩, fun href hsel hp ht hi => ?_⟩
  · rw [internalEdge, if_pos hsession, if_pos href]
    exact finish_referenceEdge env halone hroom hhi hlo
  · have hgood := syncPulse_good hs href hsel hp ht (by simpa [syncGood] using hi)
    refine ⟨fun hcount => ⟨_, exec_vsync src interval env hh.1, ?_⟩, fun hcount => ⟨_, exec_vsync src interval env hh.1, ?_⟩⟩
    · rw [vsync, hgood, hcount]
      have hx : (s.onServo (goodSync src s.std interval s.now)).RecordsAlone := halone.onServo (by simp [hspeed])
      exact finish_referenceEdge env hx hroom hhi hlo
    · rw [vsync, hgood, hcount]
      have hx : (s.onServo (goodSync src s.std interval s.now)).RecordsAlone := halone.onServo (by simp [hspeed])
      have hidle : junctionTest (s.onServo (goodSync src s.std interval s.now)) = s.onServo (goodSync src s.std interval s.now) := by
        simp [junctionTest, hj]
      simp only [Nat.zero_add, Nat.reduceMod, Nat.reduceEqDiff, decide_false, Bool.false_eq_true, if_false, hidle]
      rw [finish_workedOff true _ hx.holder (by simp) (by rw [hx.reports]; simp) (by rw [hx.reports]; simp)]
      refine ⟨?_, rfl, rfl, rfl, rfl, rfl, rfl, rfl, rfl, rfl, rfl, rfl, rfl⟩
      simp [goodSync, hcount]

end Sys2Proof.Machine

/-!
Sys2Proof/Proofs/SearchRequests: a search of the Mark Unit issues commands of origin SEARCH; its requests from HALT (O30).
-/

namespace Sys2Proof.Machine

/-- R87: a command of a search. -/
def searchCmd (w : MechCmd) (tag : Nat) : Cmd := { what := w, origin := .search, tag := tag }

@[simp] theorem searchCmd_what (w : MechCmd) (tag : Nat) : (searchCmd w tag).what = w := rfl
@[simp] theorem searchCmd_origin (w : MechCmd) (tag : Nat) : (searchCmd w tag).origin = .search := rfl

/-- R6: no recovery, standby stop, movement or command is under way. -/
structure State.DeckReady (s : State) : Prop where
  known : s.mech.recoveryPending = false
  kept  : s.mech.standbyStop = false
  free  : s.mech.inFlight = none
  rests : s.mech.state.transition = false

theorem submit_now (c : Cmd) {s : State} (h : s.DeckReady) : submit c s = execute c s := by
  simp [submit, h.known, h.kept, h.free, h.rests]

/-- R6, R7, R11: a search's motion goes toward its target with the recorder taken. -/
theorem submit_searchGoes {w : MechCmd} {tag : Nat} {target : MState} {x : State} (h : x.DeckReady) (hw : w ≠ .stop ∧ w ≠ .eject)
    (hj : x.mech.state ≠ .jammed) (ho : x.mech.owner = .none ∨ x.mech.owner = .panel) (hc : mechChecks (searchCmd w tag) x = none)
    (hg : ∀ y : State, y.mech.state = x.mech.state → mechWork (searchCmd w tag) y = goTo (searchCmd w tag) target y) :
    ∃ l, (l = [] ∨ l = [Report.evaluate]) ∧ submit (searchCmd w tag) x = goTo (searchCmd w tag) target (taken l x) := by
  obtain ⟨l, hl, he⟩ := claimPanel_eq hj ho
  refine ⟨l, hl, ?_⟩
  rw [submit_now _ h, execute_passed hc, if_neg (by simpa using hw), ← hg (taken l x) rfl]
  exact congrArg (mechWork _) he

/-- R88 to R91: the motions a search commands in HALT, with the state each leads to and its cam code. -/
def searchMotions : List (MechCmd × MState × CamCode) :=
  [(.fwind, .fwind, 6), (.rwind, .rwind, 6), (.cue, .cue, 4), (.review, .review, 5), (.play, .play, 4)]

theorem searchMotions_spec : ∀ r ∈ searchMotions, r.1 ≠ .stop ∧ r.1 ≠ .eject ∧ camOf r.2.1 = r.2.2 ∧ recordForm r.1 .halt = false ∧
    badFrom r.1 .halt = false ∧ r.2.1 ≠ .halt := by
  decide

theorem mechWork_searchMotion {r : MechCmd × MState × CamCode} (hr : r ∈ searchMotions) (tag : Nat) {y : State}
    (hy : y.mech.state = .halt) : mechWork (searchCmd r.1 tag) y = goTo (searchCmd r.1 tag) r.2.1 y := by
  simp only [searchMotions, List.mem_cons, List.not_mem_nil, or_false] at hr
  rcases hr with rfl | rfl | rfl | rfl | rfl <;> simp [mechWork, searchCmd, hy]

theorem searchMotion_passes {r : MechCmd × MState × CamCode} (hr : r ∈ searchMotions) (tag : Nat) {x : State} (h : x.DeckReady)
    (hm : x.mech.state = .halt) (ho : x.mech.owner = .none ∨ x.mech.owner = .panel) (he : x.pins.leaderEnd = false)
    (hs : x.pins.leaderStart = false) : mechChecks (searchCmd r.1 tag) x = none := by
  obtain ⟨-, -, -, hrec, hbad, -⟩ := searchMotions_spec r hr
  have howner : ownerRefuses (searchCmd r.1 tag) x.mech.owner = false := by rcases ho with ho | ho <;> simp [ownerRefuses, ho, Owner.isTimer]
  simp [mechChecks, hm, h.known, howner, hrec, hbad, he, hs]

/-- R7, R87: from HALT the search's motion shifts toward its target. -/
def searchShift (r : MechCmd × MState × CamCode) (tag : Nat) (l : List Report) (x : State) : State :=
  (startShift r.2.1 false (taken l x)).onMech fun m => { m with inFlight := some (searchCmd r.1 tag) }

theorem submit_searchShifts {r : MechCmd × MState × CamCode} (hr : r ∈ searchMotions) (tag : Nat) {x : State} (h : x.DeckReady)
    (hm : x.mech.state = .halt) (ho : x.mech.owner = .none ∨ x.mech.owner = .panel) (he : x.pins.leaderEnd = false)
    (hs : x.pins.leaderStart = false) :
    ∃ l, (l = [] ∨ l = [Report.evaluate]) ∧ submit (searchCmd r.1 tag) x = (searchShift r tag l x, .accepted) := by
  obtain ⟨hstop, heject, -, -, -, -⟩ := searchMotions_spec r hr
  obtain ⟨l, hl, hg⟩ := submit_searchGoes h ⟨hstop, heject⟩ (by simp [hm]) ho (searchMotion_passes hr tag h hm ho he hs)
    fun y hy => mechWork_searchMotion hr tag (hy.trans hm)
  refine ⟨l, hl, ?_⟩
  rw [hg, goTo, if_neg (by simp [taken, hm])]
  rfl

theorem searchShift_mech {r : MechCmd × MState × CamCode} (hr : r ∈ searchMotions) (tag : Nat) (l : List Report) (x : State) :
    (searchShift r tag l x).mech.state = .shifting ∧ (searchShift r tag l x).mech.target = r.2.1 ∧
      (searchShift r tag l x).mech.camTarget = some r.2.2 ∧ (searchShift r tag l x).mech.camTimer = some x.now ∧
      (searchShift r tag l x).mech.inFlight = some (searchCmd r.1 tag) ∧ (searchShift r tag l x).mech.owner = .panel := by
  obtain ⟨-, -, hcode, -⟩ := searchMotions_spec r hr
  refine ⟨?_, ?_, ?_, ?_, ?_, ?_⟩ <;> simp [searchShift, startShift, driveCam, aimAt, hcode, taken, State.now]

theorem searchShift_keeps (r : MechCmd × MState × CamCode) (tag : Nat) (l : List Report) {x : State} (hm : x.mech.state ≠ .record) :
    (searchShift r tag l x).sched = x.sched ∧ (searchShift r tag l x).reports = x.reports ++ l ∧
      (searchShift r tag l x).mark.search = x.mark.search ∧ (searchShift r tag l x).mark.list = x.mark.list ∧
      (searchShift r tag l x).pos.counter = x.pos.counter ∧ (searchShift r tag l x).tuner = x.tuner ∧
      (searchShift r tag l x).clock = x.clock ∧ (searchShift r tag l x).pwr = x.pwr ∧ (searchShift r tag l x).box = x.box ∧
      (searchShift r tag l x).ldd = x.ldd := by
  refine ⟨?_, ?_, ?_, ?_, ?_, ?_, ?_, ?_, ?_, ?_⟩
  on_goal 1 => rw [searchShift, State.onMech_sched, startShift_sched _ _ (taken l x) (.inl hm), taken_sched]
  all_goals simp [searchShift, startShift, driveCam, aimAt, taken]

/-! ## Requests -/

/-- The four search requests and their work (R87). -/
def searchForm (n v : Int) (f : Bool) : List (Instr × (State → State × Answer)) :=
  [(.indexSearch n f, indexSearch n f), (.counterSearch v f, counterSearch v f), (.blankSearch, blankSearch), (.indexScan, indexScan)]

theorem exec_searchForm {n v : Int} {f : Bool} {i : Instr} {w : State → State × Answer} (h : (i, w) ∈ searchForm n v f) {s : State}
    (ht : s.takes) : exec i s = .next (finish (replyWith 2 (w s))) := by
  have hopen (i : Instr) (k : i ≠ .restart) (r : State × Answer) (hs : serve i s = some r) (hk : kindOf i = 2)
      (he : exec i s = .next (run (arrive (.request i)) s)) : exec i s = .next (finish (replyWith 2 r)) := by
    rw [he, run_request_open i s ht k r hs, hk]
  simp only [searchForm, List.mem_cons, Prod.mk.injEq, List.not_mem_nil, or_false] at h
  rcases h with ⟨rfl, rfl⟩ | ⟨rfl, rfl⟩ | ⟨rfl, rfl⟩ | ⟨rfl, rfl⟩ <;> exact hopen _ (by simp) _ rfl rfl rfl

theorem mem_searchForm {n v : Int} {f : Bool} {i : Instr} (h : i ∈ [Instr.indexSearch n f, .counterSearch v f, .blankSearch, .indexScan]) :
    ∃ w, (i, w) ∈ searchForm n v f := by
  obtain ⟨p, hp, rfl⟩ := List.mem_map.mp (show i ∈ (searchForm n v f).map Prod.fst from h)
  exact ⟨p.2, hp⟩

/-- R201, R202: a search request answered at once, its state unchanged. -/
theorem exec_searchAnswered {n v : Int} {f : Bool} {i : Instr} {w : State → State × Answer} (h : (i, w) ∈ searchForm n v f) {s : State}
    (ht : s.takes) {a : Answer} (ha : w s = (s, a)) : exec i s = .next (s.answered 2 a.result a.reason a.data).closed := by
  rw [exec_searchForm h ht, ha]
  exact congrArg Host.Outcome.next (finish_closed _ ht.1.2)

/-- R87: a check before the search refuses every search request. -/
theorem searchBarred_refuses {n v : Int} {f : Bool} {i : Instr}
    (h : i ∈ [Instr.indexSearch n f, .counterSearch v f, .blankSearch, .indexScan]) {s : State} (ht : s.takes) {why : Reason}
    (hb : searchBarred s = some why) : refusedWith i 2 why [] s := by
  obtain ⟨w, hw⟩ := mem_searchForm h
  have ha : w s = refuse s why := by
    simp only [searchForm, List.mem_cons, Prod.mk.injEq, List.not_mem_nil, or_false] at hw
    rcases hw with ⟨rfl, rfl⟩ | ⟨rfl, rfl⟩ | ⟨rfl, rfl⟩ | ⟨rfl, rfl⟩ <;> simp only [indexSearch, counterSearch, blankSearch, indexScan, hb]
  exact exec_searchAnswered hw ht ha

/-- The search record is filled and its first command issued (R87). -/
def searchBegun (q : Search) (c : MechCmd) (s : State) : State :=
  setSearch (some { q with waiting := some c }) (s.onMark fun m => { m with nextTag := m.nextTag + 1 })

/-- What the first command of a search leaves, as O30 says it. -/
def SearchUnderWay (s t : State) (q : Search) (r : MechCmd × MState × CamCode) (data : List Byte) : Prop :=
  t.mark.search = some { q with waiting := some r.1 } ∧ t.mech.state = .shifting ∧ t.mech.target = r.2.1 ∧
    t.mech.camTarget = some r.2.2 ∧ t.mech.owner = .panel ∧ t.mech.inFlight.isSome = true ∧
    t.link.reply = some { kind := 2, result := .accepted, reason := .none, data := data } ∧ t.pos.counter = s.pos.counter ∧
    t.mark.list = s.mark.list ∧ t.tuner = s.tuner ∧ t.clock = s.clock ∧ t.pwr = s.pwr ∧ t.box = s.box ∧ t.ldd = s.ldd

theorem finish_searchStart {q : Search} {r : MechCmd × MState × CamCode} (hr : r ∈ searchMotions) (data : List Byte) {s : State}
    (ht : s.takes) (hf : s.deckFree) (hn : s.noOccurrence) (hm : s.mech.state = .halt) (ho : s.mech.owner = .none)
    (he : s.pins.leaderEnd = false) (hs : s.pins.leaderStart = false) :
    SearchUnderWay s (finish (replyWith 2 (searchStart q r.1 data s))) q r data := by
  obtain ⟨hrec, hstop, hfree, -, hrests, -⟩ := hf
  obtain ⟨l, hl, hsub⟩ := submit_searchShifts hr q.tag (x := searchBegun q r.1 s) ⟨hrec, hstop, hfree, hrests⟩ hm (.inl ho) he hs
  have hstart : searchStart q r.1 data s = accepted (searchShift r q.tag l (searchBegun q r.1 s)) data := by
    simp only [searchStart]
    rw [show ({ what := r.1, origin := .search, tag := q.tag } : Cmd) = searchCmd r.1 q.tag from rfl,
      show setSearch (some { q with waiting := some r.1 }) (s.onMark fun m => { m with nextTag := m.nextTag + 1 }) =
        searchBegun q r.1 s from rfl, hsub]
  obtain ⟨mstate, mtarget, mcam, -, mflight, mowner⟩ := searchShift_mech hr q.tag l (searchBegun q r.1 s)
  obtain ⟨ksched, kreports, ksearch, klist, kcounter, ktuner, kclock, kpwr, kbox, kldd⟩ :=
    searchShift_keeps r q.tag l (x := searchBegun q r.1 s) (by simp [searchBegun, setSearch, hm])
  rw [hstart]
  generalize searchShift r q.tag l (searchBegun q r.1 s) = y at *
  have hsched : (replyWith 2 (accepted y data)).sched = s.sched := ksched
  have hreports : (replyWith 2 (accepted y data)).reports = l := by
    rw [show (replyWith 2 (accepted y data)).reports = y.reports from rfl, kreports, show (searchBegun q r.1 s).reports = s.reports from rfl,
      ht.1.2, List.nil_append]
  obtain ⟨d, hd⟩ := finish_quiet (replyWith 2 (accepted y data)) (hn.of_sched hsched) (by rw [hreports]; exact hl)
  rw [hd]
  exact ⟨ksearch, mstate, mtarget, mcam, mowner, by show y.mech.inFlight.isSome = true; rw [mflight]; rfl, rfl, kcounter, klist, ktuner,
    kclock, kpwr, kbox, kldd⟩

/-- Settles O30: the checks in their order, then the first command of each of the six searches. -/
theorem searchesIssueTheirFirstCommand : Obligations.SearchesIssueTheirFirstCommand := by
  unfold Obligations.SearchesIssueTheirFirstCommand
  intro s n v f ht
  refine ⟨fun hm i hi => ?_, fun hm ho i hi => ?_, fun hm ho hs i hi => ?_, fun hm ho hs => ⟨?_, fun hv => ?_⟩, ?_⟩
  · exact searchBarred_refuses hi ht (by simp [searchBarred, hm])
  · exact searchBarred_refuses hi ht (by simp [searchBarred, hm, ho])
  · exact searchBarred_refuses hi ht (by simp [searchBarred, hm, ho, hs])
  · have hb : searchBarred s = none := by simp [searchBarred, hm, ho, hs]
    exact exec_searchAnswered (n := 0) (v := v) (.head _) ht (by simp only [indexSearch, hb, if_true]; rfl)
  · have hb : searchBarred s = none := by simp [searchBarred, hm, ho, hs]
    have hv' : s.clampCounter v = s.pos.counter := hv
    exact exec_searchAnswered (n := 0) (v := v) (f := f) (.tail _ (.head _)) ht (by simp only [counterSearch, hb, hv', if_true]; rfl)
  intro hf hn hm ho he hs c i k target code aim m pa data hi
  have hb : searchBarred s = none := by simp [searchBarred, hm, ho, Owner.isTimer, hf.2.2.2.2.2]
  have begins {i : Instr} {w : State → State × Answer} (hw : (i, w) ∈ searchForm n v f) (q : Search) {r : MechCmd × MState × CamCode}
      (hr : r ∈ searchMotions) (data : List Byte) (hq : w s = searchStart q r.1 data s) :
      ∃ t, exec i s = .next t ∧ SearchUnderWay s t q r data :=
    ⟨_, exec_searchForm hw ht, hq ▸ finish_searchStart hr data ht hf hn hm ho he hs⟩
  have hne {x y : Int} (h : x < y) : ¬ y = x := by omega
  rcases hi with ⟨rfl, rfl, rfl, rfl, rfl, rfl, rfl, hlt, rfl⟩ | ⟨rfl, rfl, rfl, rfl, rfl, rfl, rfl, hlt, rfl⟩ |
    ⟨rfl, rfl, rfl, rfl, rfl, rfl, rfl, hlt, rfl⟩ | ⟨rfl, rfl, rfl, rfl, rfl, rfl, rfl, hlt, rfl⟩ |
    ⟨rfl, rfl, rfl, rfl, rfl, rfl, rfl, rfl⟩ | ⟨rfl, rfl, rfl, rfl, rfl, rfl, rfl, rfl⟩
  · obtain ⟨t, hx, hsearch, hrest⟩ := begins (.head _) { newSearch .index s with n := clampInt (-99) 99 n, playAfter := pa }
      (r := (.fwind, .fwind, 6)) (by simp [searchMotions]) [] (by simp only [indexSearch, hb]; rw [if_neg (by omega), if_pos hlt])
    exact ⟨t, _, hx, hsearch, rfl, rfl, rfl, rfl, rfl, rfl, rfl, hrest⟩
  · obtain ⟨t, hx, hsearch, hrest⟩ := begins (.head _) { newSearch .index s with n := clampInt (-99) 99 n, playAfter := pa }
      (r := (.rwind, .rwind, 6)) (by simp [searchMotions]) [] (by simp only [indexSearch, hb]; rw [if_neg (by omega), if_neg (by omega)])
    exact ⟨t, _, hx, hsearch, rfl, rfl, rfl, rfl, rfl, rfl, rfl, hrest⟩
  · have hlt' : s.pos.counter < s.clampCounter v := hlt
    obtain ⟨t, hx, hsearch, hrest⟩ := begins (.tail _ (.head _)) { newSearch .counter s with target := some (s.clampCounter v), playAfter := pa }
      (r := (.fwind, .fwind, 6)) (by simp [searchMotions]) [flag s.pos.approx]
      (by simp only [counterSearch, hb]; rw [if_neg (hne hlt'), if_pos hlt'])
    exact ⟨t, _, hx, hsearch, rfl, rfl, rfl, rfl, rfl, rfl, rfl, hrest⟩
  · have hlt' : s.clampCounter v < s.pos.counter := hlt
    obtain ⟨t, hx, hsearch, hrest⟩ := begins (.tail _ (.head _)) { newSearch .counter s with target := some (s.clampCounter v), playAfter := pa }
      (r := (.rwind, .rwind, 6)) (by simp [searchMotions]) [flag s.pos.approx]
      (by simp only [counterSearch, hb]; rw [if_neg (by omega), if_neg (by omega)])
    exact ⟨t, _, hx, hsearch, rfl, rfl, rfl, rfl, rfl, rfl, rfl, hrest⟩
  · obtain ⟨t, hx, hsearch, hrest⟩ := begins (.tail _ (.tail _ (.head _))) (newSearch .blank s) (r := (.cue, .cue, 4))
      (by simp [searchMotions]) [] (by simp only [blankSearch, hb])
    exact ⟨t, _, hx, hsearch, rfl, rfl, rfl, rfl, rfl, rfl, rfl, hrest⟩
  · obtain ⟨t, hx, hsearch, hrest⟩ := begins (.tail _ (.tail _ (.tail _ (.head _)))) (newSearch .scan s) (r := (.fwind, .fwind, 6))
      (by simp [searchMotions]) [] (by simp only [indexScan, hb])
    exact ⟨t, _, hx, hsearch, rfl, rfl, rfl, rfl, rfl, rfl, rfl, hrest⟩

end Sys2Proof.Machine

/-!
Sys2Proof/Proofs/RecordingTimers: the entry that holds the recorder starts to record when the deck is ready and its time has come, and
ends at its stop timer, its window close or CANCEL (O42).
-/

namespace Sys2Proof.Machine

/-- Slot n holds the recorder, no command in flight; no other entry has an occurrence. -/
structure State.HeldFor (s : State) (n : Nat) (k : Slot) (h : Holder) (e : Entry) (o : Occurrence) : Prop where
  has    : s.hasSlot n k
  only   : s.onlyOccurrence n
  holder : s.sched.holder = some h
  slot   : h.slot = n
  entry  : k.entry = some e
  occ    : k.occ = some o
  owner  : s.mech.owner = .timer n
  free   : s.mech.inFlight = none
  kept   : s.mech.standbyStop = false
  known  : s.mech.recoveryPending = false

/-- R169: leaving RECORD changes the holder's running stretch and the recorded time of its occurrence alone. -/
theorem recordStopped_sched {s : State} {n : Nat} {k : Slot} {h : Holder} (hk : s.hasSlot n k) (hh : s.sched.holder = some h)
    (hn : h.slot = n) : ∃ h' oc, (recordStopped s).sched =
      { s.sched with holder := some h', slots := s.sched.slots.set (n - 1) { k with occ := oc } } := by
  cases hr : h.recSince with
  | none =>
    refine ⟨h, k.occ, ?_⟩
    obtain ⟨hi, hki⟩ := List.getElem?_eq_some_iff.mp hk.2.2
    simp only [recordStopped, hh, hr]
    rw [show ({ k with occ := k.occ } : Slot) = s.sched.slots[n - 1] from hki.symm, List.set_getElem_self, ← hh]
  | some t =>
    refine ⟨{ h with recSince := none }, k.occ.map fun o => { o with recorded := o.recorded + (s.clock.ticks - t) }, ?_⟩
    simp only [recordStopped, hh, hr, hn, State.onSched_sched]
    rw [modify_of_hasSlot hk.2.2]

theorem setState_sched_left {m : MState} (j : Option Junction) (b : Bool) {s : State} (hs : s.mech.state = .record) (hm : m ≠ .record) :
    (setState m j b s).sched = (recordStopped (coastFollow m.onDrum (motionEnd s))).sched := by
  simp only [setState]
  rw [if_pos ⟨hs, hm⟩]
  split <;> simp

/-- R167, step 1: in RECORD the STOP of the end starts the shift to HALT_POS. -/
def recordingStopped (n : Nat) (s : State) : State :=
  (startShift .halt false (((s.onSched fun c => { c with nextTag := c.nextTag + 1 })).onMech fun m => { m with fault := .none })).onMech
    fun m => { m with inFlight := some { what := .stop, origin := .timer n, tag := s.sched.nextTag } }

theorem stopIssued_record {n : Nat} (out : EndCode) {s : State} (hst : (s.slot n).state = .recording) (hm : s.mech.state = .record)
    (hf : s.mech.inFlight = none) (hb : s.mech.standbyStop = false) (hr : s.mech.recoveryPending = false) :
    stopIssued n out false s = recordingStopped n s := by
  have hneeds : needsStop out s = true := by simp [needsStop, hm, MState.threaded]
  simp only [stopIssued, hst, hneeds]
  rw [if_pos (by simp)]
  have hready : (s.onSched fun c => { c with nextTag := c.nextTag + 1 }).DeckReady := ⟨hr, hb, hf, by rw [State.onSched_mech, hm]; rfl⟩
  have hpass : mechChecks (timerCmd n s.sched.nextTag { what := .stop }) (s.onSched fun c => { c with nextTag := c.nextTag + 1 }) = none := by
    simp [mechChecks, timerCmd, hm, hr, ownerRefuses, badFrom, recordForm, forwardTarget, reverseTarget]
  rw [submit_now _ hready, execute_passed hpass, if_pos (.inl rfl), clearFault_eq (by simp [hm])]
  simp [mechWork, timerCmd, hm, takesTime, recordingStopped]

theorem recordingStopped_mech (n : Nat) (s : State) : (recordingStopped n s).mech.state = .shifting ∧
    (recordingStopped n s).mech.target = .halt ∧ (recordingStopped n s).mech.recAmp = false ∧
    (recordingStopped n s).mech.inFlight = some { what := .stop, origin := .timer n, tag := s.sched.nextTag } ∧
    (recordingStopped n s).clock = s.clock ∧ (recordingStopped n s).reports = s.reports ∧
    releasedOwner (recordingStopped n s).mech = .none := by
  refine ⟨?_, ?_, ?_, ?_, ?_, ?_, ?_⟩ <;> simp [recordingStopped, startShift, driveCam, aimAt, releasedOwner, MState.transition]

theorem recordingStopped_sched {s : State} {n : Nat} {k : Slot} {h : Holder} (hk : s.hasSlot n k) (hh : s.sched.holder = some h)
    (hn : h.slot = n) (hm : s.mech.state = .record) : ∃ h' oc, (recordingStopped n s).sched =
      { s.sched with nextTag := s.sched.nextTag + 1, holder := some h', slots := s.sched.slots.set (n - 1) { k with occ := oc } } := by
  let y := (s.onSched fun c => { c with nextTag := c.nextTag + 1 }).onMech fun m => { m with fault := .none }
  have hy : (coastFollow MState.shifting.onDrum (motionEnd y)).sched = { s.sched with nextTag := s.sched.nextTag + 1 } := by simp [y]
  obtain ⟨h', oc, hs⟩ := recordStopped_sched (s := coastFollow MState.shifting.onDrum (motionEnd y)) (n := n) (k := k) (h := h)
    ⟨hk.1, hk.2.1, by rw [hy]; exact hk.2.2⟩ (by rw [hy]; exact hh) hn
  refine ⟨h', oc, ?_⟩
  have hset : (recordingStopped n s).sched = (setState .shifting none false y).sched := by
    simp [recordingStopped, startShift, driveCam, aimAt, y]
  rw [hset, setState_sched_left none false (s := y) (by simpa [y] using hm) (by simp), hs, hy]

/-- R169: the slot once the ONCE occurrence has ended, its recorded seconds with the running stretch counted. -/
def onceDone (out : EndCode) (k : Slot) (h : Holder) (o : Occurrence) (ticks : Nat) : Slot :=
  { k with state := .done, lastDate := some o.date, outcome := out, occ := none,
           recSeconds := min ((o.recorded + (match h.recSince with | none => 0 | some t => ticks - t)) / 1024) 86399 }

theorem recordedSeconds_holder {s : State} {n : Nat} {k : Slot} {h : Holder} {e : Entry} {o : Occurrence} (hs : s.HeldFor n k h e o) :
    s.recordedSeconds n = (onceDone .ok k h o s.clock.ticks).recSeconds := by
  simp [State.recordedSeconds, State.recordedTicks, slot_of_hasSlot hs.has, hs.occ, hs.holder, hs.slot, Config.ticksPerSecond, onceDone] <;> rfl

/-- R12, R150, R167 to R169: what the end of a ONCE occurrence RECORDING in RECORD leaves. -/
structure RecordingEnded (n : Nat) (e : Entry) (j : Slot) (s t : State) : Prop where
  slots  : t.sched.slots = s.sched.slots.set (n - 1) j
  off    : t.sched.holder = none ∧ t.sched.stopAt = none ∧ t.sched.schedAt = none ∧ t.sched.windowAt = none ∧ t.sched.held = none ∧
    t.sched.loss = none
  post   : t.sched.post = some { since := s.now, slot := n, powerOff := e.powerOff }
  owner  : t.mech.owner = .none
  state  : t.mech.state = .shifting
  target : t.mech.target = .halt
  amp    : t.mech.recAmp = false
  flight : t.mech.inFlight = some { what := .stop, origin := .timer n, tag := s.sched.nextTag }
  clock  : t.clock = s.clock

theorem endOccurrence_recording (out : EndCode) {s : State} {n : Nat} {k : Slot} {h : Holder} {e : Entry} {o : Occurrence}
    (hs : s.HeldFor n k h e o) (hst : k.state = .recording) (ho : e.repeats = .once) (hm : s.mech.state = .record) :
    RecordingEnded n e (onceDone out k h o s.clock.ticks) s (endOccurrence n out false s) := by
  have hk := slot_of_hasSlot hs.has
  have hx := stopIssued_record (n := n) out (by rw [hk]; exact hst) hm hs.free hs.kept hs.known
  obtain ⟨h', oc, hsched⟩ := recordingStopped_sched hs.has hs.holder hs.slot hm
  obtain ⟨mstate, mtarget, mamp, mflight, mclock, -, mowner⟩ := recordingStopped_mech n s
  obtain ⟨hi, -⟩ := List.getElem?_eq_some_iff.mp hs.has.2.2
  have h1 : (stopIssued n out false s).sched.slots[n - 1]? = some { k with occ := oc } := by rw [hx, hsched]; simp [hi]
  obtain ⟨hmech, hsch, hsame⟩ := sameCore_of_core
    (endOccurrence_core n out hk hs.entry ho (by rw [hst]; rfl) false (k1 := { k with occ := oc }) h1 hs.entry)
  rw [hx] at hmech hsch hsame
  have hclock := hsame.clock.trans mclock
  have hslots : (endOccurrence n out false s).sched.slots = s.sched.slots.set (n - 1) (onceDone out k h o s.clock.ticks) := by
    rw [hsch, hsched]
    simp only [Sched.released, List.set_set]
    rw [recordedSeconds_holder hs, Slot.date, hs.occ]
    rfl
  refine ⟨hslots, ?_, ?_, ?_, ?_, ?_, ?_, ?_, hclock⟩
  · rw [hsch]; exact ⟨rfl, rfl, rfl, rfl, rfl, rfl⟩
  · rw [hsch, Sched.released, State.now, mclock]; rfl
  · rw [hmech]; exact mowner
  · rw [hmech]; exact mstate
  · rw [hmech]; exact mtarget
  · rw [hmech]; exact mamp
  · rw [hmech]; exact mflight

theorem finish_recordingEnded {n : Nat} {e : Entry} {j : Slot} {s y : State} (h : RecordingEnded n e j s y) (hj : j.occ = none)
    (honly : s.onlyOccurrence n) (hr : ∀ r ∈ y.reports, r.idle true = true) (hl : y.reports.length ≤ 3) :
    RecordingEnded n e j s (finish y) := by
  have hn : y.noOccurrence := ⟨by rw [h.slots]; exact noOccurrence_set honly hj, h.off.1⟩
  obtain ⟨d, hd⟩ := finish_reports true y hn (by simp) (by omega) hr
  rw [hd]
  exact ⟨h.slots, h.off, h.post, h.owner, h.state, h.target, h.amp, h.flight, h.clock⟩

theorem endOccurrence_recording_reports (out : EndCode) {s : State} {n : Nat} {k : Slot} {h : Holder} {e : Entry} {o : Occurrence}
    (hs : s.HeldFor n k h e o) (hst : k.state = .recording) (hm : s.mech.state = .record) (hr : s.reports = []) :
    (∀ r ∈ (endOccurrence n out false s).reports, r.idle true = true) ∧ (endOccurrence n out false s).reports.length ≤ 2 := by
  obtain ⟨l, hl, hlen, he⟩ := endOccurrence_reports n out (slot_of_hasSlot hs.has) (by rw [hst]; rfl) false
  rw [he, stopIssued_record out (by rw [slot_of_hasSlot hs.has]; exact hst) hm hs.free hs.kept hs.known,
    (recordingStopped_mech n s).2.2.2.2.2.1, hr]
  exact ⟨hl, hlen⟩

/-- R154: the stop timer at its instant ends the occurrence with OK, or LATE with the late mark. -/
theorem exec_stopTimer_ends {s : State} {n t0 : Nat} {k : Slot} {h : Holder} {e : Entry} {o : Occurrence} (hh : s.hears)
    (hs : s.HeldFor n k h e o) (hst : k.state = .recording) (ho : e.repeats = .once) (hm : s.mech.state = .record)
    (ht : s.sched.stopAt = some t0) (hnow : t0 ≤ s.now) :
    ∃ t, exec .stopTimerExpiry s = .next t ∧
      RecordingEnded n e (onceDone (if o.late then .late else .ok) k h o s.clock.ticks) s t := by
  have hk := slot_of_hasSlot hs.has
  have hx : stopTimeout s = endOccurrence n (if o.late then .late else .ok) false s := by
    simp only [stopTimeout, ht, reached, State.holderState, hs.holder, hs.slot, hk, hst, hs.occ]
    rw [if_pos ⟨by simpa using hnow, trivial⟩]
  obtain ⟨hr, hl⟩ := endOccurrence_recording_reports (if o.late then .late else .ok) hs hst hm hh.2
  refine ⟨finish (stopTimeout s), ?_, ?_⟩
  · exact congrArg Host.Outcome.next (run_high stopTimeout s hh.1)
  · rw [hx]
    exact finish_recordingEnded (endOccurrence_recording _ hs hst ho hm) rfl hs.only hr (by omega)

theorem State.HeldFor.onSched_windowAt {s : State} {n : Nat} {k : Slot} {h : Holder} {e : Entry} {o : Occurrence}
    (hs : s.HeldFor n k h e o) : (s.onSched fun c => { c with windowAt := none }).HeldFor n k h e o :=
  ⟨hs.has, hs.only, hs.holder, hs.slot, hs.entry, hs.occ, hs.owner, hs.free, hs.kept, hs.known⟩

/-- R160: the window timer at its instant ends the recording with SHORT. -/
theorem exec_windowTimer_ends {s : State} {n t0 : Nat} {k : Slot} {h : Holder} {e : Entry} {o : Occurrence} (hh : s.hears)
    (hs : s.HeldFor n k h e o) (hst : k.state = .recording) (ho : e.repeats = .once) (hm : s.mech.state = .record)
    (ht : s.sched.windowAt = some t0) (hnow : t0 ≤ s.now) :
    ∃ t, exec .windowTimerExpiry s = .next t ∧ RecordingEnded n e (onceDone .short k h o s.clock.ticks) s t := by
  have hs' := hs.onSched_windowAt
  have hk : (s.onSched fun c => { c with windowAt := none }).slot n = k := slot_of_hasSlot hs'.has
  have hx : windowTimeout s = endOccurrence n .short false (s.onSched fun c => { c with windowAt := none }) := by
    simp only [windowTimeout, ht, reached, hs.holder, Option.isSome_some]
    rw [if_pos ⟨by simpa using hnow, trivial⟩]
    simp only [windowClosed, hs'.holder, hs.slot, hk, hst]
  obtain ⟨hr, hl⟩ := endOccurrence_recording_reports .short hs' hst hm hh.2
  refine ⟨finish (windowTimeout s), congrArg Host.Outcome.next (run_high windowTimeout s hh.1), ?_⟩
  rw [hx]
  obtain ⟨q1, q2, q3, q4, q5, q6, q7, q8, q9⟩ :=
    finish_recordingEnded (endOccurrence_recording .short hs' hst ho hm) rfl hs.only hr (by omega)
  exact ⟨q1, q2, q3, q4, q5, q6, q7, q8, q9⟩

/-- R170: CANCEL of the entry that records ends its occurrence with CANCELLED. -/
theorem exec_cancel_ends {s : State} {n : Nat} {k : Slot} {h : Holder} {e : Entry} {o : Occurrence} (ht : s.takes)
    (hs : s.HeldFor n k h e o) (hst : k.state = .recording) (ho : e.repeats = .once) (hm : s.mech.state = .record) :
    ∃ t, exec (.cancel n) s = .next t ∧ RecordingEnded n e (onceDone .cancelled k h o s.clock.ticks) s t := by
  have hk := slot_of_hasSlot hs.has
  have hnum : slotNumber n = true := by simp [slotNumber, hs.has.1, hs.has.2.1, Config.slotCount]
  have hx : entryCancel n s = done (report .evaluate (endOccurrence n .cancelled false s)) := by
    simp only [entryCancel, hnum, hk, hst, EntryState.cancels, EntryState.holds]
    simp [cancelEntry]
  obtain ⟨hr, hl⟩ := endOccurrence_recording_reports .cancelled hs hst hm ht.1.2
  have hend := endOccurrence_recording .cancelled hs hst ho hm
  refine ⟨finish (replyWith (kindOf (.cancel n)) (entryCancel n s)), ?_, ?_⟩
  · exact congrArg Host.Outcome.next (run_request_open (.cancel n) s ht (by simp) _ rfl)
  · rw [hx]
    generalize endOccurrence n .cancelled false s = y at *
    refine finish_recordingEnded (y := replyWith (kindOf (.cancel n)) (done (report .evaluate y)))
      ⟨hend.slots, hend.off, hend.post, hend.owner, hend.state, hend.target, hend.amp, hend.flight, hend.clock⟩ rfl hs.only ?_ ?_
    · intro r hmem
      rcases List.mem_append.mp (show r ∈ y.reports ++ [Report.evaluate] from hmem) with hmem | hmem
      · exact hr r hmem
      · obtain rfl := List.mem_singleton.mp hmem; rfl
    · show (y.reports ++ [Report.evaluate]).length ≤ 3
      rw [List.length_append]
      exact Nat.add_le_add_right hl 1

/-- R162: an entry that asks for no automatic speed is never checked. -/
theorem speedCheck_unasked {x : State} {n : Nat} {k : Slot} {h : Holder} {e : Entry} {o : Occurrence} (hk : x.slot n = k)
    (hh : x.sched.holder = some h) (hn : h.slot = n) (he : k.entry = some e) (hocc : k.occ = some o) (hsp : e.speed ≠ .auto)
    (hsl : e.allowSlower = false) : speedCheck x = x := by
  have hauto : autoApplies e = false := by simp [autoApplies, hsp, hsl]
  simp [speedCheck, hh, hn, hk, he, hocc, hauto]

/-- R154, R169: SCHED once MECH has entered RECORD under the entry. -/
def recordingSince (n : Nat) (k : Slot) (h : Holder) (o : Occurrence) (s : State) : State :=
  s.onSched fun c =>
    { c with slots := c.slots.set (n - 1) { k with occ := some { o with started := true } },
             holder := some { h with recSince := some s.clock.ticks, awaitLive := true } }

theorem recordingSince_eq {s : State} {n : Nat} {k : Slot} {h : Holder} {e : Entry} {o : Occurrence} (hs : s.HeldFor n k h e o) :
    onOcc n (fun x => { x with started := true }) (onHolder (fun x => { x with recSince := some s.clock.ticks, awaitLive := true }) s) =
      recordingSince n k h o s := by
  simp only [onOcc, onSlot, onHolder, recordingSince, State.onSched, hs.holder, Option.map_some, modify_of_hasSlot hs.has.2.2, hs.occ]

/-- R154, R169: the report of an entry to RECORD under an entry that asks for no automatic speed. -/
theorem schedRecording_holder {s : State} {n : Nat} {k : Slot} {h : Holder} {e : Entry} {o : Occurrence} (hs : s.HeldFor n k h e o)
    (hst : k.state ∈ [EntryState.recording, .held]) (hm : s.mech.state = .record) (hsp : e.speed ≠ .auto) (hsl : e.allowSlower = false) :
    schedRecording s = (if o.started then id else timepoint n .recordStart) (recordingSince n k h o s) := by
  have hk := slot_of_hasSlot hs.has
  have hrec : k.state.records = true := by
    simp only [List.mem_cons, List.not_mem_nil, or_false] at hst
    rcases hst with hst | hst <;> rw [hst] <;> rfl
  obtain ⟨hi, -⟩ := List.getElem?_eq_some_iff.mp hs.has.2.2
  have hchecked (x : State) (hx : x.sched = (recordingSince n k h o s).sched) : speedCheck x = x := by
    refine speedCheck_unasked (n := n) (k := { k with occ := some { o with started := true } })
      (h := { h with recSince := some s.clock.ticks, awaitLive := true }) ?_ (by rw [hx]; rfl) hs.slot hs.entry rfl hsp hsl
    simp [State.slot, hx, recordingSince, List.getD_eq_getElem?_getD, hi]
  simp only [schedRecording, hs.holder, hs.slot, hk, hs.occ]
  rw [if_pos ⟨hrec, hm⟩, recordingSince_eq hs]
  cases o.started with
  | true => exact hchecked _ rfl
  | false => exact hchecked _ (congrArg Core.sched (timepoint_core n .recordStart (recordingSince n k h o s)))

end Sys2Proof.Machine

/-!
Sys2Proof/Proofs/HolderEvaluation: an evaluation while one entry holds the recorder and no other has an occurrence comes to what the
holder does at its instants; the deck ready, the holder records (O42).
-/

namespace Sys2Proof.Machine

/-! ## The evaluation -/

theorem slot_other {n j : Nat} {s : State} (h : s.onlyOccurrence n) (hn : 1 ≤ n) (hj : 1 ≤ j) (hne : j ≠ n) : (s.slot j).occ = none := by
  simp only [State.slot, List.getD_eq_getElem?_getD]
  cases hs : s.sched.slots[j - 1]? with
  | none => rfl
  | some t =>
    refine h t (List.mem_iff_getElem?.mpr ⟨j - 1, ?_⟩)
    rw [List.getElem?_set_ne (by omega)]
    exact hs

theorem one_le_of_mem_slotNumbers {j : Nat} (h : j ∈ slotNumbers) : 1 ≤ j := by
  simp only [slotNumbers, List.mem_map] at h
  obtain ⟨i, -, rfl⟩ := h
  omega

theorem foldl_fixed {f : State → Nat → State} {s : State} : ∀ l : List Nat, (∀ j ∈ l, f s j = s) → l.foldl f s = s
  | [], _ => rfl
  | j :: l, h => by
    rw [List.foldl_cons, h j (by simp)]
    exact foldl_fixed l fun i hi => h i (by simp [hi])

theorem setDue_due (s : State) : ∃ d, setDue s = s.onSched fun c => { c with due := d } := ⟨_, rfl⟩

/-- R148: with one occurrence, of an entry that holds the recorder, no slot claims. -/
theorem waitOrder_held {n : Nat} {s : State} (honly : s.onlyOccurrence n) (hn : 1 ≤ n) (hst : (s.slot n).state.holds = true) :
    waitOrder s = [] := by
  have hclaims : slotNumbers.filter (claims s) = [] := by
    rw [List.filter_eq_nil_iff]
    intro j hj
    by_cases hjn : j = n
    · subst hjn
      simp only [claims]
      split
      · simp
      · cases hs : (s.slot j).state <;> simp_all [EntryState.holds]
    · simp [claims, slot_other honly hn (one_le_of_mem_slotNumbers hj) hjn]
  rw [waitOrder, hclaims]
  rfl

/-- R145: with one occurrence, of an entry that holds the recorder and whose window opening is judged, an evaluation comes to the
holder's instants. -/
theorem evaluate_held {n : Nat} {s : State} (hv : s.clock.valid = true) (honly : s.onlyOccurrence n) (hn : 1 ≤ n)
    (hst : (s.slot n).state.holds = true) (hwin : windowOpening n s = s) {y : State} (hy : holderInstants s = y)
    (yonly : y.onlyOccurrence n) (yst : (y.slot n).state.holds = true) :
    ∃ d, evaluate s = y.onSched fun c => { c with due := d } := by
  have hmiss : slotNumbers.foldl (fun x j => missTest j x) s = s := by
    refine foldl_fixed slotNumbers fun j hj => ?_
    by_cases hjn : j = n
    · subst hjn
      simp only [missTest]
      split
      · rfl
      · rw [if_neg]
        rintro ⟨h | h, -⟩ <;> simp [h, EntryState.holds] at hst
    · simp [missTest, slot_other honly hn (one_le_of_mem_slotNumbers hj) hjn]
  have hopen : slotNumbers.foldl (fun x j => windowOpening j x) s = s := by
    refine foldl_fixed slotNumbers fun j hj => ?_
    by_cases hjn : j = n
    · rw [hjn]; exact hwin
    · simp [windowOpening, slot_other honly hn (one_le_of_mem_slotNumbers hj) hjn]
  rw [evaluate, if_pos hv]
  simp only [hmiss, hopen, hy, waitOrder_held yonly hn yst, answerClaims]
  exact setDue_due y

/-! ## The deck ready -/

/-- The deck stands ready for the preparation of slot n's entry, nothing of it outstanding (R153, R154). -/
structure State.ReadyFor (s : State) (n : Nat) (k : Slot) (h : Holder) (e : Entry) (o : Occurrence) : Prop
    extends s.HeldFor n k h e o where
  prepares : k.state = .preparing
  rests    : s.mech.state = .recPause
  junction : s.mech.junction = none
  tab      : s.mech.tab = true
  clear    : s.pins.leaderEnd = false
  waits    : h.awaitReady = true
  deck     : h.awaitDeck = false
  closed   : h.waiting = false
  wants    : h.want = []
  skip     : h.skip = none
  retest   : h.retest = false
  window   : e.labelFollow = false ∨ o.winSeen = true ∧ (s.clock.reading : Int) < o.winClose * 1024

theorem State.ReadyFor.isLabel {s : State} {n : Nat} {k : Slot} {h : Holder} {e : Entry} {o : Occurrence} (hs : s.ReadyFor n k h e o) :
    s.isLabel n = e.labelFollow := by
  simp [State.isLabel, slot_of_hasSlot hs.has, hs.entry]

theorem State.ReadyFor.windowOpening {s : State} {n : Nat} {k : Slot} {h : Holder} {e : Entry} {o : Occurrence}
    (hs : s.ReadyFor n k h e o) : windowOpening n s = s := by
  simp only [Machine.windowOpening, slot_of_hasSlot hs.has, hs.occ, hs.isLabel]
  rcases hs.window with hw | ⟨hw, -⟩ <;> simp [hw]

/-- R154: in PREPARING the holder's instants come to the deck being ready. -/
theorem State.ReadyFor.holderInstants {s : State} {n : Nat} {k : Slot} {h : Holder} {e : Entry} {o : Occurrence}
    (hs : s.ReadyFor n k h e o) : holderInstants s = deckReady s := by
  have hk := slot_of_hasSlot hs.has
  have hclose : (s.isLabel n && s.reachedInstant o.winClose) = false := by
    rw [hs.isLabel]
    rcases hs.window with hw | ⟨-, hw⟩
    · simp [hw]
    · simp [State.reachedInstant, hw]
  have hready : isReady s = true := by
    simp [isReady, hs.holder, hs.waits, hs.deck, hs.closed, hs.wants, hs.skip, hs.slot, hk, hs.prepares, EntryState.ends, hs.rests, hs.junction]
  simp only [Machine.holderInstants, hs.holder, hs.slot, hk, hs.occ, hs.prepares, hclose, readyTest, hready]
  simp

theorem onHolder_same {s : State} {f : Holder → Holder} {h : Holder} (hh : s.sched.holder = some h) (hf : f h = h) : onHolder f s = s := by
  simp only [onHolder, State.onSched, hh, Option.map_some, hf]
  rw [← hh]

/-- R154: with the deck ready the entry records, but in mode FIXED not before its start. -/
theorem State.ReadyFor.deckReady {s : State} {n : Nat} {k : Slot} {h : Holder} {e : Entry} {o : Occurrence}
    (hs : s.ReadyFor n k h e o) :
    deckReady s = if o.mode = .fixed ∧ s.reachedInstant o.start = false then s else beginRecording s := by
  have hsame : onHolder (fun x => { x with retest := false }) s = s := onHolder_same hs.holder (by rw [← hs.retest])
  simp only [Machine.deckReady, hs.holder, hs.retest, hs.slot, slot_of_hasSlot hs.has, hs.occ, hs.prepares, hsame]
  cases o.mode <;> cases s.reachedInstant o.start <;> simp

/-! ## RECORDING begins -/

/-- R154: in mode FIXED a recording is late from 1 s past its start. -/
def lateNow (o : Occurrence) (s : State) : Bool :=
  o.late || decide (o.mode = .fixed) && decide ((o.start + 1) * 1024 ≤ (s.clock.reading : Int))

/-- R154, R158: the slot once its entry is RECORDING. -/
def recordingSlot (k : Slot) (o : Occurrence) (s : State) : Slot :=
  { k with state := .recording, occ := some { o with late := lateNow o s } }

/-- R154, R158: SCHED's timers once the entry is RECORDING. -/
def recordingTimers (o : Occurrence) (s : State) (c : Sched) : Sched :=
  { c with stopAt := if o.mode = .label then c.stopAt else some (s.crystalAt (o.stop * 1024)),
           schedAt := if o.mode = .label then some (s.crystalAt (o.stop * 1024)) else c.schedAt,
           windowAt := if o.mode = .label then some (s.crystalAt (o.winClose * 1024)) else c.windowAt }

/-- R154, R158: the entry RECORDING, its RECORD not yet issued; h is what is kept of the holder. -/
def recordingEntered (n : Nat) (k : Slot) (h : Holder) (o : Occurrence) (s : State) : State :=
  notify (.entryState n .preparing .recording (some o.date) none) (s.onSched fun c =>
    { recordingTimers o s c with slots := c.slots.set (n - 1) (recordingSlot k o s), holder := some h })

theorem enterRecording_eq {s : State} {n : Nat} {k : Slot} {h : Holder} {e : Entry} {o : Occurrence} (hs : s.ReadyFor n k h e o) :
    enterRecording s = recordingEntered n k { h with overrun := false } o s := by
  have hi : n - 1 < s.sched.slots.length := (List.getElem?_eq_some_iff.mp hs.has.2.2).1
  have hslots : s.sched.slots[n - 1]? = some k := hs.has.2.2
  let k1 : Slot := { k with occ := some { o with late := lateNow o s } }
  have hsame (y : State) (hy : y = s.onSched fun c =>
      { recordingTimers o s c with slots := c.slots.set (n - 1) k1, holder := some { h with overrun := false } }) :
      slotTo n .recording y = recordingEntered n k { h with overrun := false } o s := by
    have hget : y.sched.slots[n - 1]? = some k1 := by simp [hy, hi]
    have hslot : y.slot n = k1 := by simp [State.slot, List.getD_eq_getElem?_getD, hget]
    rw [slotTo, hslot, if_neg (by simp [k1, hs.prepares])]
    simp only [onSlot, State.onSched, modify_of_hasSlot hget]
    simp only [hy, State.onSched, List.set_set, k1, hs.prepares]
    rfl
  have hn := hs.slot
  subst hn
  simp only [enterRecording, hs.holder, slot_of_hasSlot hs.has, hs.occ]
  refine hsame _ ?_
  simp only [onOcc, onSlot, onHolder, State.onSched, modify_of_hasSlot hslots, hs.occ, Option.map_some, recordingTimers, k1]
  cases hm : o.mode <;> simp [hs.holder, lateNow, hm]

theorem onHolder_recordingEntered (f : Holder → Holder) (n : Nat) (k : Slot) (h : Holder) (o : Occurrence) (s : State) :
    onHolder f (recordingEntered n k h o s) = recordingEntered n k (f h) o s := rfl

theorem recordingEntered_mech (n : Nat) (k : Slot) (h : Holder) (o : Occurrence) (s : State) :
    (recordingEntered n k h o s).mech = s.mech ∧ (recordingEntered n k h o s).pins = s.pins ∧
      (recordingEntered n k h o s).clock = s.clock ∧ (recordingEntered n k h o s).reports = s.reports ∧
      (recordingEntered n k h o s).sched =
        { recordingTimers o s s.sched with slots := s.sched.slots.set (n - 1) (recordingSlot k o s), holder := some h } := by
  simp [recordingEntered]

/-- R17, R153: RECORD of an entry, the deck in REC_PAUSE, begins its pre-roll. -/
def preRolls (c : Cmd) (y : State) : State :=
  (setState .recPause (some .preRoll) false (clearFault y)).onMech fun m => { m with inFlight := some c }

theorem submit_preRolls {n tag : Nat} {y : State} (h : y.DeckReady) (hm : y.mech.state = .recPause) (ht : y.mech.tab = true)
    (hl : y.pins.leaderEnd = false) :
    submit (timerCmd n tag { what := .record }) y = (preRolls (timerCmd n tag { what := .record }) y, .accepted) := by
  have hpass : mechChecks (timerCmd n tag { what := .record }) y = none := by
    simp [mechChecks, timerCmd, hm, h.known, ownerRefuses, badFrom, recordForm, ht, forwardTarget, hl, reverseTarget]
  rw [submit_now _ h, execute_passed hpass, if_neg (by simp [timerCmd])]
  simp [timerCmd, claimPanel, mechWork, clearFault_eq (s := y) (by simp [hm]), hm, junctionWork, takesTime, preRolls]

/-- What is kept of the holder once its RECORD is in flight. -/
def Holder.recordIssued (h : Holder) : Holder := { h with awaitReady := false, waiting := true, overrun := false }

/-- R153, R154: the entry RECORDING, its RECORD in flight in the pre-roll. -/
def recordingBegun (n : Nat) (k : Slot) (h : Holder) (o : Occurrence) (s : State) : State :=
  onHolder (fun x => { x with waiting := true })
    (preRolls (timerCmd n h.tag { what := .record })
      (recordingEntered n k { h with awaitReady := false, overrun := false } o s))

theorem beginRecording_eq {s : State} {n : Nat} {k : Slot} {h : Holder} {e : Entry} {o : Occurrence} (hs : s.ReadyFor n k h e o) :
    beginRecording s = recordingBegun n k h o s := by
  obtain ⟨hmech, hpins, -, -, hsched⟩ := recordingEntered_mech n k { h with awaitReady := false, overrun := false, want := [] } o s
  have hsub := submit_preRolls (n := n) (tag := h.tag)
    (y := recordingEntered n k { h with awaitReady := false, overrun := false, want := [] } o s)
    ⟨by rw [hmech]; exact hs.known, by rw [hmech]; exact hs.kept, by rw [hmech]; exact hs.free, by rw [hmech, hs.rests]; rfl⟩
    (by rw [hmech]; exact hs.rests) (by rw [hmech]; exact hs.tab) (by rw [hpins]; exact hs.clear)
  have hholder (g : Holder) : (recordingEntered n k g o s).sched.holder = some g := by simp [recordingEntered]
  have hw := hs.wants
  have hn := hs.slot
  subst hn
  rw [beginRecording, enterRecording_eq hs, issueRecord, onHolder_recordingEntered, wantMore, onHolder_recordingEntered]
  simp only [pump, hholder, hs.closed, hw, List.nil_append, onHolder_recordingEntered]
  simp only [hs.closed] at hsub
  rw [hsub]
  simp only [recordingBegun, hw, hs.closed]
  rfl

theorem preRolls_keeps (c : Cmd) {y : State} (hm : y.mech.state = .recPause) : (preRolls c y).sched = y.sched ∧
    (preRolls c y).clock = y.clock ∧ (preRolls c y).reports = y.reports ∧ (preRolls c y).mech.owner = y.mech.owner := by
  refine ⟨?_, ?_, ?_, ?_⟩
  on_goal 1 => rw [preRolls, State.onMech_sched, setState_sched _ _ _ _ (.inl (by simp [clearFault_eq (s := y) (by simp [hm]), hm]))]
  all_goals simp [preRolls, clearFault_eq (s := y) (by simp [hm])]

theorem preRolls_mech (c : Cmd) (y : State) : (preRolls c y).mech.state = .recPause ∧ (preRolls c y).mech.junction = some .preRoll ∧
    (preRolls c y).mech.recAmp = false ∧ (preRolls c y).mech.inFlight = some c := by
  simp [preRolls]

theorem preRolls_prefix (c : Cmd) (y : State) : y.link.notices <+: (preRolls c y).link.notices := by
  have hp := setState_prefix .recPause (some .preRoll) false (clearFault y)
  have hc : (clearFault y).link = y.link := by unfold clearFault; split <;> rfl
  rw [hc] at hp
  exact hp

theorem recordingBegun_sched {s : State} {n : Nat} {k : Slot} {h : Holder} {e : Entry} {o : Occurrence} (hs : s.ReadyFor n k h e o) :
    (recordingBegun n k h o s).sched = { recordingTimers o s s.sched with
      slots := s.sched.slots.set (n - 1) (recordingSlot k o s), holder := some h.recordIssued } := by
  obtain ⟨hmech, -, -, -, hsched⟩ := recordingEntered_mech n k { h with awaitReady := false, overrun := false } o s
  obtain ⟨ksched, -⟩ := preRolls_keeps (timerCmd n h.tag { what := .record })
    (y := recordingEntered n k { h with awaitReady := false, overrun := false } o s) (by rw [hmech]; exact hs.rests)
  rw [recordingBegun, onHolder, State.onSched_sched, ksched, hsched]
  rfl

theorem recordingBegun_tells {s : State} (n : Nat) (k : Slot) (h : Holder) (o : Occurrence) (hroom : s.roomFor 1) :
    .entryState n .preparing .recording (some o.date) none ∈ (recordingBegun n k h o s).link.notices := by
  have hroom' (f : Sched → Sched) : (s.onSched f).roomFor 1 := hroom
  refine (preRolls_prefix (timerCmd n h.tag { what := .record })
    (recordingEntered n k { h with awaitReady := false, overrun := false } o s)).subset ?_
  rw [recordingEntered, notify_room (hroom' _)]
  simp

theorem recordingBegun_keeps {s : State} {n : Nat} {k : Slot} {h : Holder} {e : Entry} {o : Occurrence} (hs : s.ReadyFor n k h e o) :
    (recordingBegun n k h o s).mech.state = .recPause ∧ (recordingBegun n k h o s).mech.junction = some .preRoll ∧
      (recordingBegun n k h o s).mech.owner = .timer n ∧ (recordingBegun n k h o s).mech.recAmp = false ∧
      (recordingBegun n k h o s).mech.inFlight = some { what := .record, origin := .timer n, tag := h.tag } ∧
      (recordingBegun n k h o s).clock = s.clock ∧ (recordingBegun n k h o s).reports = s.reports := by
  obtain ⟨hmech, -, hclock, hreports, -⟩ := recordingEntered_mech n k { h with awaitReady := false, overrun := false } o s
  obtain ⟨-, kclock, kreports, kowner⟩ := preRolls_keeps (timerCmd n h.tag { what := .record })
    (y := recordingEntered n k { h with awaitReady := false, overrun := false } o s) (by rw [hmech]; exact hs.rests)
  obtain ⟨kstate, kjunction, kamp, kflight⟩ := preRolls_mech (timerCmd n h.tag { what := .record })
    (recordingEntered n k { h with awaitReady := false, overrun := false } o s)
  rw [hclock] at kclock
  rw [hreports] at kreports
  rw [hmech, hs.owner] at kowner
  rw [recordingBegun]
  generalize preRolls (timerCmd n h.tag { what := .record }) _ = y at *
  exact ⟨kstate, kjunction, kowner, kamp, kflight, kclock, kreports⟩

theorem State.ReadyFor.evaluate_waits {s : State} {n : Nat} {k : Slot} {h : Holder} {e : Entry} {o : Occurrence}
    (hs : s.ReadyFor n k h e o) (hv : s.clock.valid = true) (hmode : o.mode = .fixed) (hb : (s.clock.reading : Int) < o.start * 1024) :
    ∃ d, evaluate s = s.onSched fun c => { c with due := d } := by
  have hk := slot_of_hasSlot hs.has
  have hst : (s.slot n).state.holds = true := by rw [hk, hs.prepares]; rfl
  have hy : Machine.holderInstants s = s := by
    rw [hs.holderInstants, hs.deckReady, if_pos ⟨hmode, by simp [State.reachedInstant, hb]⟩]
  exact evaluate_held hv hs.only hs.has.1 hst hs.windowOpening hy hs.only hst

theorem State.ReadyFor.evaluate_records {s : State} {n : Nat} {k : Slot} {h : Holder} {e : Entry} {o : Occurrence}
    (hs : s.ReadyFor n k h e o) (hv : s.clock.valid = true) (hb : o.mode ≠ .fixed ∨ o.start * 1024 ≤ (s.clock.reading : Int)) :
    ∃ d, evaluate s = (recordingBegun n k h o s).onSched fun c => { c with due := d } := by
  have hk := slot_of_hasSlot hs.has
  have hst : (s.slot n).state.holds = true := by rw [hk, hs.prepares]; rfl
  obtain ⟨hi, -⟩ := List.getElem?_eq_some_iff.mp hs.has.2.2
  have hsched := recordingBegun_sched hs
  have hy : Machine.holderInstants s = recordingBegun n k h o s := by
    rw [hs.holderInstants, hs.deckReady, if_neg, beginRecording_eq hs]
    rintro ⟨hmode, hreached⟩
    rcases hb with hb | hb
    · exact hb hmode
    · simp [State.reachedInstant] at hreached
      omega
  have yonly : (recordingBegun n k h o s).onlyOccurrence n := by
    rw [State.onlyOccurrence, hsched]
    simp only [List.set_set]
    exact hs.only
  have yst : ((recordingBegun n k h o s).slot n).state.holds = true := by
    simp only [State.slot, hsched]
    rw [List.getD_eq_getElem?_getD, List.getElem?_set_self hi]
    rfl
  exact evaluate_held hv hs.only hs.has.1 hst hs.windowOpening hy yonly yst

theorem exec_dueTimer {s : State} {t0 : Nat} (hh : s.hears) (hdue : s.sched.due = some t0) (hnow : t0 ≤ s.now) :
    exec .dueTimerExpiry s = .next (finish (evaluate (s.onSched fun c => { c with due := none }))) := by
  have hrun : exec .dueTimerExpiry s = .next (run dueTimeout s) := rfl
  rw [hrun, run_high _ _ hh.1, dueTimeout, if_pos (by simp [reached, hdue, hnow])]

/-- Settles O42: the evaluation with the deck ready, the report of RECORD, and the three ends. -/
theorem recordingStartsAndEndsOnItsTimers : Obligations.RecordingStartsAndEndsOnItsTimers := by
  unfold Obligations.RecordingStartsAndEndsOnItsTimers
  intro s n t0 k h e o hh hk honly hholder hslot he hocc howner hfree hkept hknown
  have hs : s.HeldFor n k h e o := ⟨hk, honly, hholder, hslot, he, hocc, howner, hfree, hkept, hknown⟩
  refine ⟨fun hprep hv hdue hnow hrest hj hslot' htab hclear hwait hdeck hclosed hwant hskip hretest hwin => ?_,
    fun hst hm hsp hsl => schedRecording_holder hs hst hm hsp hsl, fun hst hone hm => ?_⟩
  · have hx : (s.onSched fun c => { c with due := none }).ReadyFor n k h e o :=
      ⟨⟨hk, honly, hholder, hslot, he, hocc, howner, hfree, hkept, hknown⟩, hprep, hrest, hj, htab, hclear, hwait, hdeck, hclosed, hwant,
        hskip, hretest, hwin⟩
    have hexec := exec_dueTimer hh hdue hnow
    refine ⟨fun hmode hbefore => ?_, fun hstart hroom => ?_⟩
    · obtain ⟨d, hd⟩ := hx.evaluate_waits hv hmode hbefore
      rw [hd, finish_closed ((s.onSched fun c => { c with due := none }).onSched fun c => { c with due := d }) hh.2] at hexec
      exact ⟨_, d, hexec, rfl, rfl, ⟨rfl, rfl, rfl, rfl, rfl, rfl⟩, rfl, rfl, rfl, rfl, rfl⟩
    · obtain ⟨d, hd⟩ := hx.evaluate_records hv hstart
      have hsched := recordingBegun_sched hx
      have htells := recordingBegun_tells (s := s.onSched fun c => { c with due := none }) n k h o hroom
      obtain ⟨kstate, kjunction, kowner, kamp, kflight, kclock, kreports⟩ := recordingBegun_keeps hx
      generalize recordingBegun n k h o (s.onSched fun c => { c with due := none }) = y at *
      rw [hd, finish_closed (y.onSched fun c => { c with due := d }) (kreports.trans hh.2)] at hexec
      refine ⟨_, d, hexec, ?_, htells, kstate, kjunction, kowner, kamp, kflight, kclock⟩
      rw [closed_sched, State.onSched_sched, hsched]
      rfl
  · have facts {i : Instr} {out : EndCode} (hx : ∃ t, exec i s = .next t ∧ RecordingEnded n e (onceDone out k h o s.clock.ticks) s t) :
        ∃ t, exec i s = .next t ∧ t.sched.slots = s.sched.slots.set (n - 1) (onceDone out k h o s.clock.ticks) ∧
          t.sched.holder = none ∧ t.sched.stopAt = none ∧ t.sched.schedAt = none ∧ t.sched.windowAt = none ∧
          t.sched.held = none ∧ t.sched.loss = none ∧
          t.sched.post = some { since := s.now, slot := n, powerOff := e.powerOff } ∧
          t.mech.owner = .none ∧ t.mech.state = .shifting ∧ t.mech.target = .halt ∧ t.mech.recAmp = false ∧
          t.mech.inFlight = some { what := .stop, origin := .timer n, tag := s.sched.nextTag } ∧ t.clock = s.clock := by
      obtain ⟨t, ht, hslots, ⟨o1, o2, o3, o4, o5, o6⟩, hpost, howner, hstate, htarget, hamp, hflight, hclock⟩ := hx
      exact ⟨t, ht, hslots, o1, o2, o3, o4, o5, o6, hpost, howner, hstate, htarget, hamp, hflight, hclock⟩
    refine ⟨fun ht => ⟨fun hbefore => ?_, fun hnow => facts (exec_stopTimer_ends hh hs hst hone hm ht hnow)⟩,
      fun ht => ⟨fun hbefore => ?_, fun hnow => facts (exec_windowTimer_ends hh hs hst hone hm ht hnow)⟩,
      fun ht => facts (exec_cancel_ends ht hs hst hone hm)⟩
    · have hx : stopTimeout s = s := by simp [stopTimeout, ht, reached, hbefore]
      have hrun : exec .stopTimerExpiry s = .next (run stopTimeout s) := rfl
      rw [hrun, run_high _ _ hh.1, hx, finish_closed s hh.2]
    · have hx : windowTimeout s = s := by simp [windowTimeout, ht, reached, hbefore]
      have hrun : exec .windowTimerExpiry s = .next (run windowTimeout s) := rfl
      rw [hrun, run_high _ _ hh.1, hx, finish_closed s hh.2]

end Sys2Proof.Machine

/-!
Sys2Proof/Proofs/KeptResets: PIN and RESTART: what every block is at after them, and the evaluation at their end where no occurrence has
come to its claim (O49).
-/

namespace Sys2Proof.Machine

/-! ## The evaluation with nothing to claim -/

/-- An occurrence, if there is one, is that of an ARMED entry, its claim and its end still to come. -/
def Slot.toCome (s : State) (t : Slot) : Prop :=
  ∀ o, t.occ = some o → t.state = .armed ∧ s.reachedInstant o.claim = false ∧ s.reachedInstant o.endAt = false

theorem slot_toCome {s : State} (h : ∀ t ∈ s.sched.slots, t.toCome s) (j : Nat) : (s.slot j).toCome s := by
  simp only [State.slot, List.getD_eq_getElem?_getD]
  cases hs : s.sched.slots[j - 1]? with
  | none => exact fun o ho => absurd ho (by simp [Slot.reset])
  | some t => exact h t (List.mem_iff_getElem?.mpr ⟨_, hs⟩)

/-- R145: with no holder and every occurrence still to come, an evaluation sets the due timer alone. -/
theorem evaluate_toCome {s : State} (hh : s.sched.holder = none) (hs : s.clock.valid = true → ∀ t ∈ s.sched.slots, t.toCome s) :
    ∃ d, evaluate s = s.onSched fun c => { c with due := d } := by
  by_cases hv : s.clock.valid = true
  · have hslot (j : Nat) := slot_toCome (hs hv) j
    have hmiss : slotNumbers.foldl (fun x j => missTest j x) s = s := by
      refine foldl_fixed slotNumbers fun j _ => ?_
      simp only [missTest]
      split
      · rfl
      · next o ho =>
        obtain ⟨-, -, he⟩ := hslot j o ho
        rw [if_neg (by simp [he])]
    have hopen : slotNumbers.foldl (fun x j => windowOpening j x) s = s := by
      refine foldl_fixed slotNumbers fun j _ => ?_
      simp only [windowOpening]
      split
      · rfl
      · next o ho =>
        obtain ⟨ha, -, -⟩ := hslot j o ho
        rw [if_neg (by simp [ha, EntryState.holds])]
    have hclaims : slotNumbers.filter (claims s) = [] := by
      rw [List.filter_eq_nil_iff]
      intro j _
      simp only [claims]
      split
      · simp
      · next o ho =>
        obtain ⟨ha, hc, -⟩ := hslot j o ho
        simp [ha, hc]
    have hwait : waitOrder s = [] := by rw [waitOrder, hclaims]; rfl
    have hinst : holderInstants s = s := by simp [holderInstants, hh]
    rw [evaluate, if_pos hv]
    simp only [hmiss, hopen, hinst, hwait, answerClaims]
    exact setDue_due s
  · rw [evaluate, if_neg hv]
    exact setDue_due s

/-- R143: a next occurrence ends after the reading it is computed at. -/
theorem nextOcc_endAt {e : Entry} {last : Option Date} {reading : Nat} {o : Occurrence} (h : nextOcc e last reading = some o) :
    (reading : Int) < o.endAt * 1024 := by
  have hfirst {days : List Nat} (h : firstOcc e reading days = some o) : (reading : Int) < o.endAt * 1024 := by
    simp only [firstOcc, Option.map_eq_some_iff] at h
    obtain ⟨d, hd, rfl⟩ := h
    have hfound := List.find?_some hd
    simp only [Bool.and_eq_true, decide_eq_true_eq] at hfound
    exact hfound.2
  unfold nextOcc at h
  cases hr : e.repeats with
  | once =>
    cases hd : e.date with
    | none => simp [hr, hd] at h
    | some d =>
      simp only [hr, hd] at h
      exact hfirst (Option.ite_none_right_eq_some.mp h).2
  | daily | weekdays | weekly =>
    simp only [hr] at h
    exact hfirst h

/-- R174: a slot once a reset has ended the occurrence that held the recorder, before its next occurrence is computed. -/
def slotEndedByReset (seconds : Nat) (t : Slot) : Slot :=
  if t.state.holds then
    { t with lastDate := t.date, outcome := .reset, recSeconds := seconds,
             state := match t.entry with | some e => if e.repeats = .once then .done else .armed | none => .done }
  else if t.state = .blocked then { t with state := .armed }
  else t

theorem slotEndedByReset_keeps (seconds : Nat) (t : Slot) : (slotEndedByReset seconds t).entry = t.entry ∧
    (slotEndedByReset seconds t).lastDate ∈ [t.lastDate, t.date] := by
  unfold slotEndedByReset
  split
  · exact ⟨rfl, by simp⟩
  · split <;> exact ⟨rfl, by simp⟩

/-- R174: an occurrence after a reset is the next one of the ARMED entry, counted from its last date or from the date of the one that was. -/
theorem slotAfterReset_occ {seconds reading : Nat} {t : Slot} {o : Occurrence} (h : (slotAfterReset seconds reading t).occ = some o) :
    (slotAfterReset seconds reading t).state = .armed ∧ ∃ e, t.entry = some e ∧ ∃ d ∈ [t.lastDate, t.date], nextOcc e d reading = some o := by
  obtain ⟨hentry, hdate⟩ := slotEndedByReset_keeps seconds t
  have hx : slotAfterReset seconds reading t = (match (slotEndedByReset seconds t).state, (slotEndedByReset seconds t).entry with
    | .armed, some e =>
      match nextOcc e (slotEndedByReset seconds t).lastDate reading with
      | some o => { slotEndedByReset seconds t with occ := some o }
      | none => { slotEndedByReset seconds t with occ := none, state := .done }
    | _, _ => { slotEndedByReset seconds t with occ := none }) := rfl
  rw [hx] at h ⊢
  split at h
  · next e ha he =>
    split at h
    · next o' ho =>
      obtain rfl := Option.some.inj h
      exact ⟨ha, e, hentry ▸ he, _, hdate, ho⟩
    · exact absurd h (by simp)
  · exact absurd h (by simp)

/-! ## What the resets keep -/

/-- R196, R197: the blocks' tables after PIN or RESTART, from the state before it; no occurrence has come to its claim. -/
structure KeptFrom (s x : State) : Prop where
  pins    : x.pins = { s.pins with resetLow := false }
  mech    : x.mech = Mech.reset s.pins.cassetteIn
  servo   : x.servo = Servo.reset s.link.settings.recordSpeed s.servo.tracking.mode s.servo.tracking.manual
  pos     : x.pos = Pos.reset
  mark    : x.mark = Mark.reset
  tuner   : x.tuner = tunerKept s.tuner
  ldd     : x.ldd = Ldd.reset
  clock   : x.clock = clockKept s.clock
  pending : x.pending = s.pending
  holder  : x.sched.holder = none
  toCome  : x.clock.valid = true → ∀ t ∈ x.sched.slots, t.toCome x

/-- R197: PWR's phase, raise timer and ON mark after PIN or RESTART; nothing is handed on yet. -/
structure PwrFrom (s x : State) : Prop where
  phase   : x.pwr.phase = if s.pwr.phase = .stopping then .up else s.pwr.phase
  timer   : x.pwr.timer = if s.pwr.phase = .raising then some 0 else none
  onMark  : x.pwr.onMark = s.pwr.onMark
  reports : x.reports = []

/-- No next occurrence, counted from the last date or from the date of the one there is, has come to its claim (O49). -/
def State.nothingDue (s : State) : Prop :=
  s.clock.valid = true → ∀ k ∈ s.sched.slots, ∀ e ∈ k.entry, ∀ d ∈ [k.lastDate, k.date],
    ∀ o ∈ nextOcc e d s.clock.reading, s.reachedInstant o.claim = false

theorem keptState_sched_toCome (kind : ResetKind) (w : Bool) {s : State} (h : s.nothingDue) (hv : s.clock.valid = true) :
    ∀ t ∈ (keptState kind w s).sched.slots, t.toCome (keptState kind w s) := by
  intro t ht o ho
  obtain ⟨j, -, rfl⟩ := List.mem_map.mp (show t ∈ slotNumbers.map fun j =>
    slotAfterReset (s.recordedSeconds j) s.clock.reading (s.slot j) from ht)
  obtain ⟨harmed, e, he, d, hd, hnext⟩ := slotAfterReset_occ ho
  have hclaim : s.reachedInstant o.claim = false := by
    simp only [State.slot, List.getD_eq_getElem?_getD] at he hd
    cases hs : s.sched.slots[j - 1]? with
    | none => rw [hs] at he; exact absurd he (by simp [Slot.reset])
    | some k =>
      rw [hs] at he hd
      exact h hv k (List.mem_iff_getElem?.mpr ⟨_, hs⟩) e he d hd o hnext
  refine ⟨harmed, hclaim, ?_⟩
  show decide (o.endAt * 1024 ≤ (s.clock.reading : Int)) = false
  have hend := nextOcc_endAt hnext
  simp [hend]

theorem keptFrom_keptState (kind : ResetKind) (w : Bool) {s : State} (h : s.nothingDue) : KeptFrom s (keptState kind w s) :=
  ⟨rfl, rfl, rfl, rfl, rfl, rfl, rfl, rfl, rfl, rfl, fun hv => keptState_sched_toCome kind w h hv⟩

theorem pwrFrom_keptState (kind : ResetKind) (w : Bool) (s : State) : PwrFrom s (keptState kind w s) := by
  refine ⟨?_, ?_, rfl, rfl⟩ <;> simp only [keptState, pwrKept] <;> cases s.pwr.phase <;> rfl

/-- R169: leaving RECORD keeps every slot's entry and dates. -/
theorem recordStopped_slots {s : State} {t : Slot} (h : t ∈ (recordStopped s).sched.slots) :
    ∃ k ∈ s.sched.slots, t.entry = k.entry ∧ t.lastDate = k.lastDate ∧ t.date = k.date := by
  have same (h : t ∈ s.sched.slots) : ∃ k ∈ s.sched.slots, t.entry = k.entry ∧ t.lastDate = k.lastDate ∧ t.date = k.date := ⟨t, h, rfl, rfl, rfl⟩
  unfold recordStopped at h
  split at h
  · exact same h
  · next hd _ =>
    split at h
    · exact same h
    · next since _ =>
      obtain ⟨i, hi⟩ := List.mem_iff_getElem?.mp (show t ∈ s.sched.slots.modify (hd.slot - 1) fun k =>
        { k with occ := k.occ.map fun o => { o with recorded := o.recorded + (s.clock.ticks - since) } } from h)
      rw [List.getElem?_modify] at hi
      obtain ⟨k, hk, rfl⟩ := Option.map_eq_some_iff.mp hi
      refine ⟨k, List.mem_iff_getElem?.mpr ⟨i, hk⟩, ?_⟩
      split
      · refine ⟨rfl, rfl, ?_⟩
        simp only [Slot.date]
        cases k.occ <;> rfl
      · exact ⟨rfl, rfl, rfl⟩

/-- R196: RESET_N low touches nothing of what the resets keep, nor the slots' entries and dates. -/
theorem resetLow_memory (s : State) : { (resetLow s).pins with resetLow := false } = { s.pins with resetLow := false } ∧
    (resetLow s).link.settings = s.link.settings ∧ (resetLow s).servo.tracking = s.servo.tracking ∧ (resetLow s).tuner = s.tuner ∧
    (resetLow s).clock = s.clock ∧ (resetLow s).pwr.phase = s.pwr.phase ∧ (resetLow s).pwr.onMark = s.pwr.onMark ∧
    (resetLow s).pending = s.pending ∧ ∀ t ∈ (resetLow s).sched.slots,
      ∃ k ∈ s.sched.slots, t.entry = k.entry ∧ t.lastDate = k.lastDate ∧ t.date = k.date := by
  unfold resetLow
  split
  · exact ⟨rfl, rfl, rfl, rfl, rfl, rfl, rfl, rfl, fun t ht => ⟨t, ht, rfl, rfl, rfl⟩⟩
  · refine ⟨?_, ?_, ?_, ?_, ?_, ?_, ?_, ?_, fun t ht => recordStopped_slots ht⟩ <;> simp

theorem nothingDue_resetLow {s : State} (h : s.nothingDue) : (resetLow s).nothingDue := by
  obtain ⟨-, -, -, -, hclock, -, -, -, hslots⟩ := resetLow_memory s
  intro hv t ht e he d hd o ho
  obtain ⟨k, hk, hentry, hlast, hdate⟩ := hslots t ht
  rw [hclock] at hv ho
  rw [hentry] at he
  rw [hlast, hdate] at hd
  have hreached := h hv k hk e he d hd o ho
  simpa only [State.reachedInstant, hclock] using hreached

theorem KeptFrom.of_resetLow {s x : State} (h : KeptFrom (resetLow s) x) : KeptFrom s x := by
  obtain ⟨kpins, ksettings, ktracking, ktuner, kclock, -, -, kpending, -⟩ := resetLow_memory s
  have hin : (resetLow s).pins.cassetteIn = s.pins.cassetteIn := (congrArg Pins.cassetteIn kpins :)
  refine ⟨h.pins.trans kpins, ?_, ?_, h.pos, h.mark, ?_, h.ldd, ?_, h.pending.trans kpending, h.holder, h.toCome⟩
  · rw [h.mech, hin]
  · rw [h.servo, ksettings, ktracking]
  · rw [h.tuner, ktuner]
  · rw [h.clock, kclock]

theorem PwrFrom.of_resetLow {s x : State} (h : PwrFrom (resetLow s) x) : PwrFrom s x := by
  obtain ⟨-, -, -, -, -, kphase, kmark, -, -⟩ := resetLow_memory s
  refine ⟨?_, ?_, h.onMark.trans kmark, h.reports⟩
  · rw [h.phase, kphase]
  · rw [h.timer, kphase]

/-! ## The end of a reset -/

theorem exec_pinReset {s : State} (h : s.nothingDue) :
    ∃ x, KeptFrom s x ∧ PwrFrom s x ∧ exec .pinReset s = .next (finish (supplyAfterReset (report .evaluate x))) :=
  ⟨_, (keptFrom_keptState .pin _ (nothingDue_resetLow h)).of_resetLow, (pwrFrom_keptState .pin _ (resetLow s)).of_resetLow, rfl⟩

theorem exec_restart {s : State} (h : s.nothingDue) (hlow : s.pins.resetLow = false) (hr : s.link.reply = none) (hh : s.link.holding = []) :
    ∃ x, KeptFrom s x ∧ PwrFrom s x ∧ exec .restart s = .next (finish (supplyAfterReset (report .evaluate x))) := by
  have hrun : exec .restart s = .next (run (arrive (.request .restart)) s) := rfl
  have hx : arrive (.request .restart) s = keptReset .restart s.inStandby s := by
    have hplaces : ¬ Config.holdingPlaces ≤ s.link.holding.length := by simp [hh, Config.holdingPlaces]
    simp only [arrive, hplaces, if_false, linkWake, HeldFrame.wakes, Bool.and_false, supplySeen, Bool.false_and, Bool.false_eq_true]
    exact takeNext_single (.request .restart) s hr hh
  refine ⟨_, keptFrom_keptState .restart s.inStandby h, pwrFrom_keptState .restart s.inStandby s, ?_⟩
  rw [hrun, run_high _ _ hlow, hx]
  rfl

theorem drain_cons (n : Nat) {r : Report} {y : State} {l : List Report} (h : y.reports = r :: l) :
    drain (n + 1) y = drain n (handleReport r (y.nextReport l)) := by simp [drain, h]

/-- R145: the evaluation at the end of a reset, with nothing to claim, sets the due timer alone. -/
theorem finish_toCome {y : State} {l : List Report} (hy : y.reports = .evaluate :: l) (hl : ∀ r ∈ l, r.deaf true = true) (hlen : l.length ≤ 255)
    (hh : y.sched.holder = none) (hs : y.clock.valid = true → ∀ t ∈ y.sched.slots, t.toCome y) : ∃ d, finish y = ended d y := by
  obtain ⟨d, hd⟩ := evaluate_toCome (s := y.nextReport l) hh hs
  refine ⟨d, ?_⟩
  have hx : handleReport .evaluate (y.nextReport l) = (y.nextReport l).onSched fun c => { c with due := d } := hd
  rw [finish, drainFuel, drain_cons 255 hy, hx,
    drain_deaf true l 255 ((y.nextReport l).onSched fun c => { c with due := d }) rfl hlen hh (by simp) hl]
  rfl

/-! ## The recovery run -/

theorem setState_mark {m : MState} (j : Option Junction) (b : Bool) {s : State} (h : s.mark.writer = .idle) :
    (setState m j b s).mark = { s.mark with reader := Reader.reset } := by
  have hl (x : State) (hx : x.mark.writer = .idle) : markLeave s.mech.state m x = x := by simp [markLeave, hx]
  have hp : (published m j s).mark = { s.mark with reader := Reader.reset } := by
    simp only [published]
    rw [hl _ (by split <;> simp [h])]
    split <;> simp [readerClear]
  rw [setState_eq]
  split <;> simp [hp]

/-- R29, R98: supply-good after a reset, the cam not at its eject or idle place: the recovery run unthreads, and TUNER is in INIT. -/
def recovering (w : State) : State := tunerInit (recover w)

theorem recover_unthreads {w : State} (hm : w.mech.recoveryPending = true) (hp : w.pwr.phase = .up) (hc : w.pins.cam ∉ [0, 1]) :
    recover w = startUnthread .idle ((readCam w).onMech fun m => { m with recoveryPending := false, recoveryRun := true }) := by
  simp only [List.mem_cons, List.not_mem_nil, or_false, not_or] at hc
  rw [recover, if_pos ⟨hm, by simp [State.supplyGood, hp]⟩, if_neg hc.1, if_neg hc.2]

theorem recovering_keeps {s w : State} (h : KeptFrom s w) (hp : w.pwr.phase = .up) (hc : w.pins.cam ∉ [0, 1]) :
    (recovering w).pins = w.pins ∧ (recovering w).pwr = w.pwr ∧ (recovering w).clock = w.clock ∧ (recovering w).pending = w.pending ∧
      (recovering w).sched = w.sched ∧ (recovering w).reports = w.reports ∧ (recovering w).mark = Mark.reset ∧
      (recovering w).pos.counter = 0 := by
  have hr : w.mech.recoveryPending = true := by rw [h.mech]; rfl
  have hst : w.mech.state ≠ .record := by rw [h.mech]; simp only [Mech.reset]; split <;> simp
  have hsched := startUnthread_sched .idle (s := (readCam w).onMech fun m => { m with recoveryPending := false, recoveryRun := true })
    (.inl (by simpa [readCam] using hst))
  have hmark := setState_mark (m := .unthreading) none false
    (s := (readCam w).onMech fun m => { m with recoveryPending := false, recoveryRun := true }) (by simp [readCam, h.mark, Mark.reset])
  rw [recovering, recover_unthreads hr hp hc]
  refine ⟨?_, ?_, ?_, ?_, ?_, ?_, ?_, ?_⟩
  on_goal 5 => simp only [tunerInit, tunerTo, lddActivity, tunerTimersOff, State.onLdd_sched, State.onTuner_sched, hsched]; simp [readCam]
  on_goal 6 =>
    simp only [tunerInit, tunerTo, lddActivity, tunerTimersOff, State.onLdd_mark, State.onTuner_mark, startUnthread, driveCam, aimAt,
      State.onMech_mark] at hmark ⊢
    rw [hmark]
    simp [readCam, h.mark]
    rfl
  all_goals simp [tunerInit, tunerTo, lddActivity, tunerTimersOff, startUnthread, driveCam, aimAt, readCam, h.pos, Pos.reset]

theorem recovering_mech {s w : State} (h : KeptFrom s w) (hp : w.pwr.phase = .up) (hc : w.pins.cam ∉ [0, 1]) :
    (recovering w).mech.state = .unthreading ∧ (recovering w).mech.target = .idle ∧ (recovering w).mech.recoveryPending = false ∧
      (recovering w).mech.recoveryRun = true ∧ (recovering w).mech.standbyStop = false ∧ (recovering w).mech.owner = .none ∧
      (recovering w).mech.inFlight = none ∧ (recovering w).mech.slot = none ∧ (recovering w).mech.fault = .none := by
  have hr : w.mech.recoveryPending = true := by rw [h.mech]; rfl
  rw [recovering, recover_unthreads hr hp hc]
  refine ⟨?_, ?_, ?_, ?_, ?_, ?_, ?_, ?_, ?_⟩ <;>
    simp [tunerInit, tunerTo, lddActivity, tunerTimersOff, startUnthread, driveCam, aimAt, readCam, h.mech, Mech.reset]

/-- R98, R115: TUNER and LDD at the end of a reset with supply-good. -/
theorem recovering_tuner {s w : State} (h : KeptFrom s w) (hp : w.pwr.phase = .up) (hc : w.pins.cam ∉ [0, 1]) :
    (∃ at0, (recovering w).tuner = { tunerKept s.tuner with state := .init, initTimer := at0 }) ∧ (recovering w).ldd = Ldd.reset := by
  have hr : w.mech.recoveryPending = true := by rw [h.mech]; rfl
  have htuner (x : State) (hx : x.tuner = w.tuner) :
      (tunerInit x).tuner = { tunerKept s.tuner with state := .init, initTimer := some x.now } := by
    simp [tunerInit, tunerTo, lddActivity, tunerTimersOff, hx, h.tuner, tunerKept, Tuner.reset]
  have hldd (x : State) (hx : x.ldd = w.ldd) : (tunerInit x).ldd = Ldd.reset := by
    simp [tunerInit, tunerTo, lddActivity, tunerTimersOff, hx, h.ldd, Ldd.reset]
  rw [recovering, recover_unthreads hr hp hc]
  exact ⟨⟨_, htuner _ (by simp [startUnthread, driveCam, aimAt, readCam])⟩, hldd _ (by simp [startUnthread, driveCam, aimAt, readCam])⟩

/-- R196, R197: the end of a reset without supply-good. -/
theorem supplyAfterReset_down {s x : State} (h : KeptFrom s x) (hx : PwrFrom s x)
    (hp : s.pwr.phase = .off ∨ s.pwr.phase = .raising ∧ s.pins.supGood = false) :
    supplyAfterReset (report .evaluate x) = report .evaluate x := by
  have hgood : x.pins.supGood = s.pins.supGood := (congrArg Pins.supGood h.pins :)
  rcases hp with hp | ⟨hp, hg⟩
  · simp [supplyAfterReset, hx.phase, hp]
  · simp [supplyAfterReset, hx.phase, hp, hgood, hg]

/-- R188, R197: with supply-good at the end of a reset the phase is UP. -/
def supplied (x : State) : State := report .evaluate (x.onPwr fun p => { p with phase := .up, timer := none })

theorem KeptFrom.supplied {s x : State} (h : KeptFrom s x) : KeptFrom s (supplied x) :=
  ⟨h.pins, h.mech, h.servo, h.pos, h.mark, h.tuner, h.ldd, h.clock, h.pending, h.holder, h.toCome⟩

/-- R188, R197: with supply-good at the end of a reset the recovery run and INIT begin. -/
theorem supplyAfterReset_up {s x : State} (h : KeptFrom s x) (hx : PwrFrom s x)
    (hp : s.pwr.phase = .up ∨ s.pwr.phase = .stopping ∨ s.pwr.phase = .raising ∧ s.pins.supGood = true)
    (hm : s.pwr.phase = .raising → s.pins.supGood = true → s.pwr.onMark = false) :
    supplyAfterReset (report .evaluate x) = recovering (supplied x) ∨
      supplyAfterReset (report .evaluate x) = report .supplyUp (recovering (supplied x)) := by
  have hgood : x.pins.supGood = s.pins.supGood := (congrArg Pins.supGood h.pins :)
  have hup (hphase : x.pwr.phase = .up) (htimer : x.pwr.timer = none) :
      supplyAfterReset (report .evaluate x) = recovering (Machine.supplied x) := by
    have hsame : Machine.supplied x = report .evaluate x := by
      simp only [Machine.supplied, ← hphase, ← htimer]
      rfl
    simp only [supplyAfterReset, report_pwr, hphase, hsame]
    rfl
  rcases hp with hp | hp | ⟨hp, hg⟩
  · exact .inl (hup (by simp [hx.phase, hp]) (by simp [hx.timer, hp]))
  · exact .inl (hup (by simp [hx.phase, hp]) (by simp [hx.timer, hp]))
  · refine .inr ?_
    have hmark : x.pwr.onMark = false := hx.onMark.trans (hm hp hg)
    have hphase : x.pwr.phase = .raising := by simp [hx.phase, hp]
    simp only [supplyAfterReset, report_pwr, hphase, report_pins, hgood, hg, if_true, supplyUp]
    rw [if_neg (by simp [hmark])]
    rfl

theorem finish_down {s x : State} (h : KeptFrom s x) (hx : PwrFrom s x)
    (hp : s.pwr.phase = .off ∨ s.pwr.phase = .raising ∧ s.pins.supGood = false) :
    ∃ d, finish (supplyAfterReset (report .evaluate x)) = ended d (report .evaluate x) := by
  rw [supplyAfterReset_down h hx hp]
  exact finish_toCome (y := report .evaluate x) (l := []) (by simp [hx.reports]) (by simp) (by simp) h.holder h.toCome

theorem finish_up {s x : State} (h : KeptFrom s x) (hx : PwrFrom s x) (hc : s.pins.cam ∉ [0, 1])
    (hp : s.pwr.phase = .up ∨ s.pwr.phase = .stopping ∨ s.pwr.phase = .raising ∧ s.pins.supGood = true)
    (hm : s.pwr.phase = .raising → s.pins.supGood = true → s.pwr.onMark = false) :
    ∃ d, finish (supplyAfterReset (report .evaluate x)) = ended d (recovering (supplied x)) := by
  have hcam : (supplied x).pins.cam ∉ [0, 1] := by
    rw [show (supplied x).pins.cam = s.pins.cam from (congrArg Pins.cam h.pins :)]
    exact hc
  obtain ⟨-, -, kclock, -, ksched, kreports, -, -⟩ := recovering_keeps h.supplied rfl hcam
  have hreports : (recovering (supplied x)).reports = [.evaluate] := by rw [kreports]; simp [supplied, hx.reports]
  have hholder : (recovering (supplied x)).sched.holder = none := by rw [ksched]; exact h.holder
  have htoCome : (recovering (supplied x)).clock.valid = true →
      ∀ t ∈ (recovering (supplied x)).sched.slots, t.toCome (recovering (supplied x)) := by
    intro hv t ht o ho
    rw [kclock] at hv
    rw [ksched] at ht
    have htold := h.toCome hv t ht o ho
    simp only [State.reachedInstant, kclock]
    exact htold
  rcases supplyAfterReset_up h hx hp hm with he | he <;> rw [he]
  · exact finish_toCome hreports (by simp) (by simp) hholder htoCome
  · generalize recovering (supplied x) = y at *
    obtain ⟨d, hd⟩ := finish_toCome (y := report .supplyUp y) (l := [.supplyUp]) (by simp [hreports]) (by simp [Report.deaf]) (by simp)
      hholder htoCome
    exact ⟨d, hd⟩

/-- R73, R94, R115, R128, R139: the blocks that every reset of this kind leaves alike, supplied or not. -/
structure ResetLeaves (s t : State) : Prop where
  pins    : t.pins = { s.pins with resetLow := false }
  mark    : t.mark = Mark.reset
  ldd     : t.ldd = Ldd.reset
  tuner   : ∃ st at0, t.tuner = { tunerKept s.tuner with state := st, initTimer := at0 }
  clock   : t.clock = { s.clock with trimCount := 0, crystal := 0 }
  pending : t.pending = s.pending

theorem resetLeaves_down {s x : State} (h : KeptFrom s x) (d : Option Nat) : ResetLeaves s (ended d (report .evaluate x)) :=
  ⟨h.pins, h.mark, h.ldd, ⟨.off, none, h.tuner⟩, h.clock, h.pending⟩

theorem resetLeaves_up {s x : State} (h : KeptFrom s x) (hc : s.pins.cam ∉ [0, 1]) (d : Option Nat) :
    ResetLeaves s (ended d (recovering (supplied x))) := by
  have hcam : (supplied x).pins.cam ∉ [0, 1] := by
    rw [show (supplied x).pins.cam = s.pins.cam from (congrArg Pins.cam h.pins :)]
    exact hc
  obtain ⟨kpins, -, kclock, kpending, -, -, kmark, -⟩ := recovering_keeps h.supplied rfl hcam
  obtain ⟨⟨at0, ktuner⟩, kldd⟩ := recovering_tuner h.supplied rfl hcam
  generalize recovering (Machine.supplied x) = y at *
  exact ⟨kpins.trans h.pins, kmark, kldd, ⟨_, at0, ktuner⟩, kclock.trans h.clock, kpending.trans h.pending⟩

theorem ended_mech_reset {x : State} {c : Bool} (h : x.mech = Mech.reset c) (d : Option Nat) : (ended d x).mech = Mech.reset c := by
  rw [ended_mech]
  have hstate : x.mech.state ≠ .still ∧ x.mech.state ≠ .recPause ∧ x.mech.state ≠ .halt := by
    rw [h]; simp only [Mech.reset]; split <;> simp
  have hstill : stillFollow x = none := by simp [stillFollow, hstate]
  have hhalt : haltFollow x = none := by simp [haltFollow, hstate]
  rw [hstill, hhalt, h]
  rfl

/-- Settles O49: both resets leave every block at its table's values, supplied or not, and the evaluation at their end finds nothing to
claim. -/
theorem resetsLeaveTheDeckAndTheTuner : Obligations.ResetsLeaveTheDeckAndTheTuner := by
  unfold Obligations.ResetsLeaveTheDeckAndTheTuner
  intro s _ _ hdue hm j hj hrestart
  obtain ⟨x, hkept, hpwr, hexec⟩ : ∃ x, KeptFrom s x ∧ PwrFrom s x ∧ exec j.1 s = .next (finish (supplyAfterReset (report .evaluate x))) := by
    simp only [List.mem_cons, List.not_mem_nil, or_false] at hj
    rcases hj with rfl | rfl
    · exact exec_pinReset hdue
    · obtain ⟨hlow, hreply, hholding⟩ := hrestart rfl
      exact exec_restart hdue hlow hreply hholding
  refine ⟨_, hexec, fun hp => ?_, fun hp hc => ?_, fun hp => ?_⟩
  · obtain ⟨d, hd⟩ := finish_down hkept hpwr hp
    rw [hd]
    refine ⟨ended_mech_reset hkept.mech d, hkept.servo, hkept.pos, ?_, ?_, ?_⟩
    · rw [ended_tuner, report_tuner, hkept.tuner]; rfl
    · rw [ended_pwr, report_pwr, hpwr.phase]
      rcases hp with hp | ⟨hp, -⟩ <;> simp [hp]
    · exact hpwr.timer
  · obtain ⟨d, hd⟩ := finish_up hkept hpwr hc hp hm
    have hcam : (supplied x).pins.cam ∉ [0, 1] := by
      rw [show (supplied x).pins.cam = s.pins.cam from (congrArg Pins.cam hkept.pins :)]
      exact hc
    obtain ⟨-, kpwr, -, -, -, -, -, kcounter⟩ := recovering_keeps hkept.supplied rfl hcam
    obtain ⟨⟨at0, ktuner⟩, -⟩ := recovering_tuner hkept.supplied rfl hcam
    obtain ⟨m1, m2, m3, m4, m5, m6, m7, m8, m9⟩ := recovering_mech hkept.supplied rfl hcam
    rw [hd]
    refine ⟨?_, ?_, ?_, m1, m2, m3, m4, m5, m6, m7, m8, m9, kcounter⟩
    · rw [ended_tuner, ktuner]
    · rw [ended_pwr, kpwr]; rfl
    · rw [ended_pwr, kpwr]; rfl
  · have hleaves : ResetLeaves s (finish (supplyAfterReset (report .evaluate x))) := by
      by_cases hdown : s.pwr.phase = .off ∨ s.pwr.phase = .raising ∧ s.pins.supGood = false
      · obtain ⟨d, hd⟩ := finish_down hkept hpwr hdown
        rw [hd]
        exact resetLeaves_down hkept d
      · have hc : s.pins.cam ∉ [0, 1] := by
          rcases hp with hc | hp
          · exact hc
          · exact absurd hp hdown
        have hup : s.pwr.phase = .up ∨ s.pwr.phase = .stopping ∨ s.pwr.phase = .raising ∧ s.pins.supGood = true := by
          cases hphase : s.pwr.phase <;> simp_all
        obtain ⟨d, hd⟩ := finish_up hkept hpwr hc hup hm
        rw [hd]
        exact resetLeaves_up hkept hc d
    obtain ⟨hpins, hmark, hldd, ⟨st, at0, htuner⟩, hclock, hpending⟩ := hleaves
    generalize finish (supplyAfterReset (report .evaluate x)) = t at *
    rw [htuner]
    exact ⟨hpins, hmark, hldd, rfl, rfl, rfl, rfl, rfl, rfl, rfl, hclock, hpending⟩

end Sys2Proof.Machine

/-!
Sys2Proof/Proofs/SearchTimers: what MECH does with a STOP of a search, and the two timers of the searches (R90, R91).
-/

namespace Sys2Proof.Machine

/-! ## The STOP of a search -/

/-- The motions of a search (R88 to R91). -/
def searchStates : List MState := [.play, .cue, .review, .fwind, .rwind]

theorem rests_of_searchStates {x : State} (hm : x.mech.state ∈ searchStates) : x.mech.state.transition = false := by
  simp only [searchStates, List.mem_cons, List.not_mem_nil, or_false] at hm
  rcases hm with hm | hm | hm | hm | hm <;> rw [hm] <;> rfl

theorem ne_of_searchStates {x : State} {m : MState} (hm : x.mech.state ∈ searchStates) (h : m ∉ searchStates) : x.mech.state ≠ m :=
  fun he => h (he ▸ hm)

/-- R7, R89: a search's STOP shifts the motion to HALT, the fault code cleared. -/
def searchStopped (tag : Nat) (x : State) : State :=
  (startShift .halt false (x.onMech fun m => { m with fault := .none })).onMech fun m => { m with inFlight := some (searchCmd .stop tag) }

theorem submit_searchStops (tag : Nat) {x : State} (h : x.DeckReady) (hm : x.mech.state ∈ searchStates) (ho : x.mech.owner = .panel) :
    submit (searchCmd .stop tag) x = (searchStopped tag x, .accepted) := by
  have hstates : x.mech.state = .play ∨ x.mech.state = .cue ∨ x.mech.state = .review ∨ x.mech.state = .fwind ∨ x.mech.state = .rwind := by
    simpa [searchStates] using hm
  have hc : mechChecks (searchCmd .stop tag) x = none := by
    rcases hstates with hm | hm | hm | hm | hm <;>
      simp [mechChecks, hm, ho, h.known, ownerRefuses, Owner.isTimer, badFrom, recordForm, forwardTarget, reverseTarget]
  rw [submit_now _ h, execute_passed hc, if_pos (.inl rfl), clearFault_eq (ne_of_searchStates hm (by decide))]
  rcases hstates with hm | hm | hm | hm | hm <;> simp [mechWork, hm, takesTime, searchStopped]

theorem searchStopped_mech (tag : Nat) (x : State) :
    (searchStopped tag x).mech.state = .shifting ∧ (searchStopped tag x).mech.target = .halt ∧
      (searchStopped tag x).mech.camTarget = some 3 ∧ (searchStopped tag x).mech.camTimer = some x.now ∧
      (searchStopped tag x).mech.inFlight = some (searchCmd .stop tag) ∧ (searchStopped tag x).mech.owner = x.mech.owner ∧
      (searchStopped tag x).mech.junction = none := by
  refine ⟨?_, ?_, ?_, ?_, ?_, ?_, ?_⟩ <;> simp [searchStopped, startShift, driveCam, aimAt, camOf, State.now]

theorem searchStopped_keeps (tag : Nat) {x : State} (hm : x.mech.state ≠ .record) :
    sameOuter x (searchStopped tag x) ∧ (searchStopped tag x).reports = x.reports ∧
      (searchStopped tag x).mark.search = x.mark.search ∧ (searchStopped tag x).mark.list = x.mark.list ∧
      (searchStopped tag x).pos.counter = x.pos.counter ∧ (searchStopped tag x).pos.target = x.pos.target := by
  refine ⟨⟨?_, ?_, ?_, ?_, ?_, ?_, ?_, ?_⟩, ?_, ?_, ?_, ?_, ?_⟩
  on_goal 5 => rw [searchStopped, State.onMech_sched, startShift_sched _ _ _ (.inl (by simpa using hm)), State.onMech_sched]
  all_goals simp [searchStopped, startShift, driveCam, aimAt]

/-- R88 to R90: a search that issues STOP in its motion. -/
theorem searchIssue_stop {q : Search} {x : State} (h : x.DeckReady) (hm : x.mech.state ∈ searchStates) (ho : x.mech.owner = .panel) :
    searchIssue q .stop x = searchStopped q.tag (setSearch (some { q with waiting := some .stop }) x) := by
  have hsub := submit_searchStops q.tag (x := setSearch (some { q with waiting := some .stop }) x) ⟨h.known, h.kept, h.free, h.rests⟩ hm ho
  simp only [searchIssue]
  rw [show ({ what := MechCmd.stop, origin := .search, tag := q.tag } : Cmd) = searchCmd .stop q.tag from rfl, hsub]

/-- What a search's STOP leaves: the record waits for its close, the deck shifts to HALT with it in flight. -/
structure SearchStops (q : Search) (s t : State) : Prop where
  search  : t.mark.search = some { q with waiting := some .stop }
  state   : t.mech.state = .shifting
  target  : t.mech.target = .halt
  aim     : t.mech.camTarget = some 3
  timer   : t.mech.camTimer = some s.now
  flight  : t.mech.inFlight = some { what := .stop, origin := .search, tag := q.tag }
  owner   : t.mech.owner = .panel
  junction : t.mech.junction = none
  counter : t.pos.counter = s.pos.counter
  memory  : t.pos.target = s.pos.target
  list    : t.mark.list = s.mark.list
  outer   : sameOuter s t
  reports : t.reports = s.reports

theorem searchIssue_stops {q : Search} {x : State} (h : x.DeckReady) (hm : x.mech.state ∈ searchStates) (ho : x.mech.owner = .panel) :
    SearchStops q x (searchIssue q .stop x) := by
  rw [searchIssue_stop h hm ho]
  obtain ⟨mstate, mtarget, maim, mtimer, mflight, mowner, mjunction⟩ :=
    searchStopped_mech q.tag (setSearch (some { q with waiting := some .stop }) x)
  obtain ⟨houter, hreports, hsearch, hlist, hcounter, htarget⟩ :=
    searchStopped_keeps q.tag (x := setSearch (some { q with waiting := some .stop }) x) (ne_of_searchStates (x := x) hm (by decide))
  exact ⟨hsearch, mstate, mtarget, maim, mtimer, mflight, mowner.trans ho, mjunction, hcounter, htarget, hlist, houter, hreports⟩

theorem SearchStops.closed {q : Search} {s t : State} (h : SearchStops q s t) : SearchStops q s t.closed where
  search := by rw [closed_mark]; exact h.search
  state := by rw [closed_mech]; exact h.state
  target := by rw [closed_mech]; exact h.target
  aim := by rw [closed_mech]; exact h.aim
  timer := by rw [closed_mech]; exact h.timer
  flight := by rw [closed_mech]; exact h.flight
  owner := by rw [closed_mech]; exact h.owner
  junction := by rw [closed_mech]; exact h.junction
  counter := by rw [closed_pos]; exact h.counter
  memory := by rw [closed_pos]; exact h.memory
  list := by rw [closed_mark]; exact h.list
  outer := h.outer
  reports := h.reports

theorem SearchStops.of_finish {q : Search} {s t : State} (h : SearchStops q s t) (hr : s.reports = []) : SearchStops q s (finish t) :=
  finish_closed t (h.reports.trans hr) ▸ h.closed

/-! ## The timers (R90, R91) -/

theorem exec_blankTimer {s : State} (hh : s.hears) : exec .blankTimerExpiry s = .next (finish (blankTimeout s)) :=
  congrArg Host.Outcome.next (run_high blankTimeout s hh.1)

theorem exec_scanPlayTimer {s : State} (hh : s.hears) : exec .scanPlayTimerExpiry s = .next (finish (scanPlayTimeout s)) :=
  congrArg Host.Outcome.next (run_high scanPlayTimeout s hh.1)

/-- R90: the 2 s of a blank search in CUE. -/
theorem blankTimeout_eq {s : State} {q : Search} {t0 : Nat} (hs : s.mark.search = some q) (hk : q.kind = .blank) (hq : q.state = .winding)
    (ht : q.timer = some t0) :
    blankTimeout s = if 2000 * 32768 ≤ (s.now - t0) * 1000 then
      searchIssue { q with target := some (s.clampCounter (q.lastPulse - 3 * (s.std.frames : Int))), playAfter := false, state := .stopFirst,
                           timer := none } .stop s else s := by
  simp only [blankTimeout, hs, hk, hq, ht, Timer.due_some, Config.blankTime, decide_eq_true_eq, true_and]
  rfl

/-- R91: the 8 s of a scan in PLAY. -/
theorem scanPlayTimeout_eq {s : State} {q : Search} {t0 : Nat} (hs : s.mark.search = some q) (hk : q.kind = .scan) (hq : q.state = .scanPlay)
    (ht : q.timer = some t0) :
    scanPlayTimeout s = if 8000 * 32768 ≤ (s.now - t0) * 1000 then
      searchIssue { q with state := .winding, target := none, timer := none } .fwind s else s := by
  simp only [scanPlayTimeout, hs, hk, hq, ht, Timer.due_some, Config.scanPlayTime, decide_eq_true_eq, true_and]

theorem mechWork_scanWinds (tag : Nat) {x : State} (hm : x.mech.state = .play) :
    mechWork (searchCmd .fwind tag) (taken [] x) = (searchShift (.fwind, .fwind, 6) tag [] x, .accepted) := by
  simp only [mechWork, searchCmd_what]
  rw [if_neg (by simp [taken, hm]), goTo, if_neg (by simp [taken, hm])]
  rfl

/-- R7, R91: from PLAY the scan's FWIND shifts to its wind, the recorder kept. -/
theorem submit_scanWinds (tag : Nat) {x : State} (h : x.DeckReady) (hm : x.mech.state = .play) (ho : x.mech.owner = .panel)
    (he : x.pins.leaderEnd = false) :
    submit (searchCmd .fwind tag) x = (searchShift (.fwind, .fwind, 6) tag [] x, .accepted) := by
  have hc : mechChecks (searchCmd .fwind tag) x = none := by
    simp [mechChecks, hm, ho, h.known, ownerRefuses, Owner.isTimer, badFrom, recordForm, reverseTarget, he]
  have hkept : claimPanel .search (clearFault x) = taken [] x := by
    rw [clearFault_eq (by simp [hm])]
    simp only [claimPanel]
    rw [if_neg (by simp [ho])]
    simp only [taken, State.onMech, ← ho, List.append_nil]
  rw [submit_now _ h, execute_passed hc, if_neg (by simp), searchCmd_origin, hkept, mechWork_scanWinds tag hm]

/-- R91: a scan that issues FWIND in PLAY. -/
theorem searchIssue_scanWinds {q : Search} {x : State} (h : x.DeckReady) (hm : x.mech.state = .play) (ho : x.mech.owner = .panel)
    (he : x.pins.leaderEnd = false) :
    searchIssue q .fwind x = searchShift (.fwind, .fwind, 6) q.tag [] (setSearch (some { q with waiting := some .fwind }) x) := by
  have hsub := submit_scanWinds q.tag (x := setSearch (some { q with waiting := some .fwind }) x) ⟨h.known, h.kept, h.free, h.rests⟩ hm ho he
  simp only [searchIssue]
  rw [show ({ what := MechCmd.fwind, origin := .search, tag := q.tag } : Cmd) = searchCmd .fwind q.tag from rfl, hsub]

/-- R7, R9: a shift leaves the lines and the waiting commands alone. -/
theorem searchShift_pins (r : MechCmd × MState × CamCode) (tag : Nat) (l : List Report) (x : State) :
    (searchShift r tag l x).pins = x.pins ∧ (searchShift r tag l x).pending = x.pending := by
  constructor <;> simp [searchShift, startShift, driveCam, aimAt, taken]

/-- R90: the blank search's STOP at its timer. -/
theorem finish_blankTimeout {s : State} {q : Search} {t0 : Nat} (hr : s.reports = []) (hs : s.mark.search = some q)
    (hk : q.kind = .blank) (hq : q.state = .winding) (ht : q.timer = some t0) (h : s.DeckReady) (hm : s.mech.state = .cue)
    (ho : s.mech.owner = .panel) (hdue : 2000 * 32768 ≤ (s.now - t0) * 1000) :
    SearchStops { q with target := some (s.clampCounter (q.lastPulse - 3 * (s.std.frames : Int))), playAfter := false,
                         state := .stopFirst, timer := none } s (finish (blankTimeout s)) := by
  rw [blankTimeout_eq hs hk hq ht, if_pos hdue]
  exact (searchIssue_stops h (by simp [hm, searchStates]) ho).of_finish hr

/-- R91: the scan's FWIND at its timer. -/
structure ScanWinds (q : Search) (s t : State) : Prop where
  search  : t.mark.search = some { q with state := .winding, target := none, timer := none, waiting := some .fwind }
  state   : t.mech.state = .shifting
  target  : t.mech.target = .fwind
  aim     : t.mech.camTarget = some 6
  flight  : t.mech.inFlight = some { what := .fwind, origin := .search, tag := q.tag }
  counter : t.pos.counter = s.pos.counter
  list    : t.mark.list = s.mark.list
  outer   : sameOuter s t

theorem finish_scanPlayTimeout {s : State} {q : Search} {t0 : Nat} (hr : s.reports = []) (hs : s.mark.search = some q)
    (hk : q.kind = .scan) (hq : q.state = .scanPlay) (ht : q.timer = some t0) (h : s.DeckReady) (hm : s.mech.state = .play)
    (ho : s.mech.owner = .panel) (he : s.pins.leaderEnd = false) (hdue : 8000 * 32768 ≤ (s.now - t0) * 1000) :
    ScanWinds q s (finish (scanPlayTimeout s)) := by
  rw [scanPlayTimeout_eq hs hk hq ht, if_pos hdue, searchIssue_scanWinds h hm ho he]
  obtain ⟨mstate, mtarget, maim, -, mflight, -⟩ := searchShift_mech (r := (.fwind, .fwind, 6)) (by simp [searchMotions]) q.tag []
    (setSearch (some { q with state := .winding, target := none, timer := none, waiting := some .fwind }) s)
  obtain ⟨ksched, kreports, ksearch, klist, kcounter, ktuner, kclock, kpwr, kbox, kldd⟩ := searchShift_keeps (.fwind, .fwind, 6) q.tag []
    (x := setSearch (some { q with state := .winding, target := none, timer := none, waiting := some .fwind }) s) (by simp [setSearch, hm])
  obtain ⟨kpins, kpending⟩ := searchShift_pins (.fwind, .fwind, 6) q.tag []
    (setSearch (some { q with state := .winding, target := none, timer := none, waiting := some .fwind }) s)
  generalize searchShift (.fwind, .fwind, 6) q.tag [] _ = y at *
  rw [finish_closed y (kreports.trans (by simp [setSearch, hr]))]
  exact ⟨ksearch, mstate, mtarget, maim, mflight, kcounter, klist, kpins, ktuner, kldd, kclock, ksched, kbox, kpwr, kpending⟩

end Sys2Proof.Machine

/-!
Sys2Proof/Proofs/MarkReading: a mark written on tape reads back as it was written (R74, R75).
-/

namespace Sys2Proof.Machine

/-! ## Fields and bits -/

theorem fieldBits_length (v n : Nat) : (fieldBits v n).length = n := by
  induction n with
  | zero => rfl
  | succ n ih => simp [fieldBits, ih]

theorem bitsNumber_foldl (bs : List Bool) (m : Nat) :
    bs.foldl (fun n b => 2 * n + (if b then 1 else 0)) m = m * 2 ^ bs.length + bitsNumber bs := by
  induction bs generalizing m with
  | nil => simp [bitsNumber]
  | cons b bs ih =>
    rw [bitsNumber, List.foldl_cons, List.foldl_cons, ih, ih (2 * 0 + _), List.length_cons, pow_succ]
    ring

theorem bitsNumber_cons (b : Bool) (bs : List Bool) : bitsNumber (b :: bs) = (if b then 1 else 0) * 2 ^ bs.length + bitsNumber bs := by
  rw [bitsNumber, List.foldl_cons, bitsNumber_foldl]
  simp

theorem bitsNumber_fieldBits (v n : Nat) : bitsNumber (fieldBits v n) = v % 2 ^ n := by
  induction n with
  | zero => simp [fieldBits, bitsNumber, Nat.mod_one]
  | succ n ih =>
    rw [fieldBits, bitsNumber_cons, ih, fieldBits_length, Nat.testBit_eq_decide_div_mod_eq, Nat.pow_succ, Nat.mod_mul]
    have hbit : v / 2 ^ n % 2 = 0 ∨ v / 2 ^ n % 2 = 1 := by omega
    rcases hbit with hbit | hbit <;> simp [hbit]; ring

/-! ## Pulses -/

theorem bitPulses_flatten_length (bs : List Bool) : ((bs.map bitPulses).flatten).length = 2 * bs.length := by
  induction bs with
  | nil => rfl
  | cons b bs ih =>
    simp only [List.map_cons, List.flatten_cons, List.length_append, ih, List.length_cons]
    have hb : (bitPulses b).length = 2 := by cases b <;> rfl
    omega

theorem pairBits_bitPulses (bs : List Bool) : pairBits (bs.map bitPulses).flatten = some bs := by
  induction bs with
  | nil => rfl
  | cons b bs ih => cases b <;> simp [bitPulses, pairBits, ih]

/-- R74: the 20 bits of a mark: type, value and check. -/
def markBits (t : MarkType) (v : Nat) : List Bool := fieldBits t.code 4 ++ fieldBits v 12 ++ fieldBits (markCheck t.code v) 4

theorem markPulses_eq (t : MarkType) (v : Nat) : markPulses t v = List.replicate 8 .short ++ ((markBits t v).map bitPulses).flatten := rfl

theorem markPulses_length (t : MarkType) (v : Nat) : (markPulses t v).length = 48 := by
  rw [markPulses_eq, List.length_append, bitPulses_flatten_length, markBits]
  simp [fieldBits_length]

theorem markTypeOf_code {t : MarkType} (h : t ≠ .unreadable) : markTypeOf t.code = some t := by
  cases t with
  | unreadable => exact absurd rfl h
  | _ => rfl

/-- R74, R75: the pulses of a mark are read as that mark. -/
theorem readGroup_markPulses {t : MarkType} {v : Nat} (ht : t ≠ .unreadable) (hv : v < 4096) :
    readGroup (markPulses t v) = (t, some v) := by
  have hsync : ((markPulses t v).take 8).all (fun d => decide (d = .short)) = true := by
    rw [markPulses_eq, List.take_left' (by simp)]; decide
  have hbits : pairBits ((markPulses t v).drop 8) = some (markBits t v) := by
    rw [markPulses_eq, List.drop_left' (by simp), pairBits_bitPulses]
  have htype : bitsNumber ((markBits t v).take 4) = t.code := by
    rw [markBits, List.append_assoc, List.take_left' (fieldBits_length _ _), bitsNumber_fieldBits]
    cases t <;> rfl
  have hvalue : bitsNumber (((markBits t v).drop 4).take 12) = v := by
    rw [markBits, List.append_assoc, List.drop_left' (fieldBits_length _ _), List.take_left' (fieldBits_length _ _), bitsNumber_fieldBits]
    exact Nat.mod_eq_of_lt hv
  have hcheck : bitsNumber ((markBits t v).drop 16) = markCheck t.code v := by
    rw [markBits, List.drop_left' (by simp [fieldBits_length]), bitsNumber_fieldBits]
    exact Nat.mod_eq_of_lt (Nat.mod_lt _ (by decide))
  simp only [readGroup, markPulses_length, hsync, hbits, htype, hvalue, hcheck, markTypeOf_code ht, and_self, if_true]

/-! ## Runs -/

/-- A run of pulses on the tape that starts at a position. -/
def runAt (p : Int) (ds : List Duty) : List (Int × Duty) := (List.range 48).zip ds |>.map fun x => (p + (x.1 : Int), x.2)

theorem runAt_duties {p : Int} {ds : List Duty} (h : ds.length = 48) : (runAt p ds).map Prod.snd = ds := by
  rw [runAt, List.map_map, show (Prod.snd ∘ fun x : Nat × Duty => (p + (x.1 : Int), x.2)) = Prod.snd from rfl, List.map_snd_zip]
  simp [h]

theorem runAt_length {p : Int} {ds : List Duty} (h : ds.length = 48) : (runAt p ds).length = 48 := by simp [runAt, h]

theorem runAt_head {p : Int} {ds : List Duty} (h : ds.length = 48) : ∃ d rest, runAt p ds = (p, d) :: rest := by
  obtain ⟨d, es, rfl⟩ : ∃ d es, ds = d :: es := by cases ds with
    | nil => simp at h
    | cons d es => exact ⟨d, es, rfl⟩
  refine ⟨d, (((List.range 47).map Nat.succ).zip es).map fun x => (p + (x.1 : Int), x.2), ?_⟩
  rw [runAt, show List.range 48 = 0 :: (List.range 47).map Nat.succ from List.range_succ_eq_map, List.zip_cons_cons, List.map_cons]
  simp only [Nat.cast_zero, add_zero]

/-- R75: a run of one group is one mark. -/
theorem readRun_one {p : Int} {d : Duty} {rest : List (Int × Duty)} (n : Nat) (h : ((p, d) :: rest).length = 48) :
    readRun (n + 1) ((p, d) :: rest) = [{ pos := p, type := (readGroup (((p, d) :: rest).map Prod.snd)).1,
                                          value := (readGroup (((p, d) :: rest).map Prod.snd)).2 }] := by
  have htake : ((p, d) :: rest).take 48 = (p, d) :: rest := List.take_of_length_le h.le
  have hdrop : ((p, d) :: rest).drop 48 = [] := List.drop_eq_nil_of_le h.le
  have hnil : readRun n [] = [] := by cases n <;> rfl
  simp only [readRun, htake, hdrop, hnil]
  rw [if_neg (by omega)]

/-- R75: the run a mark stands in, read in either direction. -/
theorem examineRun_mark {t : MarkType} {v : Nat} {p : Int} (forward : Bool) (ht : t ≠ .unreadable) (hv : v < 4096) :
    examineRun forward (if forward then (runAt p (markPulses t v)).reverse else runAt p (markPulses t v)) =
      [{ pos := p, type := t, value := some v }] := by
  have hlen := markPulses_length t v
  have hone : readRun 48 (runAt p (markPulses t v)) = [{ pos := p, type := t, value := some v }] := by
    have hd := runAt_duties (p := p) hlen
    have hl := runAt_length (p := p) hlen
    obtain ⟨d, rest, hr⟩ := runAt_head (p := p) hlen
    rw [hr] at hd hl ⊢
    rw [readRun_one 47 hl, hd, readGroup_markPulses ht hv]
  have hl := runAt_length (p := p) hlen
  cases forward <;> simp [examineRun, hl, hone]

end Sys2Proof.Machine

/-!
Sys2Proof/Proofs/SearchPulses: a replayed pulse in the motion of a search: counted, and handed to MARK, which counts a mark it closes and
stops at its target (R53, R75, R77, R88, R89).
-/

namespace Sys2Proof.Machine

/-! ## The pulse at SERVO, POS and MARK -/

/-- What SERVO, POS and MARK's reader have of a replayed pulse: the frame is counted, and nothing but MARK has moved else. -/
structure Pulsed (m : Motion) (s x : State) : Prop where
  counter : x.pos.counter = stepped m.forward s.pos.counter
  motion  : x.pos.motion = some m
  target  : x.pos.target = s.pos.target
  approx  : x.pos.approx = s.pos.approx
  mech    : x.mech = s.mech
  outer   : sameOuter s x
  reports : x.reports = s.reports

/-- A motion of a search, the recorder with PANEL and nothing else under way. -/
structure State.SearchRuns (s : State) (q : Search) (m : Motion) : Prop where
  search   : s.mark.search = some q
  motion   : s.pos.motion = some m
  moves    : s.mech.state ∈ [MState.cue, .review, .fwind, .rwind]
  ready    : s.DeckReady
  panel    : s.mech.owner = .panel
  junction : s.mech.junction = none
  writer   : s.mark.writer = .idle
  holder   : s.sched.holder = none
  target   : s.pos.target = none
  waits    : ¬ (q.kind = .blank ∧ q.state = .winding ∧ s.mech.state = .cue)
  above    : - counterLimit s.std < s.pos.counter
  below    : s.pos.counter < counterLimit s.std
  reports  : s.reports = []

theorem State.SearchRuns.ne {s : State} {q : Search} {m : Motion} (h : s.SearchRuns q m) {n : MState}
    (hn : n ∉ [MState.cue, .review, .fwind, .rwind]) : s.mech.state ≠ n := fun he => hn (he ▸ h.moves)

theorem State.SearchRuns.searchState {s : State} {q : Search} {m : Motion} (h : s.SearchRuns q m) : s.mech.state ∈ searchStates :=
  List.mem_cons_of_mem _ h.moves

/-- R75: the marks of the run that a pulse closes, as the reader hands them on. -/
def marksClosed (m : Motion) (duty : Nat) (s : State) : List MarkRead :=
  (Reader.pulse m.forward s.now (pulsePosition m.forward (stepped m.forward s.pos.counter)) (dutyClass duty) s.mark.reader).2

theorem markReplayed_idle (forward : Bool) (d : Duty) {x : State} (hw : x.mark.writer = .idle) :
    markReplayed forward d x =
      (x.onMark fun k => { k with reader := (Reader.pulse forward x.now (pulsePosition forward x.pos.counter) d x.mark.reader).1,
                                  headDuty := k.writer.replayDuty },
        (Reader.pulse forward x.now (pulsePosition forward x.pos.counter) d x.mark.reader).2) := by
  simp only [markReplayed, hw]

theorem searchPulse_waits {x : State} {q : Search} (hs : x.mark.search = some q)
    (hw : ¬ (q.kind = .blank ∧ q.state = .winding ∧ x.mech.state = .cue)) : searchPulse x = x := by
  simp only [searchPulse, hs]
  exact if_neg hw

/-- The blocks after a pulse: SERVO and POS have taken note of it, POS has counted it, MARK's reader has it. -/
def pulseTaken (m : Motion) (duty : Nat) (v : Servo) (p : Pos) (s : State) : State :=
  { s with
    servo := v
    pos := { p with source := .control, gapSum := 0, gap := some s.now, counter := stepped m.forward s.pos.counter }
    mark := { s.mark with
      reader := (Reader.pulse m.forward s.now (pulsePosition m.forward (stepped m.forward s.pos.counter)) (dutyClass duty)
        s.mark.reader).1
      headDuty := s.mark.writer.replayDuty } }

/-- R40, R53, R75: a replayed pulse of a search's motion, up to the marks it closes. -/
theorem replayedPulse_search {duty interval env : Nat} {phase : Int} {s : State} {q : Search} {m : Motion} (h : s.SearchRuns q m) :
    ∃ x, Pulsed m s x ∧ x.mark.list = s.mark.list ∧ x.mark.search = s.mark.search ∧ replayedPulse duty phase interval env s =
      afterCount s.pos.counter x.pos.counter (handleMarks (marksClosed m duty s) x) := by
  obtain ⟨v, p, hy, hcounter, hmotion, htarget, happrox⟩ : ∃ v p, servoPulse phase interval s = { s with servo := v, pos := p } ∧
      p.counter = s.pos.counter ∧ p.motion = s.pos.motion ∧ p.target = s.pos.target ∧ p.approx = s.pos.approx :=
    ⟨_, _, servoPulse_keeps phase interval s (h.ne (by decide)), rfl, rfl, rfl, rfl⟩
  have hlo := h.above
  have hhi := h.below
  have hcount : countPulse m.forward { s with servo := v, pos := p } = { s with servo := v, pos := { p with
      source := .control, gapSum := 0, gap := some s.now, counter := stepped m.forward s.pos.counter } } := by
    rw [countPulse_within m.forward (x := { s with servo := v, pos := p }), ← hcounter]
    · rfl
    · show - counterLimit s.std ≤ stepped m.forward p.counter
      rw [hcounter, stepped]; split <;> omega
    · show stepped m.forward p.counter ≤ counterLimit s.std
      rw [hcounter, stepped]; split <;> omega
  refine ⟨pulseTaken m duty v p s, ?_, rfl, rfl, ?_⟩
  · exact ⟨rfl, hmotion.trans h.motion, htarget, happrox, rfl, ⟨rfl, rfl, rfl, rfl, rfl, rfl, rfl, rfl⟩, rfl⟩
  · simp only [replayedPulse, h.motion, motionPulse]
    rw [if_neg (h.ne (by decide)), if_neg (h.ne (by decide)), hy,
      searchPulse_waits (x := countPulse m.forward { s with servo := v, pos := p }) h.search h.waits, hcount, markReplayed_idle]
    · rw [show ({ s with servo := v, pos := p } : State).pos.counter = s.pos.counter from hcounter]
      rfl
    · exact h.writer

/-- R16, R17, R25, R60, R89, R165: a counted frame that a search alone may wait for. -/
theorem afterCount_search {before after : Int} {x : State} (ht : x.pos.target = none) (hh : (searchCounter x).sched.holder = none)
    (hj : (searchCounter x).mech.junction = none) : afterCount before after x = searchCounter x := by
  simp [afterCount, memoryTest, crossesTarget, ht, skipTest, hh, junctionTest, hj]

/-! ## A target of the counter -/

/-- R89: a frame has come to or passed a target in the direction of motion. -/
def reaches (forward : Bool) (t v : Int) : Prop := if forward then t ≤ v else v ≤ t

theorem targetReached_iff {x : State} {m : Motion} (hm : x.pos.motion = some m) (t : Int) :
    targetReached x t = true ↔ reaches m.forward t x.pos.counter := by
  simp only [targetReached, hm, reaches]
  cases m.forward <;> simp

/-- R89: the search that waits for its target, and the one that stops at it: of settling, or a counter search's wind. -/
structure StopsAt (t0 : Int) (q r : Search) : Prop where
  waiting : q.waiting = none
  target  : q.target = some t0
  phase   : q.state = .moving ∧ r = { q with state := .stopLast } ∨
    q.state = .winding ∧ q.kind = .counter ∧ r = { q with state := .stopFirst, timer := none }

theorem searchCounter_stops {t0 : Int} {q r : Search} (h : StopsAt t0 q r) {x : State} {m : Motion} (hs : x.mark.search = some q)
    (hm : x.pos.motion = some m) (hr : reaches m.forward t0 x.pos.counter) : searchCounter x = searchIssue r .stop x := by
  have hreached := (targetReached_iff hm t0).mpr hr
  rcases h.phase with ⟨hst, rfl⟩ | ⟨hst, hk, rfl⟩
  · simp [searchCounter, hs, h.target, hst, h.waiting, hreached]
  · simp [searchCounter, hs, h.target, hst, hk, h.waiting, hreached, searchSettle]

theorem searchCounter_goesOn {t0 : Int} {q r : Search} (h : StopsAt t0 q r) {x : State} {m : Motion} (hs : x.mark.search = some q)
    (hm : x.pos.motion = some m) (hr : ¬ reaches m.forward t0 x.pos.counter) : searchCounter x = x := by
  have hreached : targetReached x t0 = false := by simpa [hr] using targetReached_iff hm t0
  rcases h.phase with ⟨hst, rfl⟩ | ⟨hst, hk, rfl⟩
  · simp [searchCounter, hs, h.target, hst, hreached]
  · simp [searchCounter, hs, h.target, hst, hreached]

theorem marksClosed_none {m : Motion} {duty : Nat} {s : State} (h : s.mark.reader.phase ≠ .inRun) : marksClosed m duty s = [] := by
  unfold marksClosed
  cases dutyClass duty <;> simp only [Reader.pulse]
  all_goals first | rw [if_neg (by simp [h])] | (split <;> rfl)

/-- A search's STOP behind a pulse of its motion. -/
theorem Pulsed.stops {m : Motion} {s x : State} {q r : Search} (h : s.SearchRuns q m) (hx : Pulsed m s x) :
    SearchStops r x (searchIssue r .stop x) := by
  obtain ⟨hknown, hkept, hfree, hrests⟩ := h.ready
  refine searchIssue_stops ⟨?_, ?_, ?_, ?_⟩ ?_ ?_ <;> rw [hx.mech]
  exacts [hknown, hkept, hfree, hrests, h.searchState, h.panel]

/-- A pulse that leaves the search as it was. -/
theorem finish_pulsed {m : Motion} {s x : State} (hs : s.reports = []) (hx : Pulsed m s x) :
    (finish x).pos.counter = stepped m.forward s.pos.counter ∧ (finish x).mark = x.mark ∧ sameOuter s (finish x) ∧ sameMech s (finish x) := by
  rw [finish_closed x (hx.reports.trans hs)]
  exact ⟨hx.counter, rfl, hx.outer, by rw [sameMech, closed_mech, hx.mech]⟩

/-- A pulse behind which the search stops. -/
theorem finish_pulseStops {m : Motion} {s x : State} {q r : Search} (h : s.SearchRuns q m) (hx : Pulsed m s x) :
    SearchStops r x (finish (searchIssue r .stop x)) ∧ sameOuter s (finish (searchIssue r .stop x)) := by
  have hstops := (hx.stops h (r := r)).of_finish (hx.reports.trans h.reports)
  obtain ⟨o1, o2, o3, o4, o5, o6, o7, o8⟩ := hstops.outer
  obtain ⟨p1, p2, p3, p4, p5, p6, p7, p8⟩ := hx.outer
  exact ⟨hstops, o1.trans p1, o2.trans p2, o3.trans p3, o4.trans p4, o5.trans p5, o6.trans p6, o7.trans p7, o8.trans p8⟩

theorem replayedPulse_goesOn {duty interval env : Nat} {phase : Int} {s : State} {q r : Search} {m : Motion} {t0 : Int} (h : s.SearchRuns q m)
    (hq : StopsAt t0 q r) (hread : s.mark.reader.phase ≠ .inRun) (ht : ¬ reaches m.forward t0 (stepped m.forward s.pos.counter)) :
    Pulsed m s (replayedPulse duty phase interval env s) ∧ (replayedPulse duty phase interval env s).mark.list = s.mark.list ∧
      (replayedPulse duty phase interval env s).mark.search = s.mark.search := by
  obtain ⟨x, hx, hlist, hsearch, he⟩ := replayedPulse_search (duty := duty) (interval := interval) (env := env) (phase := phase) h
  have hrest := searchCounter_goesOn hq (hsearch.trans h.search) hx.motion (hx.counter ▸ ht)
  rw [he, marksClosed_none hread, handleMarks, afterCount_search (hx.target.trans h.target), hrest]
  · exact ⟨hx, hlist, hsearch⟩
  · rw [hrest, hx.outer.2.2.2.2.1]; exact h.holder
  · rw [hrest, hx.mech]; exact h.junction

theorem replayedPulse_stops {duty interval env : Nat} {phase : Int} {s : State} {q r : Search} {m : Motion} {t0 : Int} (h : s.SearchRuns q m)
    (hq : StopsAt t0 q r) (hread : s.mark.reader.phase ≠ .inRun) (ht : reaches m.forward t0 (stepped m.forward s.pos.counter)) :
    ∃ x, Pulsed m s x ∧ x.mark.list = s.mark.list ∧ replayedPulse duty phase interval env s = searchIssue r .stop x := by
  obtain ⟨x, hx, hlist, hsearch, he⟩ := replayedPulse_search (duty := duty) (interval := interval) (env := env) (phase := phase) h
  have hstop := searchCounter_stops hq (hsearch.trans h.search) hx.motion (hx.counter ▸ ht)
  have hstops := hx.stops h (r := r)
  refine ⟨x, hx, hlist, ?_⟩
  rw [he, marksClosed_none hread, handleMarks, afterCount_search (hx.target.trans h.target), hstop]
  · rw [hstop, hstops.outer.2.2.2.2.1, hx.outer.2.2.2.2.1]; exact h.holder
  · rw [hstop]; exact hstops.junction

/-! ## A mark met in the wind -/

theorem Pulsed.onMark {m : Motion} {s x : State} (h : Pulsed m s x) (f : Mark → Mark) : Pulsed m s (x.onMark f) :=
  ⟨h.counter, h.motion, h.target, h.approx, h.mech, h.outer, h.reports⟩

theorem dutyClass_plain {duty : Nat} (h1 : 420 ≤ duty) (h2 : duty ≤ 670) : dutyClass duty = .plain := by
  rw [dutyClass, if_neg (by omega), if_pos h2]

/-- R75: the plain pulse behind a mark closes its run. -/
theorem marksClosed_mark {m : Motion} {duty : Nat} {s : State} {t : MarkType} {v : Nat} {p : Int} (h1 : 420 ≤ duty) (h2 : duty ≤ 670)
    (hphase : s.mark.reader.phase = .inRun) (hsound : s.mark.reader.sound = true) (ht : t ≠ .unreadable) (hv : v < 4096)
    (hrun : s.mark.reader.pulses = if m.forward then (runAt p (markPulses t v)).reverse else runAt p (markPulses t v)) :
    marksClosed m duty s = [{ pos := p, type := t, value := some v }] := by
  simp only [marksClosed, dutyClass_plain h1 h2, Reader.pulse, hphase, hsound, and_self, if_true, hrun]
  exact examineRun_mark m.forward ht hv

/-- R76: the list with a mark read. -/
def markAdded (r : MarkRead) (x : State) : State :=
  x.onMark fun m => { m with list := addMark x.pos.counter { pos := r.pos, type := r.type, value := r.value, written := false } m.list }

theorem handleMark_exact (r : MarkRead) {x : State} (h : x.pos.approx = false) : handleMark r x = (markAdded r x, r.pos) := by
  simp only [handleMark, h]
  rfl

/-- R77: with an exact counter a mark closed by a pulse of a search's motion is listed and passed to the search. -/
theorem replayedPulse_mark {duty interval env : Nat} {phase : Int} {s : State} {q : Search} {m : Motion} {r : MarkRead}
    (h : s.SearchRuns q m) (hr : marksClosed m duty s = [r]) (happrox : s.pos.approx = false) :
    ∃ x, Pulsed m s x ∧ x.mark.search = some q ∧
      x.mark.list = addMark x.pos.counter { pos := r.pos, type := r.type, value := r.value, written := false } s.mark.list ∧
      replayedPulse duty phase interval env s = afterCount s.pos.counter x.pos.counter (searchCounter (searchMark r.type r.pos x)) := by
  obtain ⟨x, hx, hlist, hsearch, he⟩ := replayedPulse_search (duty := duty) (interval := interval) (env := env) (phase := phase) h
  refine ⟨markAdded r x, hx.onMark _, hsearch.trans h.search, ?_, ?_⟩
  · rw [← hlist]; rfl
  · rw [he, hr, handleMarks, handleMark_exact r (hx.approx.trans happrox)]
    rfl

theorem searchCounter_aimless {x : State} {q : Search} (hs : x.mark.search = some q) (h : q.target = none ∨ q.state = .stopFirst) :
    searchCounter x = x := by
  rcases h with h | h
  · simp [searchCounter, hs, h]
  · simp only [searchCounter, hs, h]
    split <;> rfl

/-- R88, R91: what the search makes of a mark: nothing, a count, or its target with STOP. -/
theorem searchMark_other {x : State} {q : Search} {t : MarkType} {p : Int} (hs : x.mark.search = some q)
    (hn : ¬ (t = .index ∧ q.kind = .index ∧ counts q p = true)) (hscan : ¬ (t = .index ∧ q.kind = .scan)) : searchMark t p x = x := by
  simp only [searchMark, hs]
  split
  · next h =>
    cases hk : q.kind <;> simp_all
  · rfl

theorem searchMark_counted {x : State} {q : Search} {p : Int} (hs : x.mark.search = some q) (hw : q.state = .winding) (hk : q.kind = .index)
    (hc : counts q p = true) : searchMark .index p x =
      if q.count + 1 = q.n.natAbs then
        searchIssue { q with count := q.count + 1, target := some p, state := .stopFirst, timer := none } .stop x
      else setSearch (some { q with count := q.count + 1 }) x := by
  simp only [searchMark, hs, hw, hk, hc, and_self, if_true]
  rfl

theorem counts_iff (q : Search) (p : Int) : counts q p = true ↔ 0 < q.n ∨ p < q.start - 150 := by simp [counts]

theorem searchMark_scan {x : State} {q : Search} {p : Int} (hs : x.mark.search = some q) (hw : q.state = .winding) (hk : q.kind = .scan) :
    searchMark .index p x = searchIssue { q with target := some p, state := .stopFirst, timer := none } .stop x := by
  simp only [searchMark, hs, hw, hk, and_self, if_true]
  rfl

/-- A pulse behind which the search goes on in its wind, with no target. -/
theorem afterMark_goesOn {before after : Int} {s x : State} {q k : Search} {m : Motion} (h : s.SearchRuns q m) (hx : Pulsed m s x)
    (hs : x.mark.search = some k) (hk : k.target = none) : afterCount before after (searchCounter x) = x := by
  have hrest := searchCounter_aimless hs (.inl hk)
  rw [hrest, afterCount_search (hx.target.trans h.target) (by rw [hrest, hx.outer.2.2.2.2.1]; exact h.holder)
    (by rw [hrest, hx.mech]; exact h.junction), hrest]

/-- A pulse whose mark is the target. -/
theorem afterMark_stops {before after : Int} {s x : State} {q r : Search} {m : Motion} (h : s.SearchRuns q m) (hx : Pulsed m s x)
    (hr : r.state = .stopFirst) : afterCount before after (searchCounter (searchIssue r .stop x)) = searchIssue r .stop x := by
  have hstops := hx.stops h (r := r)
  have hrest := searchCounter_aimless hstops.search (.inr hr)
  rw [hrest, afterCount_search (hstops.memory.trans (hx.target.trans h.target))
    (by rw [hrest, hstops.outer.2.2.2.2.1, hx.outer.2.2.2.2.1]; exact h.holder) (by rw [hrest]; exact hstops.junction), hrest]

/-- What a pulse that closes a mark's run leaves, whatever the search makes of the mark: the frame counted, the mark listed. -/
structure MarkMet (m : Motion) (r : MarkRead) (s u : State) : Prop where
  counter : u.pos.counter = stepped m.forward s.pos.counter
  list    : u.mark.list = addMark u.pos.counter { pos := r.pos, type := r.type, value := r.value, written := false } s.mark.list
  outer   : sameOuter s u

/-- R88: a mark at which the search goes on, with its record as it was or its count one higher. -/
theorem finish_markPassed {duty interval env : Nat} {phase : Int} {s : State} {q k : Search} {m : Motion} {r : MarkRead}
    (h : s.SearchRuns q m) (hr : marksClosed m duty s = [r]) (happrox : s.pos.approx = false) (hk : k.target = none)
    (hmet : ∀ y : State, y.mark.search = some q → searchMark r.type r.pos y = setSearch (some k) y) :
    MarkMet m r s (finish (replayedPulse duty phase interval env s)) ∧
      (finish (replayedPulse duty phase interval env s)).mark.search = some k ∧
      sameMech s (finish (replayedPulse duty phase interval env s)) := by
  obtain ⟨x, hx, hsearch, hlist, he⟩ := replayedPulse_mark (duty := duty) (interval := interval) (env := env) (phase := phase) h hr happrox
  have hx' : Pulsed m s (setSearch (some k) x) := hx.onMark _
  obtain ⟨hcounter, hmark, houter, hmech⟩ := finish_pulsed h.reports hx'
  rw [he, hmet x hsearch, afterMark_goesOn h hx' rfl hk]
  refine ⟨⟨hcounter, ?_, houter⟩, by rw [hmark]; rfl, hmech⟩
  rw [hmark, hcounter, ← hx.counter]
  exact hlist

/-- R88, R91: a mark that is the search's target. -/
theorem finish_markStops {duty interval env : Nat} {phase : Int} {s : State} {q k : Search} {m : Motion} {r : MarkRead}
    (h : s.SearchRuns q m) (hr : marksClosed m duty s = [r]) (happrox : s.pos.approx = false) (hk : k.state = .stopFirst)
    (hmet : ∀ y : State, y.mark.search = some q → searchMark r.type r.pos y = searchIssue k .stop y) :
    MarkMet m r s (finish (replayedPulse duty phase interval env s)) ∧
      ∃ x, Pulsed m s x ∧ SearchStops k x (finish (replayedPulse duty phase interval env s)) := by
  obtain ⟨x, hx, hsearch, hlist, he⟩ := replayedPulse_mark (duty := duty) (interval := interval) (env := env) (phase := phase) h hr happrox
  obtain ⟨hends, houter⟩ := finish_pulseStops (r := k) h hx
  rw [he, hmet x hsearch, afterMark_stops h hx hk]
  exact ⟨⟨hends.counter.trans hx.counter, by rw [hends.list, hends.counter, hlist], houter⟩, x, hx, hends⟩

theorem setSearch_self {x : State} {q : Search} (h : x.mark.search = some q) : setSearch (some q) x = x := by
  rw [setSearch, State.onMark, ← h]

theorem Pulsed.now {m : Motion} {s x : State} (h : Pulsed m s x) : x.now = s.now := by
  obtain ⟨-, -, -, hclock, -⟩ := h.outer
  rw [State.now, State.now, hclock]

end Sys2Proof.Machine

/-!
Sys2Proof/Proofs/SearchEnds: how a leader, a reel stall and a STOP of the host end a search (R92, R93).
-/

namespace Sys2Proof.Machine

/-! ## The end of a search -/

/-- R93: the notice that ends a search. -/
def endNotice (q : Search) (r : SearchResult) (why : SearchWhy) (s : State) : Notice :=
  .searchEnd q.kind r why s.pos.counter s.pos.approx q.counted

/-- R93: the search ended, with its notice. -/
def searchEnded (q : Search) (r : SearchResult) (why : SearchWhy) (x : State) : State := notify (endNotice q r why x) (setSearch none x)

theorem searchEnd_eq {q : Search} {x : State} (hs : x.mark.search = some q) (r : SearchResult) (why : SearchWhy) :
    searchEnd r why x = searchEnded q r why x := by
  simp only [searchEnd, hs]
  rfl

theorem counted_eq (q : Search) : q.counted = if q.kind = .index ∨ q.kind = .scan then some q.count else none := by
  unfold Search.counted
  cases q.kind <;> rfl

theorem searchEnded_notices (q : Search) (r : SearchResult) (why : SearchWhy) {x : State} (h : x.roomFor 1) :
    (searchEnded q r why x).link.notices = x.link.notices ++ [endNotice q r why x] :=
  notify_room (s := setSearch none x) h

/-- What an event that ends a search leaves: the record gone, counter and list as they were, the notices told before it, then its own. -/
structure SearchOver (q : Search) (r : SearchResult) (why : SearchWhy) (before : List Notice) (s t : State) : Prop where
  search  : t.mark.search = none
  counter : t.pos.counter = s.pos.counter
  list    : t.mark.list = s.mark.list
  notices : t.link.notices = s.link.notices ++ before ++ [endNotice q r why s]

theorem drain_searchEnds {q : Search} {r : SearchResult} {why : SearchWhy} {last : Report}
    (he : ∀ y : State, y.mark.search = some q → handleReport last y = searchEnded q r why y) (l : List Report) : ∀ (n : Nat) (x : State),
    x.reports = l ++ [last] → (∀ a ∈ l, a.deaf true = true) → l.length < n → x.sched.holder = none → x.mark.search = some q →
    drain n x = searchEnded q r why (x.nextReport []) := by
  induction l with
  | nil =>
    intro n x hl _ hn _ hs
    obtain ⟨n, rfl⟩ : ∃ k, n = k + 1 := ⟨n - 1, by simp at hn; omega⟩
    have hstep : drain (n + 1) x = drain n (handleReport last (x.nextReport [])) := by simp [drain, hl]
    rw [hstep, he (x.nextReport []) hs, drain_idle _ _ (by simp [searchEnded, setSearch, State.nextReport])]
  | cons a l ih =>
    intro n x hl hd hn hh hs
    obtain ⟨n, rfl⟩ : ∃ k, n = k + 1 := ⟨n - 1, by simp at hn; omega⟩
    have hstep : drain (n + 1) x = drain n (handleReport a (x.nextReport (l ++ [last]))) := by simp [drain, hl]
    rw [hstep, handleReport_deaf true a (x := x.nextReport (l ++ [last])) hh (by simp) (hd a (by simp)),
      ih n (x.nextReport (l ++ [last])) rfl (fun b hb => hd b (by simp [hb])) (by simpa using hn) hh hs]
    rfl

/-- R93: a step whose last report ends the search. -/
theorem finish_searchEnds {q : Search} {r : SearchResult} {why : SearchWhy} {l : List Report} {last : Report} {before : List Notice}
    {s x : State} (hl : x.reports = l ++ [last]) (hd : ∀ a ∈ l, a.deaf true = true) (hlen : l.length ≤ 2) (hh : x.sched.holder = none)
    (hs : x.mark.search = some q)
    (he : ∀ y : State, y.mark.search = some q → handleReport last y = searchEnded q r why y)
    (hp : x.pos.counter = s.pos.counter ∧ x.pos.approx = s.pos.approx) (hm : x.mark.list = s.mark.list)
    (hn : x.link.notices = s.link.notices ++ before) (hroom : s.roomFor (before.length + 1)) :
    SearchOver q r why before s (finish x) := by
  have hfin : finish x = (searchEnded q r why (x.nextReport [])).closed := by
    rw [finish, drain_searchEnds he l drainFuel x hl hd (by simp only [drainFuel]; omega) hh hs]
    rfl
  have hx : (x.nextReport []).roomFor 1 := by
    show x.link.notices.length + 1 ≤ Config.noticePlaces
    rw [hn, List.length_append]
    have : s.link.notices.length + (before.length + 1) ≤ Config.noticePlaces := hroom
    omega
  rw [hfin]
  refine ⟨?_, ?_, ?_, ?_⟩
  · simp [searchEnded, setSearch]
  · rw [closed_pos, ← hp.1]; simp [searchEnded, setSearch, State.nextReport]
  · rw [closed_mark, ← hm]; simp [searchEnded, setSearch, State.nextReport]
  · rw [closed_link_notices, searchEnded_notices _ _ _ hx, endNotice, endNotice, ← hp.1, ← hp.2, ← hn]
    rfl

/-- A search with no command of MECH under way and nothing that the end of its motion would tell (R39, R68, R83). -/
structure State.SearchAlone (s : State) (q : Search) : Prop where
  hears     : s.hears
  search    : s.mark.search = some q
  free      : s.mech.inFlight = none
  empty     : s.mech.slot = none
  holder    : s.sched.holder = none
  writer    : s.mark.writer = .idle
  reference : s.servo.reference = .internal
  counters  : s.link.settings.counterNotices = false
  room      : s.roomFor 2

/-! ## Leaders (R21, R22) -/

theorem leaderStopped_link (k : Link) {x : State} (hw : x.mark.writer = .idle) (href : x.servo.reference = .internal)
    (hc : k.settings.counterNotices = false) : (leaderStopped k x).link = k := by
  simp only [leaderStopped, because, startShift, driveCam, aimAt, State.onMech_link]
  rw [(setState_says (m := .shifting) none false (s := leaderReported k x) hw href rfl).1, motionEnd_link (by rw [leaderReported_link]; exact hc),
    leaderReported_link]

theorem leaderStopped_keeps (k : Link) (x : State) : (leaderStopped k x).pos.counter = x.pos.counter ∧
    (leaderStopped k x).pos.approx = x.pos.approx ∧ (leaderStopped k x).mark.list = x.mark.list ∧
    (leaderStopped k x).mark.search = x.mark.search ∧ (leaderStopped k x).reports = x.reports ++ [.leaderSched, .leaderSearch] := by
  refine ⟨?_, ?_, ?_, ?_, ?_⟩ <;> simp [leaderStopped, leaderReported, because, startShift, driveCam, aimAt]

theorem exec_endLeader_endsSearch {s : State} {q : Search} (h : s.SearchAlone q) (hf : inForward s = true) :
    ∃ u, exec (.endLeaderCovered true) s = .next u ∧ SearchOver q .notFound .none [.tapeEnd s.mech.state] s u := by
  have he : exec (.endLeaderCovered true) s = .next (finish (endLeaderTest (s.onPins fun p => { p with leaderEnd := true }))) :=
    congrArg Host.Outcome.next (run_high _ _ h.hears.1)
  have htest : endLeaderTest (s.onPins fun p => { p with leaderEnd := true }) =
      endLeaderStop (s.onPins fun p => { p with leaderEnd := true }) := by
    have : inForward (s.onPins fun p => { p with leaderEnd := true }) = true := hf
    simp [endLeaderTest, this]
  obtain ⟨k, hk, hn, -, hset⟩ := endLeaderStop_eq (x := s.onPins fun p => { p with leaderEnd := true }) (by simp [h.free]) h.room
  have hlink := leaderStopped_link k (x := s.onPins fun p => { p with leaderEnd := true }) h.writer h.reference (by rw [hset]; exact h.counters)
  have hsched := leaderStopped_sched k (x := s.onPins fun p => { p with leaderEnd := true }) h.holder
  obtain ⟨kcounter, kapprox, klist, ksearch, kreports⟩ := leaderStopped_keeps k (s.onPins fun p => { p with leaderEnd := true })
  refine ⟨_, he.trans (by rw [htest, hk]), ?_⟩
  generalize leaderStopped k (s.onPins fun p => { p with leaderEnd := true }) = y at *
  refine finish_searchEnds (l := [.leaderSched]) (last := .leaderSearch) (by rw [kreports]; simp [h.hears.2]) (by simp [Report.deaf])
    (by simp) (by rw [hsched]; exact h.holder) (ksearch.trans h.search) (fun y hy => searchEnd_eq hy .notFound .none) ⟨kcounter, kapprox⟩
    klist ?_ h.room
  rw [hlink, hn]
  simp [h.free]

theorem exec_startLeader_endsSearch {s : State} {q : Search} (h : s.SearchAlone q) (hs : s.mech.state ∈ [MState.rwind, .review]) :
    ∃ u, exec (.startLeaderCovered true) s = .next u ∧ SearchOver q .notFound .none [] s u := by
  have he : exec (.startLeaderCovered true) s =
      .next (finish (Machine.startLeaderCovered (s.onPins fun p => { p with leaderStart := true }))) :=
    congrArg Host.Outcome.next (run_high _ _ h.hears.1)
  have hstop : Machine.startLeaderCovered (s.onPins fun p => { p with leaderStart := true }) = because .startLeader (startShift .halt false
      (reverseStopped (s.onPins fun p => { p with leaderStart := true }))) := by
    simp only [List.mem_cons, List.not_mem_nil, or_false] at hs
    rcases hs with hs | hs <;> simp only [Machine.startLeaderCovered, State.onPins_mech, hs] <;> rfl
  refine ⟨_, he.trans (by rw [hstop]), ?_⟩
  refine finish_searchEnds (l := []) (last := .leaderSearch) ?_ (by simp) (by simp) ?_ ?_ (fun y hy => searchEnd_eq hy .notFound .none)
    ⟨?_, ?_⟩ ?_ ?_ (by have := h.room; simp only [State.roomFor, List.length_nil] at *; omega)
  · simp [because, startShift, driveCam, aimAt, reverseStopped, h.hears.2]
  · rw [because, State.onMech_sched, startShift_sched _ _ _ (.inr (by simp [reverseStopped, h.holder]))]
    simp [reverseStopped, h.holder]
  · simp [because, startShift, driveCam, aimAt, reverseStopped, h.search]
  · simp [because, startShift, driveCam, aimAt, reverseStopped]
  · simp [because, startShift, driveCam, aimAt, reverseStopped]
  · simp [because, startShift, driveCam, aimAt, reverseStopped]
  · simp only [because, startShift, driveCam, aimAt, State.onMech_link]
    rw [(setState_says (m := .shifting) none false (s := reverseStopped (s.onPins fun p => { p with leaderStart := true })) h.writer
      h.reference rfl).1,
      motionEnd_link (s := reverseStopped (s.onPins fun p => { p with leaderStart := true })) h.counters]
    simp [reverseStopped]

/-! ## A reel stall (R23) -/

theorem exec_reelStall_endsSearch {s : State} {q : Search} (h : s.SearchAlone q) (hw : q.waiting = none) (hs : stalled s = true) :
    ∃ u, exec .reelStall s = .next u ∧
      SearchOver q .interrupted (.fault .reelStall) [.mechFault .reelStall s.mech.state] s u := by
  obtain ⟨k, hk, hn, hset⟩ := reelStall_eq hs (by simp [h.free]) (by simp [h.empty])
    (by have := h.room; simp only [State.roomFor, h.free, h.empty, discards_none, List.length_nil] at *; omega)
  refine ⟨_, (exec_reelStall h.hears).trans (by rw [hk]), ?_⟩
  refine finish_searchEnds (l := [.faultSched]) (last := .interrupted (.fault .reelStall)) ?_ (by simp [Report.deaf]) (by simp) ?_ ?_ ?_
    ⟨?_, ?_⟩ ?_ ?_ h.room
  · simp [startUnthread, driveCam, aimAt, stalledTold, h.hears.2]
  · rw [startUnthread_sched .idle (s := stalledTold k s) (.inr h.holder)]
    exact h.holder
  · simp [startUnthread, driveCam, aimAt, stalledTold, h.search]
  · intro y hy
    rw [handleReport, searchInterrupted, hy]
    simp only [hw, Option.isNone_none, if_true]
    exact searchEnd_eq hy _ _
  · simp [startUnthread, driveCam, aimAt, stalledTold]
  · simp [startUnthread, driveCam, aimAt, stalledTold]
  · simp [startUnthread, driveCam, aimAt, stalledTold]
  · simp only [startUnthread, driveCam, aimAt, State.onMech_link]
    rw [(setState_says (m := .unthreading) none false (s := stalledTold k s) h.writer h.reference rfl).1,
      motionEnd_link (s := stalledTold k s) (hset ▸ h.counters)]
    rw [h.free, h.empty] at hn
    simpa [stalledTold] using hn

/-! ## A STOP of the host (R92) -/

/-- R92: the search cancelled by the host. -/
def searchCancelled (q : Search) (s : State) : State := notify (.searchCancelled q.kind false) (setSearch none s)

theorem startUnthread_prefix (m : MState) (s : State) : s.link.notices <+: (startUnthread m s).link.notices :=
  setState_prefix .unthreading none false s

/-- What a STOP of the host may do behind the cancellation: no search is under way, and every notice told stays told. -/
structure StopAfter (x : State) (r : State × ExecResult) : Prop where
  search  : r.1.mark.search = x.mark.search
  reports : r.1.reports = x.reports
  notices : x.link.notices <+: r.1.link.notices

theorem StopAfter.refl {x : State} (e : ExecResult) : StopAfter x (x, e) := ⟨rfl, rfl, List.prefix_rfl⟩

theorem execute_stopAfter (cancel : Bool) (x : State) : StopAfter x (execute (panelCmd .stop false cancel) x) := by
  cases hc : mechChecks (panelCmd .stop false cancel) x with
  | some why => rw [execute_refused hc]; exact .refl _
  | none =>
    rw [execute_passed hc, if_pos (.inl rfl)]
    have hclear : (clearFault x).mark = x.mark ∧ (clearFault x).reports = x.reports ∧ (clearFault x).link = x.link := by
      unfold clearFault; split <;> exact ⟨rfl, rfl, rfl⟩
    obtain ⟨kmark, kreports, klink⟩ := hclear
    generalize clearFault x = y at *
    simp only [mechWork, panelCmd_what]
    split
    · simp only [atOnce, if_true]
      exact ⟨by rw [kmark], kreports, by rw [klink]⟩
    · split
      · refine ⟨?_, ?_, ?_⟩
        · rw [← kmark]; simp [takesTime, startUnthread, driveCam, aimAt]
        · rw [← kreports]; simp [takesTime, startUnthread, driveCam, aimAt]
        · rw [← klink]; exact startUnthread_prefix .idle y
      · refine ⟨?_, ?_, ?_⟩
        · rw [← kmark]; simp [takesTime, startShift, driveCam, aimAt]
        · rw [← kreports]; simp [takesTime, startShift, driveCam, aimAt]
        · rw [← klink]; exact startShift_prefix .halt false y

theorem submit_stopAfter (cancel : Bool) {x : State} (hb : x.mech.standbyStop = false) (hr : x.mech.recoveryPending = false)
    (hj : x.mech.junction = none) (hslot : x.mech.slot = none) : StopAfter x (submit (panelCmd .stop false cancel) x) := by
  simp only [submit, hb, hr, hj, Bool.false_eq_true, if_false, false_and, Option.isSome_none]
  split
  · split
    · exact .refl _
    · rw [if_neg (by simp), storeCmd, closeSlot_none hslot]
      exact ⟨rfl, rfl, List.prefix_rfl⟩
  · exact execute_stopAfter cancel x

/-- R92: a STOP of the host cancels the search before it is carried out. -/
theorem exec_stop_cancelsSearch {s : State} {q : Search} (ht : s.takes) (hs : s.mark.search = some q) (hb : s.mech.standbyStop = false)
    (hr : s.mech.recoveryPending = false) (hj : s.mech.junction = none) (hslot : s.mech.slot = none) (hroom : s.roomFor 1) :
    ∃ u, exec (.stop false) s = .next u ∧ u.mark.search = none ∧
      u.link.notices.take (s.link.notices.length + 1) = s.link.notices ++ [.searchCancelled q.kind false] := by
  have hcancel : searchCancel false s = searchCancelled q s := by
    simp only [searchCancel, hs]
    rfl
  have hafter := submit_stopAfter false (x := searchCancelled q s) (by simpa [searchCancelled, setSearch] using hb)
    (by simpa [searchCancelled, setSearch] using hr) (by simpa [searchCancelled, setSearch] using hj)
    (by simpa [searchCancelled, setSearch] using hslot)
  have hnotices : (searchCancelled q s).link.notices = s.link.notices ++ [.searchCancelled q.kind false] :=
    notify_room (s := setSearch none s) hroom
  have hreq : mechRequest .stop false false s = mechAnswer (submit (panelCmd .stop false false) (searchCancelled q s)) := by
    simp only [mechRequest, hcancel, cancelsTimer, Bool.and_false, Bool.false_and, Bool.false_eq_true, if_false]
    rfl
  have hanswer (r : State × ExecResult) : (mechAnswer r).1 = r.1 := by unfold mechAnswer; split <;> rfl
  refine ⟨_, exec_mech (i := .stop false) (w := .stop) (p := false) (c := false) (by simp [mechForms]) ht, ?_⟩
  rw [hreq]
  generalize submit (panelCmd .stop false false) (searchCancelled q s) = r at *
  have hreports : r.1.reports = [] := hafter.reports.trans (by simp [searchCancelled, setSearch, ht.1.2])
  rw [finish_closed _ (by rw [show (replyWith 1 (mechAnswer r)).reports = (mechAnswer r).1.reports from rfl, hanswer, hreports])]
  have hsearch : (replyWith 1 (mechAnswer r)).mark.search = none := by
    rw [show (replyWith 1 (mechAnswer r)).mark = (mechAnswer r).1.mark from rfl, hanswer, hafter.search]
    simp [searchCancelled, setSearch]
  have hprefix := take_of_prefix hafter.notices
  rw [hnotices, List.length_append] at hprefix
  refine ⟨hsearch, ?_⟩
  rw [closed_link_notices, show (replyWith 1 (mechAnswer r)).link.notices = (mechAnswer r).1.link.notices from rfl, hanswer]
  exact hprefix

end Sys2Proof.Machine

/-!
Sys2Proof/Proofs/SearchClosings: a search command that MECH closes, at its target code or by a timeout, and what the search does then (R89,
R91, R93).
-/

namespace Sys2Proof.Machine

/-! ## A report worked off before those that come to nothing -/

theorem finish_after (b : Bool) {r : Report} {l : List Report} {x z : State} (hx : x.reports = r :: l)
    (hz : handleReport r (x.nextReport l) = z) (hn : z.noOccurrence) (hs : b = false → z.mark.search = none)
    (hl : z.reports.length ≤ 255) (hr : ∀ a ∈ z.reports, a.idle b = true) : ∃ d, finish x = ended d z := by
  obtain ⟨d, hd⟩ := drain_quiet b z.reports 255 z rfl hl hn hs fun a ha => .inl (hr a ha)
  have hstep (n : Nat) : drain (n + 1) x = drain n (handleReport r (x.nextReport l)) := by simp [drain, hx]
  exact ⟨d, by rw [finish, show drainFuel = 255 + 1 from rfl, hstep 255, hz, hd]; rfl⟩

/-! ## What a step of a search keeps -/

/-- The counter, the marks and the blocks that no search command touches. -/
structure SearchKept (s u : State) : Prop where
  counter : u.pos.counter = s.pos.counter
  list    : u.mark.list = s.mark.list
  tuner   : u.tuner = s.tuner
  clock   : u.clock = s.clock
  slots   : u.sched.slots = s.sched.slots
  holder  : u.sched.holder = none
  pwr     : u.pwr = s.pwr

theorem SearchKept.ended {s u : State} (h : SearchKept s u) (d : Option Nat) : SearchKept s (ended d u) :=
  ⟨h.counter, h.list, h.tuner, h.clock, h.slots, h.holder, h.pwr⟩

theorem SearchKept.now {s u : State} (h : SearchKept s u) : u.now = s.now := by rw [State.now, State.now, h.clock]

theorem SearchKept.setSearch {s u : State} (h : SearchKept s u) (q : Option Search) : SearchKept s (setSearch q u) :=
  ⟨h.counter, h.list, h.tuner, h.clock, h.slots, h.holder, h.pwr⟩

/-- A command of the search is under way, with nothing told. -/
structure SearchIssues (q : Search) (r : MechCmd × MState × CamCode) (s u : State) : Prop where
  kept    : SearchKept s u
  search  : u.mark.search = some { q with waiting := some r.1 }
  state   : u.mech.state = .shifting
  target  : u.mech.target = r.2.1
  aim     : u.mech.camTarget = some r.2.2
  timer   : u.mech.camTimer = some s.now
  flight  : u.mech.inFlight = some { what := r.1, origin := .search, tag := q.tag }
  owner   : u.mech.owner = .panel
  notices : u.link.notices = s.link.notices

theorem SearchIssues.ended {q : Search} {r : MechCmd × MState × CamCode} {s u : State} (h : SearchIssues q r s u) (d : Option Nat) :
    SearchIssues q r s (ended d u) where
  kept := h.kept.ended d
  search := by rw [ended_mark]; exact h.search
  state := by rw [ended_mech]; exact h.state
  target := by rw [ended_mech]; exact h.target
  aim := by rw [ended_mech]; exact h.aim
  timer := by rw [ended_mech]; exact h.timer
  flight := by rw [ended_mech]; exact h.flight
  owner := by rw [ended_mech]; exact h.owner
  notices := by rw [ended_link_notices]; exact h.notices

/-- R10, R11, R89: the deck in HALT behind a search's STOP, the recorder free, an evaluation to follow. -/
structure SearchHalted (s y : State) : Prop where
  ready   : y.DeckReady
  state   : y.mech.state = .halt
  flight  : y.mech.inFlight = none
  owner   : y.mech.owner = .none
  pins    : y.pins.leaderEnd = false ∧ y.pins.leaderStart = false
  quiet   : y.Quiet
  approx  : y.pos.approx = s.pos.approx
  link    : y.link = s.link
  sched   : y.sched = s.sched
  reports : y.reports = [.evaluate]
  kept    : SearchKept s y

theorem SearchHalted.setSearch {s y : State} (h : SearchHalted s y) (q : Option Search) : SearchHalted s (setSearch q y) :=
  ⟨⟨h.ready.known, h.ready.kept, h.ready.free, h.ready.rests⟩, h.state, h.flight, h.owner, h.pins, ⟨h.quiet.motion, h.quiet.writer, h.quiet.reference⟩,
    h.approx, h.link, h.sched, h.reports, h.kept.setSearch q⟩

theorem searchShift_link (r : MechCmd × MState × CamCode) (tag : Nat) (l : List Report) {x : State} (h : x.Quiet) :
    (searchShift r tag l x).link = x.link := by
  rw [searchShift, State.onMech_link, startShift_link (h.taken l), taken_link]

/-- R7, R89: from HALT the search issues a motion. -/
theorem SearchHalted.issues {s y : State} (h : SearchHalted s y) {r : MechCmd × MState × CamCode} (hr : r ∈ searchMotions) (q : Search) :
    SearchIssues q r s (searchIssue q r.1 y) ∧ (searchIssue q r.1 y).sched = s.sched ∧
      (∀ a ∈ (searchIssue q r.1 y).reports, a.idle true = true) ∧ (searchIssue q r.1 y).reports.length ≤ 2 := by
  have hw := h.setSearch (some { q with waiting := some r.1 })
  obtain ⟨l, hl, hsub⟩ := submit_searchShifts hr q.tag hw.ready hw.state (.inl hw.owner) hw.pins.1 hw.pins.2
  have hissue : searchIssue q r.1 y = searchShift r q.tag l (Machine.setSearch (some { q with waiting := some r.1 }) y) := by
    simp only [searchIssue]
    rw [show ({ what := r.1, origin := .search, tag := q.tag } : Cmd) = searchCmd r.1 q.tag from rfl, hsub]
  obtain ⟨mstate, mtarget, maim, mtimer, mflight, mowner⟩ :=
    searchShift_mech hr q.tag l (Machine.setSearch (some { q with waiting := some r.1 }) y)
  obtain ⟨ksched, kreports, ksearch, klist, kcounter, ktuner, kclock, kpwr, -, -⟩ :=
    searchShift_keeps r q.tag l (x := Machine.setSearch (some { q with waiting := some r.1 }) y) (by rw [hw.state]; decide)
  have klink := searchShift_link r q.tag l hw.quiet
  rw [hissue]
  generalize searchShift r q.tag l (Machine.setSearch (some { q with waiting := some r.1 }) y) = z at *
  have hnow : (Machine.setSearch (some { q with waiting := some r.1 }) y).now = s.now := h.kept.now
  have hreports : z.reports = [.evaluate] ++ l := by rw [kreports, hw.reports]
  refine ⟨⟨⟨kcounter.trans h.kept.counter, klist.trans h.kept.list, ktuner.trans h.kept.tuner, kclock.trans h.kept.clock, ?_, ?_,
    kpwr.trans h.kept.pwr⟩, ksearch, mstate, mtarget, maim, hnow ▸ mtimer, mflight, mowner, ?_⟩, ksched.trans h.sched, ?_, ?_⟩
  · rw [ksched]; exact h.kept.slots
  · rw [ksched]; exact h.kept.holder
  · rw [klink]; exact congrArg Link.notices h.link
  · rw [hreports]; rcases hl with rfl | rfl <;> simp [Report.idle]
  · rw [hreports]; rcases hl with rfl | rfl <;> simp

/-- The search over, found, in this state and under this owner. -/
structure SearchFound (q : Search) (m : MState) (o : Owner) (s u : State) : Prop where
  kept    : SearchKept s u
  search  : u.mark.search = none
  state   : u.mech.state = m
  flight  : u.mech.inFlight = none
  owner   : u.mech.owner = o
  notices : u.link.notices = s.link.notices ++ [endNotice q .found .none s]

theorem SearchFound.ended {q : Search} {m : MState} {o : Owner} {s u : State} (h : SearchFound q m o s u) (d : Option Nat) :
    SearchFound q m o s (ended d u) where
  kept := h.kept.ended d
  search := by rw [ended_mark]; exact h.search
  state := by rw [ended_mech]; exact h.state
  flight := by rw [ended_mech]; exact h.flight
  owner := by rw [ended_mech]; exact h.owner
  notices := by rw [ended_link_notices]; exact h.notices

theorem searchEnded_keeps (q : Search) (r : SearchResult) (why : SearchWhy) (x : State) :
    (searchEnded q r why x).mark = { x.mark with search := none } ∧ (searchEnded q r why x).mech = x.mech ∧
      (searchEnded q r why x).pos = x.pos ∧ (searchEnded q r why x).tuner = x.tuner ∧ (searchEnded q r why x).clock = x.clock ∧
      (searchEnded q r why x).sched = x.sched ∧ (searchEnded q r why x).pwr = x.pwr ∧ (searchEnded q r why x).reports = x.reports := by
  refine ⟨?_, ?_, ?_, ?_, ?_, ?_, ?_, ?_⟩ <;> simp [searchEnded, setSearch]

theorem SearchKept.searchEnded {s x : State} (h : SearchKept s x) (q : Search) (r : SearchResult) (why : SearchWhy) :
    SearchKept s (searchEnded q r why x) := by
  obtain ⟨kmark, -, kpos, ktuner, kclock, ksched, kpwr, -⟩ := searchEnded_keeps q r why x
  exact ⟨kpos ▸ h.counter, by rw [kmark]; exact h.list, ktuner.trans h.tuner, kclock.trans h.clock, ksched ▸ h.slots, ksched ▸ h.holder,
    kpwr.trans h.pwr⟩

/-- R89: settling complete with nothing more to play. -/
theorem SearchHalted.found {s y : State} (h : SearchHalted s y) {q : Search} (hs : y.mark.search = some q) (hroom : s.roomFor 1) :
    SearchFound q .halt .none s (searchEnd .found .none y) ∧ (searchEnd .found .none y).sched = s.sched ∧
      (searchEnd .found .none y).reports = [.evaluate] := by
  obtain ⟨kmark, kmech, -, -, -, ksched, -, kreports⟩ := searchEnded_keeps q .found .none y
  rw [searchEnd_eq hs]
  refine ⟨⟨h.kept.searchEnded _ _ _, by rw [kmark], by rw [kmech]; exact h.state, by rw [kmech]; exact h.flight, by rw [kmech]; exact h.owner, ?_⟩,
    ksched.trans h.sched, kreports.trans h.reports⟩
  rw [searchEnded_notices _ _ _ (by rw [State.roomFor, h.link]; exact hroom), h.link, endNotice, endNotice, h.kept.counter, h.approx]

/-! ## A search command closed by a movement's end -/

/-- A search's command is in flight in a shift, the recorder with PANEL and nothing else under way. -/
structure State.SearchWaits (s : State) (q : Search) (w : MechCmd) : Prop where
  hears   : s.hears
  idle    : s.noOccurrence
  search  : s.mark.search = some q
  waiting : q.waiting = some w
  state   : s.mech.state = .shifting
  flight  : s.mech.inFlight = some { what := w, origin := .search, tag := q.tag }
  empty   : s.mech.slot = none
  owner   : s.mech.owner = .panel
  known   : s.mech.recoveryPending = false
  goesOn  : s.mech.standbyStop = false
  run     : s.mech.recoveryRun = false
  ends    : s.pins.leaderEnd = false ∧ s.pins.leaderStart = false
  quiet   : s.Quiet
  room    : s.roomFor 2

theorem closeInFlight_search {x : State} {w : MechCmd} {tag : Nat} (h : x.mech.inFlight = some { what := w, origin := .search, tag := tag })
    (r : CloseResult) : closeInFlight r x = report (.closedSearch tag w r) (x.onMech fun m => { m with inFlight := none }) := by
  simp [closeInFlight, h, closeCmd]

/-- R10, R15: the search's command closed, with nothing stored. -/
def searchCloses (tag : Nat) (w : MechCmd) (x : State) : State :=
  report (.closedSearch tag w (.done x.mech.state)) (x.onMech fun m => { m with inFlight := none })

theorem complete_search {x : State} {w : MechCmd} {tag : Nat} (h : x.mech.inFlight = some { what := w, origin := .search, tag := tag })
    (hslot : x.mech.slot = none) : complete x = settle (searchCloses tag w x) := by
  rw [complete, closeInFlight_search h]
  exact congrArg settle (runSlot_none (s := searchCloses tag w x) hslot)

/-- R89, R91: the search hears of its command's close. -/
theorem searchClosed_done {q : Search} {w : MechCmd} {m : MState} {y : State} (hs : y.mark.search = some q) (hw : q.waiting = some w) :
    handleReport (.closedSearch q.tag w (.done m)) y = searchAdvance q y := by
  simp only [handleReport, searchClosed, hs, hw, and_self, if_true]

/-- The deck freed in HALT behind the search's STOP. -/
def haltFreed (s : State) : State :=
  { settledIn .halt 3 s with
    mech := { (settledIn .halt 3 s).mech with inFlight := none, owner := .none }
    reports := [.evaluate] }

theorem settledIn_keeps (m : MState) (code : CamCode) (s : State) :
    (settledIn m code s).mech.state = m ∧ (settledIn m code s).mech.inFlight = s.mech.inFlight ∧
      (settledIn m code s).mech.slot = s.mech.slot ∧ (settledIn m code s).mech.owner = s.mech.owner ∧
      (settledIn m code s).mech.recoveryPending = s.mech.recoveryPending ∧ (settledIn m code s).mech.standbyStop = s.mech.standbyStop ∧
      (settledIn m code s).reports = s.reports ∧ (settledIn m code s).pins.leaderEnd = s.pins.leaderEnd ∧
      (settledIn m code s).pins.leaderStart = s.pins.leaderStart ∧ (settledIn m code s).pos.counter = s.pos.counter ∧
      (settledIn m code s).pos.approx = s.pos.approx ∧ (settledIn m code s).mark.list = s.mark.list ∧
      (settledIn m code s).mark.search = s.mark.search ∧ (settledIn m code s).tuner = s.tuner ∧ (settledIn m code s).clock = s.clock ∧
      (settledIn m code s).pwr = s.pwr := by
  refine ⟨?_, ?_, ?_, ?_, ?_, ?_, ?_, ?_, ?_, ?_, ?_, ?_, ?_, ?_, ?_, ?_⟩ <;> simp [settledIn, arrivedIn, moveEnded, motorOff, camAt]

theorem haltFreed_halted {s : State} {q : Search} (h : s.SearchWaits q .stop) : SearchHalted s (haltFreed s) := by
  have hrec : s.mech.state ≠ .record := by rw [h.state]; decide
  obtain ⟨mstate, -, -, -, mknown, mkept, -, pend, pstart, kcounter, kapprox, klist, -, ktuner, kclock, kpwr⟩ :=
    settledIn_keeps .halt 3 s
  have hsched := settledIn_sched .halt 3 hrec
  have hlink := settledIn_link (m := .halt) 3 h.quiet rfl
  have hquiet := quiet_settledIn (m := .halt) 3 h.quiet rfl rfl
  unfold haltFreed
  generalize settledIn .halt 3 s = x at *
  exact ⟨⟨mknown.trans h.known, mkept.trans h.goesOn, rfl, by show x.mech.state.transition = false; rw [mstate]; rfl⟩, mstate, rfl, rfl,
    ⟨pend.trans h.ends.1, pstart.trans h.ends.2⟩, ⟨hquiet.motion, hquiet.writer, hquiet.reference⟩, kapprox, hlink, hsched, rfl,
    ⟨kcounter, klist, ktuner, kclock, congrArg Sched.slots hsched, (congrArg Sched.holder hsched).trans h.idle.2, kpwr⟩⟩

theorem haltFreed_search {s : State} {q : Search} (h : s.SearchWaits q .stop) : (haltFreed s).mark.search = some q := by
  obtain ⟨-, -, -, -, -, -, -, -, -, -, -, -, ksearch, -⟩ := settledIn_keeps .halt 3 s
  exact ksearch.trans h.search

/-- R1, R10, R11, R89: the search's STOP arrives in HALT, and the search goes on from there. -/
theorem exec_searchHalts {s z : State} {q : Search} (h : s.SearchWaits q .stop) (ht : s.mech.target = .halt) (hc : s.mech.camTarget = some 3)
    (hz : searchAdvance q (haltFreed s) = z) (hn : z.sched = s.sched) (hl : z.reports.length ≤ 255)
    (hr : ∀ a ∈ z.reports, a.idle true = true) : ∃ d, exec (.camTargetReached 3) s = .next (ended d z) := by
  have h1 : (camAt 3 s).mech.state = .shifting := h.state
  have h2 : (camAt 3 s).mech.target = .halt := ht
  have hsearch := haltFreed_search h
  obtain ⟨mstate, mflight, mslot, mowner, -, -, kreports, -⟩ := settledIn_keeps .halt 3 s
  have hreach : camArrived (camAt 3 s) = complete (settledIn .halt 3 s) := by
    simp only [camArrived, h1, reachTarget, h2, reachHalt]
    rw [show ((setState .halt none false (moveEnded (camAt 3 s))).onMech fun m => { m with cause := none }) = settledIn .halt 3 s from rfl,
      mflight, h.flight]
  have hnext : (settle (searchCloses q.tag .stop (settledIn .halt 3 s))).nextReport [.evaluate] = haltFreed s ∧
      (settle (searchCloses q.tag .stop (settledIn .halt 3 s))).reports = [.closedSearch q.tag .stop (.done .halt), .evaluate] := by
    unfold haltFreed
    generalize settledIn .halt 3 s = x at *
    rw [settle_freed (s := searchCloses q.tag .stop x) rfl (.inl mstate) (mowner.trans h.owner)]
    refine ⟨rfl, ?_⟩
    simp [searchCloses, kreports, h.hears.2, mstate]
  rw [exec_camArrives h.hears hc, hreach, complete_search (mflight.trans h.flight) (mslot.trans h.empty)]
  generalize settle (searchCloses q.tag .stop (settledIn .halt 3 s)) = x at *
  obtain ⟨d, hd⟩ := finish_after true hnext.2 (z := z) (by rw [hnext.1, searchClosed_done hsearch h.waiting, hz])
    (h.idle.of_sched hn) (by simp) hl hr
  exact ⟨d, by rw [hd]⟩

/-- The search with its command closed. -/
def Search.told (q : Search) : Search := { q with waiting := none }

/-- In HALT the search issues its next command. -/
theorem exec_haltIssues {s : State} {q k : Search} (h : s.SearchWaits q .stop) (ht : s.mech.target = .halt) (hc : s.mech.camTarget = some 3)
    {r : MechCmd × MState × CamCode} (hr : r ∈ searchMotions)
    (hz : searchAdvance q (haltFreed s) = searchIssue k r.1 (setSearch (some q.told) (haltFreed s))) :
    ∃ u, exec (.camTargetReached 3) s = .next u ∧ SearchIssues k r s u := by
  obtain ⟨hissues, hsched, hidle, hlen⟩ := ((haltFreed_halted h).setSearch (some q.told)).issues hr k
  obtain ⟨d, hd⟩ := exec_searchHalts h ht hc hz hsched (by omega) hidle
  exact ⟨_, hd, hissues.ended d⟩

/-- In HALT the search ends, found. -/
theorem exec_haltFinds {s : State} {q : Search} (h : s.SearchWaits q .stop) (ht : s.mech.target = .halt) (hc : s.mech.camTarget = some 3)
    (hz : searchAdvance q (haltFreed s) = searchEnd .found .none (setSearch (some q.told) (haltFreed s))) :
    ∃ u, exec (.camTargetReached 3) s = .next u ∧ SearchFound q.told .halt .none s u := by
  obtain ⟨hfound, hsched, hreports⟩ := ((haltFreed_halted h).setSearch (some q.told)).found (q := q.told) rfl
    (by have := h.room; simp only [State.roomFor] at *; omega)
  obtain ⟨d, hd⟩ := exec_searchHalts h ht hc hz hsched (by simp [hreports]) (by simp [hreports, Report.idle])
  exact ⟨_, hd, hfound.ended d⟩

/-- R89: at the target, and after the second STOP, a scan or play-after plays, and any other search is found. -/
theorem searchSettled_eq (q : Search) (y : State) : searchSettled q.told y =
    if q.kind = .scan ∨ q.playAfter = true then searchIssue { q with state := .playing, waiting := none } .play y
    else searchEnd .found .none y := rfl

theorem searchAdvance_stopLast {q : Search} (hq : q.state = .stopLast) (y : State) :
    searchAdvance q y = searchSettled q.told (setSearch (some q.told) y) := by
  cases q
  subst hq
  rfl

theorem searchAdvance_stopFirst {q : Search} {t0 : Int} (hq : q.state = .stopFirst) (ht : q.target = some t0) (y : State) :
    searchAdvance q y = searchCompare q.told t0 (setSearch (some q.told) y) := by
  cases q
  subst hq ht
  rfl

/-- R89, step 1: from HALT above the target REVIEW, below it CUE, at it settling is complete. -/
theorem searchCompare_above (q : Search) {t0 : Int} {y : State} (h : t0 < y.pos.counter) :
    searchCompare q.told t0 y = searchIssue { q with state := .moving, waiting := none } .review y := if_pos h

theorem searchCompare_below (q : Search) {t0 : Int} {y : State} (h : y.pos.counter < t0) :
    searchCompare q.told t0 y = searchIssue { q with state := .moving, waiting := none } .cue y :=
  (if_neg (by omega)).trans (if_pos h)

theorem searchCompare_at (q : Search) {t0 : Int} {y : State} (h : y.pos.counter = t0) : searchCompare q t0 y = searchSettled q y :=
  (if_neg (by omega)).trans (if_neg (by omega))

theorem searchAdvance_playing {q : Search} (hq : q.state = .playing) (y : State) : searchAdvance q y =
    if q.kind = .scan then
      setSearch (some { q.told with state := .scanPlay, count := satInc 255 q.count, timer := some y.now }) (setSearch (some q.told) y)
    else searchEnd .found .none (setSearch (some q.told) y) := by
  cases q
  subst hq
  rfl

/-! ## PLAY reached (R89, R91) -/

/-- The deck in PLAY behind the search's command. -/
def playReached (s : State) : State :=
  { arrivedIn .play 4 s with mech := { (arrivedIn .play 4 s).mech with inFlight := none }, reports := [] }

theorem arrivedIn_keeps (m : MState) (code : CamCode) (s : State) :
    (arrivedIn m code s).mech.state = m ∧ (arrivedIn m code s).mech.inFlight = s.mech.inFlight ∧
      (arrivedIn m code s).mech.slot = s.mech.slot ∧ (arrivedIn m code s).mech.owner = s.mech.owner ∧
      (arrivedIn m code s).reports = s.reports ∧ (arrivedIn m code s).pos.counter = s.pos.counter ∧
      (arrivedIn m code s).pos.approx = s.pos.approx ∧ (arrivedIn m code s).mark.list = s.mark.list ∧
      (arrivedIn m code s).mark.search = s.mark.search ∧ (arrivedIn m code s).tuner = s.tuner ∧ (arrivedIn m code s).clock = s.clock ∧
      (arrivedIn m code s).pwr = s.pwr := by
  refine ⟨?_, ?_, ?_, ?_, ?_, ?_, ?_, ?_, ?_, ?_, ?_, ?_⟩ <;> simp [arrivedIn, moveEnded, motorOff, camAt]

theorem exec_searchPlays {s z : State} {q : Search} (h : s.SearchWaits q .play) (ht : s.mech.target = .play) (hc : s.mech.camTarget = some 4)
    (hz : searchAdvance q (playReached s) = z) (hn : z.sched = s.sched) (hr : z.reports = []) :
    ∃ d, exec (.camTargetReached 4) s = .next (ended d z) := by
  obtain ⟨mstate, mflight, mslot, -, kreports, -, -, -, ksearch, -⟩ := arrivedIn_keeps .play 4 s
  have hsearch : (playReached s).mark.search = some q := ksearch.trans h.search
  have hnext : (settle (searchCloses q.tag .play (arrivedIn .play 4 s))).nextReport [] = playReached s ∧
      (settle (searchCloses q.tag .play (arrivedIn .play 4 s))).reports = [.closedSearch q.tag .play (.done .play)] := by
    unfold playReached
    generalize arrivedIn .play 4 s = x at *
    rw [settle_kept (.inr (.inl (by simp [searchCloses, mstate])))]
    exact ⟨rfl, by simp [searchCloses, kreports, h.hears.2, mstate]⟩
  rw [exec_reachMotion (by simp) h.hears h.state ht hc fun _ => h.ends.1, complete_search (mflight.trans h.flight) (mslot.trans h.empty)]
  generalize settle (searchCloses q.tag .play (arrivedIn .play 4 s)) = x at *
  obtain ⟨d, hd⟩ := finish_after true hnext.2 (z := z) (by rw [hnext.1, searchClosed_done hsearch h.waiting, hz])
    (h.idle.of_sched hn) (by simp) (by simp [hr]) (by simp [hr])
  exact ⟨d, by rw [hd]⟩

/-- What stands in PLAY: the counter, the marks and the other blocks as they were, nothing told. -/
structure SearchInPlay (s y : State) : Prop where
  kept    : SearchKept s y
  state   : y.mech.state = .play
  flight  : y.mech.inFlight = none
  owner   : y.mech.owner = .panel
  approx  : y.pos.approx = s.pos.approx
  link    : y.link = s.link
  sched   : y.sched = s.sched
  reports : y.reports = []

theorem SearchInPlay.setSearch {s y : State} (h : SearchInPlay s y) (q : Option Search) : SearchInPlay s (setSearch q y) :=
  ⟨h.kept.setSearch q, h.state, h.flight, h.owner, h.approx, h.link, h.sched, h.reports⟩

theorem SearchInPlay.found {s y : State} (h : SearchInPlay s y) {q : Search} (hs : y.mark.search = some q) (hroom : s.roomFor 1) :
    SearchFound q .play .panel s (searchEnd .found .none y) ∧ (searchEnd .found .none y).sched = s.sched ∧
      (searchEnd .found .none y).reports = [] := by
  obtain ⟨kmark, kmech, -, -, -, ksched, -, kreports⟩ := searchEnded_keeps q .found .none y
  rw [searchEnd_eq hs]
  refine ⟨⟨h.kept.searchEnded _ _ _, by rw [kmark], by rw [kmech]; exact h.state, by rw [kmech]; exact h.flight, by rw [kmech]; exact h.owner, ?_⟩,
    ksched.trans h.sched, kreports.trans h.reports⟩
  rw [searchEnded_notices _ _ _ (by rw [State.roomFor, h.link]; exact hroom), h.link, endNotice, endNotice, h.kept.counter, h.approx]

theorem playReached_inPlay {s : State} {q : Search} (h : s.SearchWaits q .play) : SearchInPlay s (playReached s) := by
  obtain ⟨mstate, -, -, mowner, -, kcounter, kapprox, klist, -, ktuner, kclock, kpwr⟩ := arrivedIn_keeps .play 4 s
  have hsched := arrivedIn_sched .play 4 (s := s) (by rw [h.state]; decide)
  have hlink := arrivedIn_link (m := .play) 4 h.quiet rfl
  unfold playReached
  generalize arrivedIn .play 4 s = x at *
  exact ⟨⟨kcounter, klist, ktuner, kclock, congrArg Sched.slots hsched, (congrArg Sched.holder hsched).trans h.idle.2, kpwr⟩, mstate, rfl,
    mowner.trans h.owner, kapprox, hlink, hsched, rfl⟩

/-- R89: in PLAY a search other than a scan ends, found. -/
theorem exec_playFinds {s : State} {q : Search} (h : s.SearchWaits q .play) (ht : s.mech.target = .play) (hc : s.mech.camTarget = some 4)
    (hq : q.state = .playing) (hk : q.kind ≠ .scan) : ∃ u, exec (.camTargetReached 4) s = .next u ∧ SearchFound q.told .play .panel s u := by
  obtain ⟨hfound, hsched, hreports⟩ := ((playReached_inPlay h).setSearch (some q.told)).found (q := q.told) rfl
    (by have := h.room; simp only [State.roomFor] at *; omega)
  obtain ⟨d, hd⟩ := exec_searchPlays h ht hc ((searchAdvance_playing hq _).trans (if_neg hk)) hsched hreports
  exact ⟨_, hd, hfound.ended d⟩

theorem satInc_eq (limit n : Nat) : satInc limit n = min limit (n + 1) := by
  unfold satInc
  split <;> omega

/-- R91: a scan in PLAY, the mark counted and its 8 s begun. -/
def Search.scanning (q : Search) (now : Nat) : Search :=
  { q with state := .scanPlay, count := satInc 255 q.count, timer := some now, waiting := none }

theorem searchAdvance_scans {q : Search} (hq : q.state = .playing) (hk : q.kind = .scan) (y : State) :
    searchAdvance q y = setSearch (some (q.scanning y.now)) y := by
  rw [searchAdvance_playing hq, if_pos hk]
  rfl

theorem exec_playScans {s : State} {q : Search} (h : s.SearchWaits q .play) (ht : s.mech.target = .play) (hc : s.mech.camTarget = some 4)
    (hq : q.state = .playing) (hk : q.kind = .scan) :
    ∃ u y, exec (.camTargetReached 4) s = .next u ∧ SearchInPlay s y ∧ (∃ d, u = ended d y) ∧
      y.mark.search = some (q.scanning s.now) := by
  have hin := playReached_inPlay h
  have hnow : (playReached s).now = s.now := hin.kept.now
  obtain ⟨d, hd⟩ := exec_searchPlays h ht hc (searchAdvance_scans hq hk _) (hin.setSearch _).sched (hin.setSearch _).reports
  rw [hnow] at hd
  exact ⟨_, setSearch (some (q.scanning s.now)) (playReached s), hd, hin.setSearch (some (q.scanning s.now)), ⟨d, Eq.refl _⟩, Eq.refl _⟩

/-! ## A search command that times out (R4, R93) -/

/-- R4: MECH jammed under a search's command, with the reports to the search and to SCHED. -/
def searchJammed (tag : Nat) (w : MechCmd) (s : State) : State :=
  report (.interrupted (.fault .camTimeout)) (report .faultSched (notify (.mechFault .camTimeout .jammed)
    (report (.closedSearch tag w (.discarded .camTimeout)) ((jamEntered s).onMech fun m => { m with inFlight := none }))))

theorem searchJammed_mech (tag : Nat) (w : MechCmd) (s : State) :
    (searchJammed tag w s).mech = { (jamEntered s).mech with inFlight := none } := by
  simp [searchJammed]

theorem jam_search {s : State} {q : Search} {w : MechCmd} (h : s.SearchWaits q w) : jam s = searchJammed q.tag w s := by
  have hflight : (jamEntered s).mech.inFlight = some { what := w, origin := .search, tag := q.tag } := by
    simpa [jamEntered, moveEnded, motorOff] using h.flight
  have hslot : (jamEntered s).mech.slot = none := by simpa [jamEntered, moveEnded, motorOff] using h.empty
  have hrun : (jamEntered s).mech.recoveryRun = false := by simpa [jamEntered, moveEnded, motorOff] using h.run
  have hkept : (jamEntered s).mech.standbyStop = false := by simpa [jamEntered, moveEnded, motorOff] using h.goesOn
  have hjam : jam s = standbyEnds false (recoveryEnds (searchJammed q.tag w s)) := by
    simp only [jam]
    rw [show (setState .jammed none false (moveEnded s)).onMech (fun m => { m with fault := .camTimeout, cause := none }) = jamEntered s from rfl,
      discardBoth, closeInFlight_search hflight,
      closeSlot_none (by simpa using hslot)]
    rfl
  rw [hjam, recoveryEnds, if_neg (by rw [searchJammed_mech]; simp [hrun]), standbyEnds, if_neg (by rw [searchJammed_mech]; simp [hkept])]

theorem jamEntered_keeps (s : State) : (jamEntered s).mech.state = .jammed ∧ (jamEntered s).reports = s.reports ∧
    (jamEntered s).pos.counter = s.pos.counter ∧ (jamEntered s).pos.approx = s.pos.approx ∧ (jamEntered s).mark.list = s.mark.list ∧
    (jamEntered s).mark.search = s.mark.search ∧ (jamEntered s).tuner = s.tuner ∧ (jamEntered s).clock = s.clock ∧
    (jamEntered s).pwr = s.pwr := by
  refine ⟨?_, ?_, ?_, ?_, ?_, ?_, ?_, ?_, ?_⟩ <;> simp [jamEntered, moveEnded, motorOff]

/-- What stands where a search's command has timed out, before the search hears of it. -/
structure SearchJams (q : Search) (s y : State) : Prop where
  kept    : SearchKept s y
  state   : y.mech.state = .jammed
  search  : y.mark.search = some q
  approx  : y.pos.approx = s.pos.approx
  sched   : y.sched = s.sched
  notices : y.link.notices = s.link.notices ++ [.mechFault .camTimeout .jammed]

theorem searchJammed_jams {s : State} {q : Search} {w : MechCmd} (h : s.SearchWaits q w) (l : List Report) :
    SearchJams q s ((searchJammed q.tag w s).nextReport l) ∧ (searchJammed q.tag w s).reports =
      [.closedSearch q.tag w (.discarded .camTimeout), .faultSched, .interrupted (.fault .camTimeout)] := by
  obtain ⟨mstate, kreports, kcounter, kapprox, klist, ksearch, ktuner, kclock, kpwr⟩ := jamEntered_keeps s
  have hsched := jamEntered_sched (s := s) (by rw [h.state]; decide)
  have hlink := jamEntered_link h.quiet
  unfold searchJammed
  generalize jamEntered s = x at *
  obtain ⟨k, hk, k1, -, -⟩ := notify_eq (n := .mechFault .camTimeout .jammed)
    (x := report (.closedSearch q.tag w (.discarded .camTimeout)) (x.onMech fun m => { m with inFlight := none }))
    (by have := h.room; simp only [State.roomFor, report_link, State.onMech_link, hlink] at *; omega)
  rw [hk]
  refine ⟨⟨⟨kcounter, klist, ktuner, kclock, congrArg Sched.slots hsched, (congrArg Sched.holder hsched).trans h.idle.2, kpwr⟩, mstate,
    ksearch.trans h.search, kapprox, hsched, ?_⟩, ?_⟩
  · rw [report_link, State.onMech_link, hlink] at k1
    exact k1
  · simp [kreports, h.hears.2]

/-- R93: the search hears that its command has been discarded by the timeout. -/
theorem searchClosed_timeout {q : Search} {w : MechCmd} {y : State} (hs : y.mark.search = some q) (hw : q.waiting = some w) :
    handleReport (.closedSearch q.tag w (.discarded .camTimeout)) y = searchEnded q .failed (.cause .camTimeout) y := by
  simp only [handleReport, searchClosed, hs, hw, and_self, if_true]
  exact searchEnd_eq hs _ _

theorem exec_searchTimeout {s : State} {q : Search} {w : MechCmd} (h : s.SearchWaits q w) {t0 : Nat} (ht : s.mech.camTimer = some t0)
    (hd : 1500 * 32768 ≤ (s.now - t0) * 1000) : ∃ u, exec .camTimeout s = .next u ∧ SearchKept s u ∧ u.mech.state = .jammed ∧
      u.mark.search = none ∧ u.link.notices =
        s.link.notices ++ [.mechFault .camTimeout .jammed, endNotice q .failed (.cause .camTimeout) s] := by
  have hlen : camTimeoutLength s.mech.state = 1500 := by rw [h.state]; rfl
  obtain ⟨hjams, hreports⟩ := searchJammed_jams h [.faultSched, .interrupted (.fault .camTimeout)]
  have hexec : exec .camTimeout s = .next (finish (searchJammed q.tag w s)) := by
    rw [exec_camTimeout h.hears ht, hlen, if_pos hd, jam_search h]
  rw [hexec]
  have hhear := searchClosed_timeout hjams.search h.waiting
  have hrest : ((searchJammed q.tag w s).nextReport [.faultSched, .interrupted (.fault .camTimeout)]).reports =
    [.faultSched, .interrupted (.fault .camTimeout)] := rfl
  generalize hy : (searchJammed q.tag w s).nextReport [.faultSched, .interrupted (.fault .camTimeout)] = y at *
  obtain ⟨kmark, kmech, -, -, -, ksched, -, kreports⟩ := searchEnded_keeps q .failed (.cause .camTimeout) y
  obtain ⟨d, hfin⟩ := finish_after false hreports (z := searchEnded q .failed (.cause .camTimeout) y) (by rw [hy]; exact hhear)
    (h.idle.of_sched (ksched.trans hjams.sched)) (fun _ => by rw [kmark]) (by simp [kreports, hrest])
    (by simp [kreports, hrest, Report.idle, Report.deaf])
  have hroom : y.roomFor 1 := by
    have := h.room
    simp only [State.roomFor, hjams.notices, List.length_append, List.length_singleton] at *
    omega
  refine ⟨_, by rw [hfin], (hjams.kept.searchEnded _ _ _).ended d, ?_, ?_, ?_⟩
  · rw [ended_mech, kmech]; exact hjams.state
  · rw [ended_mark, kmark]
  · rw [ended_link_notices, searchEnded_notices _ _ _ hroom, hjams.notices, endNotice, endNotice, hjams.kept.counter, hjams.approx,
      List.append_assoc]
    rfl

end Sys2Proof.Machine

/-!
Sys2Proof/Proofs/SearchOutcomes: the searches from their pulses, closings and ends (O31).
-/

namespace Sys2Proof.Machine

/-- Settles O31: the two timers, the marks and frames of a search's motion, the closings of its commands, and the events that end it. -/
theorem searchesCountSettleAndEnd : Obligations.SearchesCountSettleAndEnd := by
  refine ⟨?_, ?_, ?_, ?_, ?_, ?_, ?_⟩
  · -- the blank search's 2 s
    intro s q t0 hh hs hk hq ht hm ho hknown hkept hfree
    refine ⟨fun hnot => ?_, fun hdue => ?_⟩
    · rw [exec_blankTimer hh, blankTimeout_eq hs hk hq ht, if_neg (by omega), finish_closed _ hh.2]
    · have h := finish_blankTimeout hh.2 hs hk hq ht ⟨hknown, hkept, hfree, rests_of_searchStates (by simp [hm, searchStates])⟩ hm ho hdue
      exact ⟨_, _, exec_blankTimer hh, h.search, hk, rfl, rfl, rfl, rfl, h.state, h.target, h.flight, h.owner, h.counter, h.list, h.outer⟩
  · -- the scan's 8 s
    intro s q t0 hh hs hk hq ht hm ho hknown hkept hfree he
    refine ⟨fun hnot => ?_, fun hdue => ?_⟩
    · rw [exec_scanPlayTimer hh, scanPlayTimeout_eq hs hk hq ht, if_neg (by omega), finish_closed _ hh.2]
    · have h := finish_scanPlayTimeout hh.2 hs hk hq ht ⟨hknown, hkept, hfree, rests_of_searchStates (by simp [hm, searchStates])⟩ hm ho he hdue
      exact ⟨_, _, exec_scanPlayTimer hh, h.search, hk, rfl, rfl, rfl, rfl, h.state, h.target, h.aim, h.flight, h.counter, h.list, h.outer⟩
  · -- the timers without a search
    intro s hh hs
    exact ⟨by rw [exec_blankTimer hh, blankTimeout, hs, finish_closed _ hh.2], by rw [exec_scanPlayTimer hh, scanPlayTimeout, hs, finish_closed _ hh.2]⟩
  · -- a mark read in the wind
    intro s q x t v duty interval env p phase hh hs hw hwait ht hm hst hj hf hslot ho hknown hkept hwr hhold htar happrox hsp hlo hhi
      hd1 hd2 hphase hsound hun hv run hrun counted after stops
    have hmoves : s.mech.state ∈ [MState.cue, .review, .fwind, .rwind] := by
      cases hx : x.forward <;> simp_all
    have hwaits : ¬ (q.kind = .blank ∧ q.state = .winding ∧ s.mech.state = .cue) := by
      cases hx : x.forward <;> simp_all
    have hruns : s.SearchRuns q x := ⟨hs, hm, hmoves, ⟨hknown, hkept, hf, rests_of_searchStates (List.mem_cons_of_mem _ hmoves)⟩, ho, hj, hwr,
      hhold, htar, hwaits, hlo, hhi, hh.2⟩
    have hclosed : marksClosed x duty s = [{ pos := p, type := t, value := some v }] := marksClosed_mark hd1 hd2 hphase hsound hun hv hrun
    have hexec := exec_replayed (duty := duty) (interval := interval) (env := env) (phase := phase) hh.1
    have passes {k : Search} (hk : k.target = none) (hmet : ∀ y : State, y.mark.search = some q → searchMark t p y = setSearch (some k) y) :
        after fun u => u.mark.search = some k ∧ sameMech s u := by
      obtain ⟨hmark, hsearch, hmech⟩ := finish_markPassed (duty := duty) (interval := interval) (env := env) (phase := phase) hruns hclosed
        happrox hk hmet
      exact ⟨_, hexec, hmark.counter, hmark.list, hmark.outer, hsearch, hmech⟩
    have settles (c : Nat) (hmet : ∀ y : State, y.mark.search = some q → searchMark t p y =
        searchIssue { q with count := c, target := some p, state := .stopFirst, timer := none } .stop y) : after fun u => stops u c := by
      obtain ⟨hmark, y, hy, hends⟩ := finish_markStops (duty := duty) (interval := interval) (env := env) (phase := phase) hruns hclosed
        happrox rfl hmet
      exact ⟨_, hexec, hmark.counter, hmark.list, hmark.outer, hends.search, hends.state, hends.target, hends.aim, hy.now ▸ hends.timer,
        hends.flight, hends.owner⟩
    refine ⟨fun hn hscan => ?_, fun hc hne => ?_, fun hc heq => ?_, fun hi hk => ?_⟩
    · exact passes ht fun y hy => (searchMark_other hy (by rw [counts_iff]; exact hn) hscan).trans (setSearch_self hy).symm
    · obtain ⟨rfl, hk, hcount⟩ := hc
      exact passes (k := { q with count := q.count + 1 }) ht fun y hy =>
        (searchMark_counted hy hw hk ((counts_iff _ _).mpr hcount)).trans (if_neg hne)
    · obtain ⟨rfl, hk, hcount⟩ := hc
      exact settles _ fun y hy => (searchMark_counted hy hw hk ((counts_iff _ _).mpr hcount)).trans (if_pos heq)
    · subst hi
      exact settles _ fun y hy => searchMark_scan hy hw hk
  · -- a frame that reaches a target
    intro s q x t0 phase duty interval env m st hh hs hw ht hm hst hcase hj hf hslot ho hknown hkept hwr hread hhold htar hsp hlo hhi
    have hmoves : s.mech.state ∈ [MState.cue, .review, .fwind, .rwind] := by
      rcases hcase with ⟨-, rfl, -⟩ | ⟨-, -, rfl, -⟩ <;> cases hx : x.forward <;> simp_all
    have hstop : ∃ r, StopsAt t0 q r ∧ r.state = st ∧ r.kind = q.kind ∧ r.target = q.target ∧ r.count = q.count ∧
        r.playAfter = q.playAfter ∧ r.tag = q.tag := by
      rcases hcase with ⟨hq, -, rfl⟩ | ⟨hq, hk, -, rfl⟩
      · exact ⟨_, ⟨hw, ht, .inl ⟨hq, rfl⟩⟩, rfl, rfl, rfl, rfl, rfl, rfl⟩
      · exact ⟨_, ⟨hw, ht, .inr ⟨hq, hk, rfl⟩⟩, rfl, rfl, rfl, rfl, rfl, rfl⟩
    have hwaits : ¬ (q.kind = .blank ∧ q.state = .winding ∧ s.mech.state = .cue) := by
      rcases hcase with ⟨hq, -, -⟩ | ⟨-, hk, -, -⟩ <;> simp_all
    have hruns : s.SearchRuns q x := ⟨hs, hm, hmoves, ⟨hknown, hkept, hf, rests_of_searchStates (List.mem_cons_of_mem _ hmoves)⟩, ho, hj, hwr,
      hhold, htar, hwaits, hlo, hhi, hh.2⟩
    obtain ⟨r, hr, rstate, rkind, rtarget, rcount, rplay, rtag⟩ := hstop
    refine ⟨_, exec_replayed hh.1, ?_⟩
    by_cases hthere : reaches x.forward t0 (stepped x.forward s.pos.counter)
    · obtain ⟨y, hy, hlist, he⟩ := replayedPulse_stops (duty := duty) (interval := interval) (env := env) (phase := phase) hruns hr hread hthere
      obtain ⟨hends, houter⟩ := finish_pulseStops (r := r) hruns hy
      rw [he]
      exact ⟨hends.counter.trans hy.counter, hends.list.trans hlist, houter, fun hn => absurd hthere hn, fun _ =>
        ⟨⟨_, hends.search, rstate, rkind, rtarget.trans ht, rcount, rplay, rfl⟩, hends.state, hends.target, hends.aim, rtag ▸ hends.flight,
          hends.owner⟩⟩
    · obtain ⟨hy, hlist, hsearch⟩ := replayedPulse_goesOn (duty := duty) (interval := interval) (env := env) (phase := phase) hruns hr hread hthere
      obtain ⟨hcounter, hmark, houter, hmech⟩ := finish_pulsed hh.2 hy
      exact ⟨hcounter, hmark ▸ hlist, houter, fun _ => ⟨hmark ▸ hsearch.trans hs, hmech⟩, fun hn => absurd hn hthere⟩
  · -- a search command closed
    intro s q w hh hn hs hw hst hf hslot ho hknown hgo hrun hle hls hmo hwr href hroom found kept issues settled
    have hwaits : s.SearchWaits q w := ⟨hh, hn, hs, hw, hst, hf, hslot, ho, hknown, hgo, hrun, ⟨hle, hls⟩, ⟨hmo, hwr, href⟩, hroom⟩
    have hfound : endNotice q.told .found .none s = found := congrArg (Notice.searchEnd _ _ _ _ _) (counted_eq q)
    have keeps {u : State} (h : SearchKept s u) : kept u := ⟨h.counter, h.list, h.tuner, h.clock, h.slots, h.holder, h.pwr⟩
    have issued {st : SearchState} {r : MechCmd × MState × CamCode}
        (h : ∃ u, exec (.camTargetReached 3) s = .next u ∧ SearchIssues { q with state := st, waiting := none } r s u) :
        issues (.camTargetReached 3) r.1 r.2.1 r.2.2 st := by
      obtain ⟨u, he, hu⟩ := h
      exact ⟨u, he, keeps hu.kept, hu.search, hu.state, hu.target, hu.aim, hu.timer, hu.flight, hu.owner, hu.notices⟩
    have settles (hstop : w = .stop) (ht : s.mech.target = .halt) (hc : s.mech.camTarget = some 3)
        (hz : searchAdvance q (haltFreed s) = searchSettled q.told (setSearch (some q.told) (haltFreed s))) : settled := by
      subst hstop
      refine ⟨fun hp => ?_, fun hk hp => ?_⟩
      · exact issued (exec_haltIssues hwaits ht hc (r := (.play, .play, 4)) (by simp [searchMotions])
          (hz.trans ((searchSettled_eq q _).trans (if_pos hp))))
      · obtain ⟨u, he, hu⟩ := exec_haltFinds hwaits ht hc (hz.trans ((searchSettled_eq q _).trans (if_neg (by simp [hk, hp]))))
        exact ⟨u, he, keeps hu.kept, hu.search, hu.state, hu.flight, hu.owner, hfound ▸ hu.notices⟩
    refine ⟨fun hstop ht hc => ⟨fun t0 hq htar => ?_, fun hq => ?_⟩, fun hplay ht hc hq => ?_, fun t0 htimer hdue => ?_⟩
    · have hadv := searchAdvance_stopFirst hq htar (haltFreed s)
      have hcounter : (setSearch (some q.told) (haltFreed s)).pos.counter = s.pos.counter := 
        ((haltFreed_halted (hstop ▸ hwaits)).setSearch (some q.told)).kept.counter
      refine ⟨fun hlt => ?_, fun hlt => ?_, fun heq => settles hstop ht hc (hadv.trans (searchCompare_at _ (hcounter.trans heq)))⟩
      · subst hstop
        exact issued (exec_haltIssues hwaits ht hc (r := (.review, .review, 5)) (by simp [searchMotions])
          (hadv.trans (searchCompare_above q (hcounter ▸ hlt))))
      · subst hstop
        exact issued (exec_haltIssues hwaits ht hc (r := (.cue, .cue, 4)) (by simp [searchMotions])
          (hadv.trans (searchCompare_below q (hcounter ▸ hlt))))
    · exact settles hstop ht hc (searchAdvance_stopLast hq _)
    · subst hplay
      by_cases hk : q.kind = .scan
      · obtain ⟨u, y, he, hin, ⟨d, rfl⟩, hsearch⟩ := exec_playScans hwaits ht hc hq hk
        refine ⟨_, he, keeps (hin.kept.ended d), hin.state, hin.flight, hin.owner, fun _ => ⟨?_, (ended_link_notices d y).trans (congrArg Link.notices hin.link)⟩,
          fun hn => absurd hk hn⟩
        rw [ended_mark, hsearch, Search.scanning, satInc_eq]
      · obtain ⟨u, he, hu⟩ := exec_playFinds hwaits ht hc hq hk
        exact ⟨u, he, keeps hu.kept, hu.state, hu.flight, hu.owner, fun h => absurd h hk, fun _ => ⟨hu.search, hfound ▸ hu.notices⟩⟩
    · obtain ⟨u, he, hkept, hstate, hsearch, hnotices⟩ := exec_searchTimeout hwaits htimer hdue
      exact ⟨u, he, keeps hkept, hstate, hsearch, by rw [hnotices, endNotice, counted_eq]⟩
  · -- leaders, a stall, the host's STOP
    intro s q hh hs hj hf hslot hhold hw href hcn hroom ends
    have halone : s.SearchAlone q := ⟨hh, hs, hf, hslot, hhold, hw, href, hcn, hroom⟩
    have telling {i : Instr} {before : List Notice} {r : SearchResult} {why : SearchWhy}
        (h : ∃ u, exec i s = .next u ∧ SearchOver q r why before s u) : ends i before r why := by
      obtain ⟨u, he, hu⟩ := h
      exact ⟨u, he, hu.search, hu.counter, hu.list, by rw [hu.notices, endNotice, counted_eq]⟩
    refine ⟨fun hm => telling (exec_endLeader_endsSearch halone ?_), fun hm => telling (exec_startLeader_endsSearch halone hm),
      fun hm hwait hmo hp hlt => telling (exec_reelStall_endsSearch halone hwait ?_), fun ht hb hr =>
        exec_stop_cancelsSearch ht hs hb hr hj hslot (by simp only [State.roomFor] at *; omega)⟩
    · simp only [List.mem_cons, List.not_mem_nil, or_false] at hm
      rcases hm with hm | hm <;> simp [inForward, hm, motionOf]
    · obtain ⟨x, hx⟩ := Option.isSome_iff_exists.mp hmo
      rw [stalled_iff hx, stallThreshold, if_pos hp]
      exact hlt

end Sys2Proof.Machine
